-- ==== Sys2Proof/Word.lean ====
section
/-! DEFINITION. Word.lean: the byte of the serial line, the two reels and a pair of like things, one per reel. -/

namespace Sys2Proof

/-- One byte of the serial line (chapter 10). -/
abbrev Byte := BitVec 8

/-- The two reels (00_scope section 3.7). -/
inductive Reel where
  | supply
  | takeup
  deriving DecidableEq, Repr

/-- One value for each reel. -/
structure PerReel (α : Type) where
  supply : α
  takeup : α
  deriving DecidableEq, Repr

def PerReel.get {α : Type} (x : PerReel α) : Reel → α
  | .supply => x.supply
  | .takeup => x.takeup

def PerReel.set {α : Type} (x : PerReel α) (r : Reel) (v : α) : PerReel α :=
  match r with
  | .supply => { x with supply := v }
  | .takeup => { x with takeup := v }

def PerReel.map {α β : Type} (x : PerReel α) (f : α → β) : PerReel β :=
  { supply := f x.supply, takeup := f x.takeup }

/-- The same value on both reels. -/
def PerReel.both {α : Type} (v : α) : PerReel α := { supply := v, takeup := v }

/-- Direction of travel; forward is from supply to take-up (00_scope section 3.1). -/
inductive Dir where
  | forward
  | reverse
  deriving DecidableEq, Repr

end Sys2Proof
end

