-- ==== Sys2Proof/Config.lean ====
section
/-! DEFINITION. Config.lean: the free values, constants with no body for what the spec leaves open.
No proof can see a value of one; a claim that holds, holds whatever they are. -/

namespace Sys2Proof.Config

/-- The drive code that the capstan loop sends while the capstan is not OFF. R71: the manual does not give
the loop's law, its gains or the range of the code. Applied to a counter, so that each sending is a fresh value. (DESIGN CHOICE,
log entry 11.) -/
opaque capstanDrive : Nat → Int

/-- The quotient of R103 when J is 0 (an empty reel with J_f = 0 at its hub): the spec states none.
Applied to the dividend. (DESIGN CHOICE, log entry 12.) -/
opaque quotientByZero : Int → Int

/-- The bits that a frame field of the given number of bits shows for a value outside its range:
chapter 11 states no rule for it. (DESIGN CHOICE, log entry 13.) -/
opaque outOfField : Nat → Int → Nat

/-- What a field of the channel record (Table 11-5) shows on a channel of the kind that has no such field
(Table 1-2): t_on and t_off of an arm channel, p of a presence channel. (DESIGN CHOICE, log entry 14.) -/
opaque absentField : Nat → Nat

/-- What the suppress flag of an arm channel's record shows: 0 or 1, as every flag the part sends (R192), but Table 1-2 gives an
arm channel no such field. (DESIGN CHOICE, log entry 14.) -/
opaque absentFlag : Bool

/-- The record sent for a selector that names no channel, side or counter, where the rule answers OK
(SET_SENSE, SET_REEL and SET_COUNTER with the apply flag clear) or carries a record with a refusal (SET_ARM_CAL):
byte by byte, applied to the selector and the byte's index; flags, codes and sets are formed from it in `Operands`. (DESIGN CHOICE, log entry 15.) -/
opaque undefinedRecord : Nat → Nat → Byte

/-- Whether a power-on reset during which RESET_IN is driven low still gives cause POWER_ON:
R190 gives the cause only for a reset begun by a request. (DESIGN CHOICE, log entry 16.) -/
opaque powerOnKeepsCause : Bool

/-- The target T_tgt that a SET_TENSION reply carries while the reel drives are DISABLED: Table 3-2 gives the modes of that
case no target. Applied to the stored T_nom. (DESIGN CHOICE, log entry 17.) -/
opaque noTarget : Nat → Int

end Sys2Proof.Config
end

