-- ==== Sys2Proof/Syntax.lean ====
section
/-! DEFINITION. Syntax.lean: the commands of the block, one constructor of `Instr` for each row of the opcode table.

A command is what reaches the part from outside at one moment: a request frame of the host (its tag and the
fields of Table 11-4), a byte or a silence on the serial line, an edge or a line change at a pin, the completion of a
measurement or a mechanical movement, a periodic event of a block, or the expiry of a timer.
Numeric fields carry the number the frame's bits spell; what a field may hold is in WellFormed.lean. -/

namespace Sys2Proof

/-- The three counters of the Sense Scanner that a measurement may stall on: one per arm, one shared (R5, R6). -/
inductive SenseCounter where
  | arm (reel : Reel)
  | presence
  deriving DecidableEq, Repr

inductive Instr where
  -- resets and the serial line
  | powerOn
  | resetInAssert
  | resetEnd
  | frameReceived (byte : Byte)
  | interByteTimeout
  | requestUnknownKind (kind tag : Byte) (payload : List Byte)
  | requestBadLength (kind tag : Byte) (payload : List Byte)
  | frameSent
  | telemetryTimerExpiry
  | resetAfterReply
  -- requests of the link and the Fault Unit
  | ping (tag : Byte) (payload : List Byte)
  | getStatus (tag : Byte)
  | reset (tag : Byte) (retain : Nat)
  | setNoticeLevel (tag : Byte) (kind level : Nat)
  | setTelemetry (tag : Byte) (period : Nat)
  | setLinkTimeout (tag : Byte) (timeout : Nat)
  | getFault (tag : Byte)
  | clearFault (tag : Byte)
  -- requests of the Sense Scanner, the Pack Estimator, the Tension Servo and the Capstan Controller
  | setSense (tag : Byte) (channel apply range cMin cMax tOn tOff suppress : Nat)
  | setArmCal (tag : Byte) (channel cCentre cFull : Nat)
  | setReel (tag : Byte) (side apply hub flange jf f tauLim tauFs : Nat)
  | setTape (tag : Byte) (apply t kj tMin tNom tMax tThr tSpan : Nat)
  | setTension (tag : Byte) (tension : Nat)
  | setGains (tag : Byte) (apply kpS kiS iMaxS kpT kiT iMaxT kv : Nat)
  | setSlew (tag : Byte) (sigma : Nat)
  | setCapstan (tag : Byte) (apply ell w rho : Nat)
  | setReference (tag : Byte) (source m d : Nat)
  | setVarispeed (tag : Byte) (vsHost : Int)
  | setLockNotice (tag : Byte) (choice : Nat)
  -- requests of the Motion Planner and the Position and Tach Unit
  | load (tag : Byte)
  | unload (tag : Byte)
  | play (tag : Byte)
  | wind (tag : Byte) (speed : Int)
  | stop (tag : Byte) (kind : Nat)
  | setLimits (tag : Byte) (apply vMax aAcc aDec guard : Nat)
  | presetPosition (tag : Byte) (value : Int)
  | positionFix (tag : Byte) (value : Int) (window : Nat)
  -- requests of the Zone Table and the Cue List
  | setZone (tag : Byte) (index enabled : Nat) (base : Int) (k limit scale dirs inhibit : Nat)
  | clearZone (tag : Byte) (index : Nat)
  | setBaseZone (tag : Byte) (limit scale dirs inhibit : Nat)
  | getZones (tag : Byte)
  | addCue (tag : Byte) (id : Nat) (position : Int) (kind : Nat) (label : List Byte)
  | deleteCue (tag : Byte) (id : Nat)
  | clearCues (tag : Byte)
  | getCues (tag : Byte) (start count : Nat)
  -- requests of the Locate and Chase Unit
  | locate (tag : Byte) (targetKind : Nat) (position : Int) (cueId thenPlay preroll approachDist approachSpeed tolerance : Nat)
  | chaseStart (tag : Byte) (offset : Int) (window lead paramFlag gain reseek freewheel : Nat)
  | masterPosition (tag : Byte) (position speed : Int)
  | chaseStop (tag : Byte)
  -- requests of the Transport Monitor and the Tension Survey
  | setCounter (tag : Byte) (counter apply event qualifier edge invert threshold ovfNotice enable : Nat)
  | readCounters (tag : Byte) (clear : Nat)
  | freeze (tag : Byte)
  | unfreeze (tag : Byte)
  | resetCounters (tag : Byte)
  | surveyStart (tag : Byte) (start finish : Int) (speed tension : Nat) (step : Int)
      (stepCount dwell limitSource limitValue slackThr excThr fastFlag thres shift : Nat)
  | surveyAbort (tag : Byte)
  | getSurvey (tag : Byte) (start count : Nat)
  -- sensing
  | armMeasurementComplete (reel : Reel) (count : Nat)
  | presenceMeasurementComplete (count : Nat)
  | measurementStalled (counter : SenseCounter)
  -- position, tachometers and packs
  | rollerEdge (dir : Dir)
  | reelTachEdge (reel : Reel) (winding : Bool)
  | predictionCountFull (reel : Reel) (winding : Bool)
  | packWindowComplete (reel : Reel) (winding : Bool)
  | packResync (reel : Reel) (winding : Bool)
  | speedSample
  -- the tension servo and the drive state
  | servoSample
  | saturation (reel : Reel)
  | slack (reel : Reel)
  | overtension (reel : Reel)
  | supplyLowAssert
  | supplyLowDeassert
  | driveRecoveryExpiry
  -- the capstan
  | capstanStep
  | capstanStall
  | capstanEncoderEdge (dir : Dir)
  | capstanLockGained (dir : Dir)
  | capstanLockLost (dir : Dir)
  | refInEdge (period : Nat)
  | internalReferenceEdge
  | referenceReturned (period : Nat)
  | referenceLost
  -- the motion planner
  | plannerStep
  | brakeComplete
  | pinchComplete
  | loadTakeUpDone
  | loadTimeout
  | engageMatch
  | pinchCloseCommand
  | engageTimeout
  | brakingStandstill
  -- locate and chase
  | locateUnitStep
  | locateSettled
  | chaseLocked (tag : Byte) (position speed : Int)
  | chaseLoss (tag : Byte) (position speed : Int)
  | chaseSilence
  | chaseMasterLost
  -- faults
  | powerFailAssert
  | powerFailDeassert
  | linkSilence
  -- the survey
  | surveySettleDone
  | surveyStepEnd
  | byteReceived (byte : Byte) (framingError : Bool)
  deriving DecidableEq, Repr

end Sys2Proof
end

