-- ==== Sys2Proof/Decode.lean ====
section
/-! DEFINITION. Decode.lean: the opcode table gives no row any bits, so no word spells a command; what this
hardware does decode is the REQUEST FRAME of the serial line (chapter 11). Here stand the fields of a payload, read and
written (section 11.1), the lengths of Table 11-4 (R194), the reading of a frame into the command it carries, and the
writing of a command's frame. -/

namespace Sys2Proof

/-- The opcode table of this block gives no row any bits: no word spells a command. -/
def decodeTableWord (_nbits _w : Nat) : Option Instr := none

/-- A request frame that passed framing and its check: kind, tag and payload (Table 11-1). -/
structure Frame where
  kind : Byte
  tag : Byte
  payload : List Byte
  deriving DecidableEq, Repr

/-! Fields of a payload, least significant byte first, signed fields in two's complement (section 11.1). -/

def readU8 (p : List Byte) (i : Nat) : Nat := (p.getD i 0).toNat

def readU16 (p : List Byte) (i : Nat) : Nat := readU8 p i + 256 * readU8 p (i + 1)

def readU32 (p : List Byte) (i : Nat) : Nat := readU16 p i + 65536 * readU16 p (i + 2)

/-- A two's-complement number of 2n values, given the number n of its positive half. -/
def signedOf (half n : Nat) : Int := if n < half then n else (n : Int) - 2 * half

def readS8 (p : List Byte) (i : Nat) : Int := signedOf 128 (readU8 p i)

def readS16 (p : List Byte) (i : Nat) : Int := signedOf 32768 (readU16 p i)

def readS32 (p : List Byte) (i : Nat) : Int := signedOf 2147483648 (readU32 p i)

def byteOf (n : Nat) : Byte := BitVec.ofNat 8 n

def bytesU8 (n : Nat) : List Byte := [byteOf n]

def bytesU16 (n : Nat) : List Byte := [byteOf n, byteOf (n / 256)]

def bytesU32 (n : Nat) : List Byte :=
  [byteOf n, byteOf (n / 256), byteOf (n / 65536), byteOf (n / 16777216)]

def bytesS8 (x : Int) : List Byte := bytesU8 (x % 256).toNat

def bytesS16 (x : Int) : List Byte := bytesU16 (x % 65536).toNat

def bytesS32 (x : Int) : List Byte := bytesU32 (x % 4294967296).toNat

/-- R194, Table 11-4: whether the payload length is one the kind allows; none for a kind the part does not define.
PING allows 0 to 8 bytes, ADD_CUE allows 7 + L with L its label length byte. -/
def lengthAllowed (kind : Nat) (p : List Byte) : Option Bool :=
  match kind with
  | 0x01 => some (p.length ≤ 8)
  | 0x38 => some (7 ≤ p.length && p.length = 7 + readU8 p 6)
  | 0x02 => some (p.length = 0)
  | 0x03 => some (p.length = 1)
  | 0x04 => some (p.length = 2)
  | 0x05 => some (p.length = 2)
  | 0x06 => some (p.length = 2)
  | 0x08 => some (p.length = 0)
  | 0x09 => some (p.length = 0)
  | 0x10 => some (p.length = 12)
  | 0x11 => some (p.length = 5)
  | 0x14 => some (p.length = 18)
  | 0x15 => some (p.length = 16)
  | 0x18 => some (p.length = 2)
  | 0x19 => some (p.length = 17)
  | 0x1A => some (p.length = 1)
  | 0x20 => some (p.length = 7)
  | 0x21 => some (p.length = 5)
  | 0x22 => some (p.length = 2)
  | 0x23 => some (p.length = 1)
  | 0x28 => some (p.length = 0)
  | 0x29 => some (p.length = 0)
  | 0x2A => some (p.length = 0)
  | 0x2B => some (p.length = 2)
  | 0x2C => some (p.length = 1)
  | 0x2D => some (p.length = 11)
  | 0x30 => some (p.length = 4)
  | 0x31 => some (p.length = 6)
  | 0x34 => some (p.length = 12)
  | 0x35 => some (p.length = 1)
  | 0x36 => some (p.length = 5)
  | 0x37 => some (p.length = 0)
  | 0x39 => some (p.length = 1)
  | 0x3A => some (p.length = 0)
  | 0x3B => some (p.length = 2)
  | 0x40 => some (p.length = 19)
  | 0x41 => some (p.length = 17)
  | 0x42 => some (p.length = 6)
  | 0x43 => some (p.length = 0)
  | 0x48 => some (p.length = 10)
  | 0x49 => some (p.length = 1)
  | 0x4A => some (p.length = 0)
  | 0x4B => some (p.length = 0)
  | 0x4C => some (p.length = 0)
  | 0x50 => some (p.length = 28)
  | 0x51 => some (p.length = 0)
  | 0x52 => some (p.length = 2)
  | _ => none

/-- The command that a frame of a defined kind and an allowed length carries (Table 11-4). -/
def decodePayload (kind : Nat) (tag : Byte) (p : List Byte) : Option Instr :=
  match kind with
  | 0x01 => some (.ping tag p)
  | 0x38 => some (.addCue tag (readU8 p 0) (readS32 p 1) (readU8 p 5) (p.drop 7))
  | 0x02 => some (.getStatus tag)
  | 0x03 => some (.reset tag (readU8 p 0))
  | 0x04 => some (.setNoticeLevel tag (readU8 p 0) (readU8 p 1))
  | 0x05 => some (.setTelemetry tag (readU16 p 0))
  | 0x06 => some (.setLinkTimeout tag (readU16 p 0))
  | 0x08 => some (.getFault tag)
  | 0x09 => some (.clearFault tag)
  | 0x10 => some (.setSense tag (readU8 p 0) (readU8 p 1) (readU8 p 2) (readU16 p 3) (readU16 p 5)
      (readU16 p 7) (readU16 p 9) (readU8 p 11))
  | 0x11 => some (.setArmCal tag (readU8 p 0) (readU16 p 1) (readU16 p 3))
  | 0x14 => some (.setReel tag (readU8 p 0) (readU8 p 1) (readU32 p 2) (readU32 p 6) (readU16 p 10)
      (readU16 p 12) (readU16 p 14) (readU16 p 16))
  | 0x15 => some (.setTape tag (readU8 p 0) (readU8 p 1) (readU32 p 2) (readU16 p 6) (readU16 p 8)
      (readU16 p 10) (readU16 p 12) (readU16 p 14))
  | 0x18 => some (.setTension tag (readU16 p 0))
  | 0x19 => some (.setGains tag (readU8 p 0) (readU16 p 1) (readU8 p 3) (readU32 p 4) (readU16 p 8)
      (readU8 p 10) (readU32 p 11) (readU16 p 15))
  | 0x1A => some (.setSlew tag (readU8 p 0))
  | 0x20 => some (.setCapstan tag (readU8 p 0) (readU32 p 1) (readU8 p 5) (readU8 p 6))
  | 0x21 => some (.setReference tag (readU8 p 0) (readU16 p 1) (readU16 p 3))
  | 0x22 => some (.setVarispeed tag (readS16 p 0))
  | 0x23 => some (.setLockNotice tag (readU8 p 0))
  | 0x28 => some (.load tag)
  | 0x29 => some (.unload tag)
  | 0x2A => some (.play tag)
  | 0x2B => some (.wind tag (readS16 p 0))
  | 0x2C => some (.stop tag (readU8 p 0))
  | 0x2D => some (.setLimits tag (readU8 p 0) (readU16 p 1) (readU16 p 3) (readU16 p 5) (readU32 p 7))
  | 0x30 => some (.presetPosition tag (readS32 p 0))
  | 0x31 => some (.positionFix tag (readS32 p 0) (readU16 p 4))
  | 0x34 => some (.setZone tag (readU8 p 0) (readU8 p 1) (readS32 p 2) (readU8 p 6) (readU16 p 7)
      (readU8 p 9) (readU8 p 10) (readU8 p 11))
  | 0x35 => some (.clearZone tag (readU8 p 0))
  | 0x36 => some (.setBaseZone tag (readU16 p 0) (readU8 p 2) (readU8 p 3) (readU8 p 4))
  | 0x37 => some (.getZones tag)
  | 0x39 => some (.deleteCue tag (readU8 p 0))
  | 0x3A => some (.clearCues tag)
  | 0x3B => some (.getCues tag (readU8 p 0) (readU8 p 1))
  | 0x40 => some (.locate tag (readU8 p 0) (readS32 p 1) (readU8 p 5) (readU8 p 6) (readU32 p 7)
      (readU32 p 11) (readU16 p 15) (readU16 p 17))
  | 0x41 => some (.chaseStart tag (readS32 p 0) (readU16 p 4) (readU16 p 6) (readU8 p 8) (readU16 p 9)
      (readU32 p 11) (readU16 p 15))
  | 0x42 => some (.masterPosition tag (readS32 p 0) (readS16 p 4))
  | 0x43 => some (.chaseStop tag)
  | 0x48 => some (.setCounter tag (readU8 p 0) (readU8 p 1) (readU8 p 2) (readU8 p 3) (readU8 p 4)
      (readU8 p 5) (readU16 p 6) (readU8 p 8) (readU8 p 9))
  | 0x49 => some (.readCounters tag (readU8 p 0))
  | 0x4A => some (.freeze tag)
  | 0x4B => some (.unfreeze tag)
  | 0x4C => some (.resetCounters tag)
  | 0x50 => some (.surveyStart tag (readS32 p 0) (readS32 p 4) (readU16 p 8) (readU16 p 10) (readS8 p 12)
      (readU8 p 13) (readU16 p 14) (readU8 p 16) (readU32 p 17) (readU16 p 21) (readU16 p 23) (readU8 p 25) (readU8 p 26) (readU8 p 27))
  | 0x51 => some (.surveyAbort tag)
  | 0x52 => some (.getSurvey tag (readU8 p 0) (readU8 p 1))
  | _ => none

/-- R182: what the link makes of a frame at dispatch. A kind that is not defined gives UNKNOWN_KIND, a length not
allowed for its kind BAD_LENGTH, and any other frame the request it carries. -/
def decodeFrame (f : Frame) : Instr :=
  match lengthAllowed f.kind.toNat f.payload, decodePayload f.kind.toNat f.tag f.payload with
  | some true, some c => c
  | some _, _ => .requestBadLength f.kind f.tag f.payload
  | none, _ => .requestUnknownKind f.kind f.tag f.payload

/-- The frame that carries a request (Table 11-4); none for a command that is no request. -/
def encodeFrame (c : Instr) : Option Frame :=
  match c with
  | .requestUnknownKind kind tag p => some { kind := kind, tag := tag, payload := p }
  | .requestBadLength kind tag p => some { kind := kind, tag := tag, payload := p }
  | .ping tag p => some { kind := 0x01, tag := tag, payload := p }
  | .addCue tag id position kind label => some
      { kind := 0x38, tag := tag,
        payload := bytesU8 id ++ bytesS32 position ++ bytesU8 kind ++ bytesU8 label.length ++ label }
  | .getStatus tag => some
      { kind := 0x02, tag := tag, payload := [] }
  | .reset tag retain => some
      { kind := 0x03, tag := tag, payload := bytesU8 retain }
  | .setNoticeLevel tag kind level => some
      { kind := 0x04, tag := tag, payload := bytesU8 kind ++ bytesU8 level }
  | .setTelemetry tag period => some
      { kind := 0x05, tag := tag, payload := bytesU16 period }
  | .setLinkTimeout tag timeout => some
      { kind := 0x06, tag := tag, payload := bytesU16 timeout }
  | .getFault tag => some
      { kind := 0x08, tag := tag, payload := [] }
  | .clearFault tag => some
      { kind := 0x09, tag := tag, payload := [] }
  | .setSense tag channel apply range cMin cMax tOn tOff suppress => some
      { kind := 0x10, tag := tag, payload := bytesU8 channel ++ bytesU8 apply ++ bytesU8 range ++ bytesU16 cMin ++ bytesU16 cMax ++
          bytesU16 tOn ++ bytesU16 tOff ++ bytesU8 suppress }
  | .setArmCal tag channel cCentre cFull => some
      { kind := 0x11, tag := tag, payload := bytesU8 channel ++ bytesU16 cCentre ++ bytesU16 cFull }
  | .setReel tag side apply hub flange jf f tauLim tauFs => some
      { kind := 0x14, tag := tag, payload := bytesU8 side ++ bytesU8 apply ++ bytesU32 hub ++ bytesU32 flange ++ bytesU16 jf ++
          bytesU16 f ++ bytesU16 tauLim ++ bytesU16 tauFs }
  | .setTape tag apply t kj tMin tNom tMax tThr tSpan => some
      { kind := 0x15, tag := tag, payload := bytesU8 apply ++ bytesU8 t ++ bytesU32 kj ++ bytesU16 tMin ++ bytesU16 tNom ++
          bytesU16 tMax ++ bytesU16 tThr ++ bytesU16 tSpan }
  | .setTension tag tension => some
      { kind := 0x18, tag := tag, payload := bytesU16 tension }
  | .setGains tag apply kpS kiS iMaxS kpT kiT iMaxT kv => some
      { kind := 0x19, tag := tag, payload := bytesU8 apply ++ bytesU16 kpS ++ bytesU8 kiS ++ bytesU32 iMaxS ++ bytesU16 kpT ++
          bytesU8 kiT ++ bytesU32 iMaxT ++ bytesU16 kv }
  | .setSlew tag sigma => some
      { kind := 0x1A, tag := tag, payload := bytesU8 sigma }
  | .setCapstan tag apply ell w rho => some
      { kind := 0x20, tag := tag, payload := bytesU8 apply ++ bytesU32 ell ++ bytesU8 w ++ bytesU8 rho }
  | .setReference tag source m d => some
      { kind := 0x21, tag := tag, payload := bytesU8 source ++ bytesU16 m ++ bytesU16 d }
  | .setVarispeed tag vsHost => some
      { kind := 0x22, tag := tag, payload := bytesS16 vsHost }
  | .setLockNotice tag choice => some
      { kind := 0x23, tag := tag, payload := bytesU8 choice }
  | .load tag => some
      { kind := 0x28, tag := tag, payload := [] }
  | .unload tag => some
      { kind := 0x29, tag := tag, payload := [] }
  | .play tag => some
      { kind := 0x2A, tag := tag, payload := [] }
  | .wind tag speed => some
      { kind := 0x2B, tag := tag, payload := bytesS16 speed }
  | .stop tag kind => some
      { kind := 0x2C, tag := tag, payload := bytesU8 kind }
  | .setLimits tag apply vMax aAcc aDec guard => some
      { kind := 0x2D, tag := tag, payload := bytesU8 apply ++ bytesU16 vMax ++ bytesU16 aAcc ++ bytesU16 aDec ++ bytesU32 guard }
  | .presetPosition tag value => some
      { kind := 0x30, tag := tag, payload := bytesS32 value }
  | .positionFix tag value window => some
      { kind := 0x31, tag := tag, payload := bytesS32 value ++ bytesU16 window }
  | .setZone tag index enabled base k limit scale dirs inhibit => some
      { kind := 0x34, tag := tag, payload := bytesU8 index ++ bytesU8 enabled ++ bytesS32 base ++ bytesU8 k ++ bytesU16 limit ++
          bytesU8 scale ++ bytesU8 dirs ++ bytesU8 inhibit }
  | .clearZone tag index => some
      { kind := 0x35, tag := tag, payload := bytesU8 index }
  | .setBaseZone tag limit scale dirs inhibit => some
      { kind := 0x36, tag := tag, payload := bytesU16 limit ++ bytesU8 scale ++ bytesU8 dirs ++ bytesU8 inhibit }
  | .getZones tag => some
      { kind := 0x37, tag := tag, payload := [] }
  | .deleteCue tag id => some
      { kind := 0x39, tag := tag, payload := bytesU8 id }
  | .clearCues tag => some
      { kind := 0x3A, tag := tag, payload := [] }
  | .getCues tag start count => some
      { kind := 0x3B, tag := tag, payload := bytesU8 start ++ bytesU8 count }
  | .locate tag targetKind position cueId thenPlay preroll approachDist approachSpeed tolerance => some
      { kind := 0x40, tag := tag, payload := bytesU8 targetKind ++ bytesS32 position ++ bytesU8 cueId ++ bytesU8 thenPlay ++
          bytesU32 preroll ++ bytesU32 approachDist ++ bytesU16 approachSpeed ++ bytesU16 tolerance }
  | .chaseStart tag offset window lead paramFlag gain reseek freewheel => some
      { kind := 0x41, tag := tag, payload := bytesS32 offset ++ bytesU16 window ++ bytesU16 lead ++ bytesU8 paramFlag ++ bytesU16 gain ++
          bytesU32 reseek ++ bytesU16 freewheel }
  | .masterPosition tag position speed => some
      { kind := 0x42, tag := tag, payload := bytesS32 position ++ bytesS16 speed }
  | .chaseStop tag => some
      { kind := 0x43, tag := tag, payload := [] }
  | .setCounter tag counter apply event qualifier edge invert threshold ovfNotice enable => some
      { kind := 0x48, tag := tag, payload := bytesU8 counter ++ bytesU8 apply ++ bytesU8 event ++ bytesU8 qualifier ++ bytesU8 edge ++
          bytesU8 invert ++ bytesU16 threshold ++ bytesU8 ovfNotice ++ bytesU8 enable }
  | .readCounters tag clear => some
      { kind := 0x49, tag := tag, payload := bytesU8 clear }
  | .freeze tag => some
      { kind := 0x4A, tag := tag, payload := [] }
  | .unfreeze tag => some
      { kind := 0x4B, tag := tag, payload := [] }
  | .resetCounters tag => some
      { kind := 0x4C, tag := tag, payload := [] }
  | .surveyStart tag start finish speed tension step stepCount dwell limitSource limitValue slackThr excThr fastFlag thres shift => some
      { kind := 0x50, tag := tag, payload := bytesS32 start ++ bytesS32 finish ++ bytesU16 speed ++ bytesU16 tension ++ bytesS8 step ++
          bytesU8 stepCount ++ bytesU16 dwell ++ bytesU8 limitSource ++ bytesU32 limitValue ++
          bytesU16 slackThr ++ bytesU16 excThr ++ bytesU8 fastFlag ++ bytesU8 thres ++
          bytesU8 shift }
  | .surveyAbort tag => some
      { kind := 0x51, tag := tag, payload := [] }
  | .getSurvey tag start count => some
      { kind := 0x52, tag := tag, payload := bytesU8 start ++ bytesU8 count }
  | _ => none

end Sys2Proof
end

