-- ==== Sys2Proof/Machine/State.lean ====
section
/-! DEFINITION. Machine/State.lean: everything the spec gives the part, block by block, as plain data, and the state
right after a power-on reset. Each structure cites the table of the spec that lists its items. -/

namespace Sys2Proof.Machine

/-! ## Sense Scanner (chapter 1) -/

/-- Excitation current range (Table 1-2). -/
inductive SenseRange where
  | off | low | medium | high
  deriving DecidableEq, Repr

/-- Result of the last measurement to end (Table 1-2); of an arm channel it is the arm's status. -/
inductive MeasureOutcome where
  | none | ok | stalled | outOfRange | unused
  deriving DecidableEq, Repr

/-- Debounced presence state (Table 1-2). -/
inductive Presence where
  | unknown | present | absent | unused
  deriving DecidableEq, Repr

/-- The three presence channels in the order of the shared counter (R6). -/
inductive PresenceId where
  | ps | pt | ph
  deriving DecidableEq, Repr

/-- Record of an arm channel (Table 1-2). -/
structure ArmChannel where
  range : SenseRange
  cMin : Nat
  cMax : Nat
  last : Nat
  outcome : MeasureOutcome
  /-- the calibration pair c_centre, c_full, or absent (R7) -/
  cal : Option (Nat × Nat)
  p : Int
  deriving DecidableEq, Repr

/-- Record of a presence channel (Table 1-2). The candidate is a state read, PRESENT or ABSENT. -/
structure PresenceChannel where
  range : SenseRange
  cMin : Nat
  cMax : Nat
  last : Nat
  outcome : MeasureOutcome
  tOn : Nat
  tOff : Nat
  suppress : Bool
  state : Presence
  candidate : Option Presence
  run : Nat
  deriving DecidableEq, Repr

/-- Sense Scanner: the five channel records, the channel the shared presence counter is assigned to (none: idle,
R6) and the tension-lost latch (R16). -/
structure Sense where
  arms : PerReel ArmChannel
  ps : PresenceChannel
  pt : PresenceChannel
  ph : PresenceChannel
  turn : Option PresenceId
  tensionLost : Bool
  deriving DecidableEq, Repr

/-! ## Position and Tach Unit, Pack Estimator (chapter 2) -/

/-- Reel tachometer items of one reel (Table 2-1): edge counts of the speed samples, newest first (a slot not in the
list holds 0), the edges since the last speed sample, the quiet run and the drive run. -/
structure ReelTach where
  edgeHist : List Nat
  edges : Nat
  quietRun : Nat
  driveRun : Nat
  deriving DecidableEq, Repr

/-- Position and Tach Unit (Table 2-1). The roller history holds a signed net count and an edge count for each
speed sample, newest first; a slot not in the list holds 0 and 0. rollerNet and rollerEdges are the slot being filled. -/
structure Tach where
  position : Int
  referenced : Bool
  fixWindow : Nat
  rollerHist : List (Int × Nat)
  rollerNet : Int
  rollerEdges : Nat
  vMeas : Int
  reels : PerReel ReelTach
  deriving DecidableEq, Repr

/-- Reel profile (Table 2-3). -/
structure ReelProfile where
  hub : Nat
  flange : Nat
  jf : Nat
  f : Nat
  tauLim : Nat
  tauFs : Nat
  deriving DecidableEq, Repr

/-- Tape profile (Table 2-4). -/
structure TapeProfile where
  t : Nat
  kj : Nat
  tMin : Nat
  tNom : Nat
  tMax : Nat
  tThr : Nat
  tSpan : Nat
  deriving DecidableEq, Repr

inductive PackStatus where
  | unknown | probe | tracking
  deriving DecidableEq, Repr

/-- Pack record (Table 2-5). The window length W is a function of the status (`Pack.windowLen`), and j is the inertia
last computed under R38 while TRACKING; otherwise the record publishes the stand-in's (R30). -/
structure Pack where
  status : PackStatus
  rq : Nat
  rejectRun : Nat
  winDir : Option Dir
  wAcc : Nat
  lAcc : Nat
  predCount : Nat
  j : Int
  deriving DecidableEq, Repr

/-- Pack Estimator: profiles, pack records, the pack area reference A0 and the MISMATCH state (section 2.5). -/
structure Packs where
  profile : PerReel ReelProfile
  tape : TapeProfile
  pack : PerReel Pack
  a0 : Option Int
  mismatch : Bool
  deriving DecidableEq, Repr

/-! ## Tension Servo (chapter 3) -/

inductive SatEnd where
  | high | low
  deriving DecidableEq, Repr

/-- Tension Servo items of one reel (Table 3-1). -/
structure ReelServo where
  integ : Int
  sat : Option SatEnd
  satRun : Nat
  slackRun : Nat
  overRun : Nat
  code : Int
  tEst : Int
  kp : Nat
  ki : Nat
  iMax : Nat
  deriving DecidableEq, Repr

/-- Tension Servo (Table 3-1). recovery is the recovery timer in ms, or stopped (R63). -/
structure Servo where
  enabled : Bool
  tEff16 : Nat
  slew : Nat
  reels : PerReel ReelServo
  kv : Nat
  reduced : Bool
  recovery : Option Nat
  settled : Bool
  deriving DecidableEq, Repr

/-! ## Capstan Controller (chapter 4) -/

inductive RefSource where
  | internal | external
  deriving DecidableEq, Repr

inductive LockState where
  | off | spinup | unlocked | locked | holdover
  deriving DecidableEq, Repr

inductive LockChoice where
  | none | gain | loss | both
  deriving DecidableEq, Repr

/-- Capstan Controller (Table 4-1). periods are the last 64 accepted reference periods in range (their sum is S);
frozenBase is the base rate held while frozen is yes; remRef and remHold are the remainders the two
advances of R carry (R71); stepNet and edgeSeen are the encoder edges since the last capstan step. -/
structure Capstan where
  source : RefSource
  m : Nat
  d : Nat
  ell : Nat
  w : Nat
  rho : Nat
  vsHost : Int
  trim : Int
  vs : Int
  present : Bool
  presentRun : Nat
  periods : List Nat
  fRef : Nat
  frozenBase : Option Nat
  lock : LockState
  e : Int
  r : Int
  remRef : Int
  remHold : Int
  ePhi : Int
  lockRun : Nat
  unlockRun : Nat
  rateWindow : List Int
  stepNet : Int
  edgeSeen : Bool
  quiet : Nat
  lockChoice : LockChoice
  lockLost : Bool
  driveCode : Int
  deriving DecidableEq, Repr

/-! ## Motion Planner (chapter 5) -/

/-- The thirteen transport modes (Table 5-2). -/
inductive Mode where
  | idle | loading | hold | wind | locate | engaging | play | chase | survey | stopping | unloading | braking | braked
  deriving DecidableEq, Repr

inductive SubStage where
  | release | takeUp | probeCreep | rampDown | brakeSet
  deriving DecidableEq, Repr

inductive Severity where
  | controlled | fast | brake
  deriving DecidableEq, Repr

inductive StopCause where
  | request | complete | engageFailed | tapeEnd | fault | zone | autoStop | locate | chase | survey
  deriving DecidableEq, Repr

/-- Causes of a MODE notice (R109, in the order of its list). -/
inductive ModeCause where
  | request | complete | loadFailed | engageFailed | tapeEnd | fault | zone | autoStop | locate | chase | survey
  deriving DecidableEq, Repr

inductive BrakeState where
  | applied | releasing | released | applying
  deriving DecidableEq, Repr

inductive PinchState where
  | opened | closing | closed | opening
  deriving DecidableEq, Repr

/-- The four cases of the torque-available limit (R103), in mm/s². -/
structure TorqueLimits where
  fwdAcc : Int
  fwdDec : Int
  revAcc : Int
  revDec : Int
  deriving DecidableEq, Repr

/-- A drop point that the Locate and Chase Unit or the survey gives the planner (R104). -/
structure DropPoint where
  pos : Int
  limit : Nat
  guard : Nat
  deriving DecidableEq, Repr

/-- Motion Planner (Table 5-1). The match and stage timers count planner steps of 250 µs. missed are the ids of the
missed set; creep is the creep direction chosen at LOAD (R87); unitPoints are the owning unit's drop points (R96);
autoStopCap says that a reached AUTO_STOP cue caps the WIND at 0 (R105). Of the AUTO_STOP cues, by id and position, inForce
holds those the planner has taken up: the ones in the list at the motion's start and at the last step in WIND or PLAY (R120); and
seen holds those that stood ahead at the last step in PLAY (R106). (DEDUCED, log entry 52.) -/
structure Planner where
  mode : Mode
  sub : Option SubStage
  vRef : Int
  aRef : Int
  goal : Int
  stopInForce : Option Severity
  stopCause : Option StopCause
  brake : BrakeState
  pinch : PinchState
  drivesCmd : Bool
  fwdBlocked : Bool
  revBlocked : Bool
  vMax : Nat
  aAcc : Nat
  aDec : Nat
  guard : Nat
  torque : TorqueLimits
  matchRun : Nat
  matchTimer : Option Nat
  armRun : Nat
  stageTimer : Option Nat
  standRun : Nat
  refPos : Int
  creep : Dir
  missed : List Nat
  unitPoints : List DropPoint
  autoStopCap : Bool
  inForce : List (Nat × Int)
  seen : List (Nat × Int)
  deriving DecidableEq, Repr

/-! ## Zone Table and Cue List (chapter 6) -/

inductive ZoneDirs where
  | both | forward | reverse | none
  deriving DecidableEq, Repr

/-- The four attributes of a zone (Table 6-1). -/
structure ZoneAttrs where
  limit : Nat
  scale : Nat
  dirs : ZoneDirs
  inhibit : Bool
  deriving DecidableEq, Repr

structure ZoneEntry where
  enabled : Bool
  base : Int
  k : Nat
  attrs : ZoneAttrs
  deriving DecidableEq, Repr

/-- Zone Table: eight entries, the base zone, the current zone index (8 for the base zone) and the pending block
record, the blocking zone's index and the direction it forbids (R117). -/
structure Zones where
  entries : List ZoneEntry
  base : ZoneAttrs
  index : Nat
  pendingBlock : Option (Nat × Dir)
  deriving DecidableEq, Repr

inductive CueKind where
  | mark | autoStop
  deriving DecidableEq, Repr

inductive CueMark where
  | none | excluded | missed
  deriving DecidableEq, Repr

/-- Cue record (Table 6-3); an empty label is an absent one. -/
structure Cue where
  id : Nat
  position : Int
  kind : CueKind
  label : List Byte
  mark : CueMark
  deriving DecidableEq, Repr

/-- The pending auto-stop record (R126). -/
structure PendingStop where
  id : Nat
  position : Int
  label : List Byte
  deriving DecidableEq, Repr

/-- Cue List (Table 6-3 and the items after it). -/
structure Cues where
  list : List Cue
  lastReached : Option Nat
  pendingStop : Option PendingStop
  deriving DecidableEq, Repr

/-! ## Locate and Chase Unit (chapter 7) -/

inductive LocateOwner where
  | host | chase | survey
  deriving DecidableEq, Repr

inductive LocatePhase where
  | travel | approach | creep | settle
  deriving DecidableEq, Repr

inductive LocateOutcome where
  | done | missed | aborted | blocked | faulted
  deriving DecidableEq, Repr

/-- The record of a running locate (Table 7-1); the record's state NONE is its absence. -/
structure LocateRec where
  owner : LocateOwner
  target : Int
  cueId : Option Nat
  thenPlay : Bool
  preroll : Nat
  aim : Int
  dir : Dir
  phase : LocatePhase
  attempts : Nat
  settleRun : Nat
  deriving DecidableEq, Repr

/-- Locate and chase parameters (Table 7-2). -/
structure LocateParams where
  approachDist : Nat
  approachSpeed : Nat
  tolerance : Nat
  window : Nat
  lead : Nat
  gain : Nat
  reseek : Nat
  freewheel : Nat
  deriving DecidableEq, Repr

inductive ChaseState where
  | off | seek | parked | runup | matching | locked | freewheel
  deriving DecidableEq, Repr

inductive ChasePlan where
  | stopped | running
  deriving DecidableEq, Repr

inductive ChaseCause where
  | request | acquire | loss | leadDoubled | failed | blocked | masterLost | masterStarted | masterStopped
  | masterMoved | reseek | silence | resumed | fault | tapeEnd | zone | engageFailed
  deriving DecidableEq, Repr

/-- Master record (Table 7-6): position, speed, and the unit steps of 250 µs since its arrival (R138). -/
structure MasterRec where
  position : Int
  speed : Int
  age : Nat
  deriving DecidableEq, Repr

/-- Chase record (Table 7-6); its trim is the Capstan Controller's (R69). silence is the silence timer in unit steps of
250 µs, or stopped. -/
structure Chase where
  state : ChaseState
  offset : Int
  plan : Option ChasePlan
  halting : Bool
  pPark : Int
  lead : Nat
  doublings : Nat
  inRun : Nat
  outRun : Nat
  e : Option Int
  silence : Option Nat
  master : Option MasterRec
  deriving DecidableEq, Repr

/-! ## Fault Unit (chapter 8) -/

inductive FaultKind where
  | slack | overtension | armSensor | pathLost | tachSilent | rollerSilent | saturation | capstanStall | powerFail
  | linkSilence
  deriving DecidableEq, Repr

/-- A condition: its kind together with its reel (R148); for PATH_LOST, PS is the supply reel and PT the take-up. -/
structure Condition where
  kind : FaultKind
  reel : Option Reel
  deriving DecidableEq, Repr

/-- The record of a latched fault (Table 8-3), with the severity in force (Table 8-1). -/
structure FaultRecord where
  primary : Condition
  mode : Mode
  sub : Option SubStage
  vMeas : Int
  position : Int
  secondaries : List Condition
  lost : Bool
  severity : Severity
  deriving DecidableEq, Repr

/-- Fault Unit (Table 8-1): latched is that a record is held. The link timer counts ms, or is stopped. -/
structure FaultUnit where
  record : Option FaultRecord
  powerFailTaken : Bool
  linkTimeout : Nat
  linkTimer : Option Nat
  deriving DecidableEq, Repr

/-! ## Transport Monitor and Tension Survey (chapter 9) -/

inductive MonEvent where
  | servoSamples | movingSamples | slackSamples | highSamples | saturatedSamples | excursion | packWindows
  | packRejects | capstanUnlocks | referenceLosses | zoneEntries | locateApproaches | chaseLosses | linkRejects
  deriving DecidableEq, Repr

/-- A set of supply, take-up and capstan (Table 9-1). -/
structure Qualifier where
  supply : Bool
  takeup : Bool
  capstan : Bool
  deriving DecidableEq, Repr

inductive Holder where
  | host | survey
  deriving DecidableEq, Repr

/-- A counter: its control record (Table 9-1), value, overflow flag and edge memory. -/
structure Counter where
  event : MonEvent
  qualifier : Qualifier
  edge : Bool
  invert : Bool
  threshold : Nat
  ovfNotice : Bool
  enable : Bool
  holder : Holder
  value : Nat
  overflow : Bool
  edgeMem : Bool
  deriving DecidableEq, Repr

/-- One value for each of the four counters. -/
structure Four (α : Type) where
  c0 : α
  c1 : α
  c2 : α
  c3 : α
  deriving DecidableEq, Repr

structure Monitor where
  counters : Four Counter
  frozen : Bool
  deriving DecidableEq, Repr

inductive LimitSource where
  | dwell | slack | excursion
  deriving DecidableEq, Repr

/-- The survey request as stored at acceptance (Table 9-3). -/
structure SurveyRequest where
  start : Int
  finish : Int
  speed : Nat
  tension : Nat
  step : Int
  stepCount : Nat
  dwell : Nat
  limitSource : LimitSource
  limitValue : Nat
  slackThr : Nat
  excThr : Nat
  fast : Bool
  thres : Nat
  shift : Nat
  deriving DecidableEq, Repr

inductive SurveyState where
  | none | positioning | running | ended
  deriving DecidableEq, Repr

inductive StepPhase where
  | ramp | settle | count
  deriving DecidableEq, Repr

inductive SurveyOutcome where
  | complete | fastEnd | rangeEnd | aborted | faulted
  deriving DecidableEq, Repr

inductive AbortReason where
  | request | locateMissed | locateBlocked | zone | tapeEnd
  deriving DecidableEq, Repr

inductive EndedBy where
  | dwell | limit | range | abort | fault
  deriving DecidableEq, Repr

/-- Step entry (Table 9-5). -/
structure StepEntry where
  tension : Int
  clamped : Bool
  samples : Nat
  slack : Nat
  excursion : Nat
  endedBy : Option EndedBy
  frozen : Bool
  deriving DecidableEq, Repr

/-- Tension Survey (Table 9-4), the stored request and the step tension published to the Tension Servo. -/
structure Survey where
  request : Option SurveyRequest
  state : SurveyState
  phase : Option StepPhase
  k : Nat
  phaseCount : Nat
  base2 : Nat
  base3 : Nat
  frozenSeen : Bool
  table : List StepEntry
  outcome : Option SurveyOutcome
  reason : Option AbortReason
  floor : Option Int
  stepTension : Option Int
  deriving DecidableEq, Repr

/-! ## Message Link (chapters 10 and 11) -/

/-- Result codes (Table 11-2). -/
inductive ResultCode where
  | ok | okClamped | unknownKind | badLength | badValue | notConfigured | notLoaded | wrongMode | faultLatched | busy
  | listFull | duplicate | notFound | misaligned | targetForbidden | refInUse | resourceHeld | directionBlocked
  | lockedInMotion | fixTooLarge
  deriving DecidableEq, Repr

inductive ResetCause where
  | powerOn | resetLine | resetRequest | warm
  deriving DecidableEq, Repr

/-- Notice kinds (Table 10-2, in the order of their frame kinds 0xE0 to 0xF0, Table 11-8). -/
inductive NoticeKind where
  | ready | fault | tapeEnd | mode | locateDone | autoStop | lock | ref | chase | drive | surveyDone | counterOverflow
  | pack | surveyStep | telemetry | zone | cuePassed
  deriving DecidableEq, Repr

inductive RefCause where
  | lost | returned | selected
  deriving DecidableEq, Repr

inductive LockChange where
  | gain | loss
  deriving DecidableEq, Repr

inductive PackCause where
  | clamped | resync | mismatch | matched
  deriving DecidableEq, Repr

inductive ZoneCause where
  | entered | edited | blocked
  deriving DecidableEq, Repr

/-- The telemetry record (Table 11-6); speeds in mm/s, an absent sub-state, k or radius is none. -/
structure Telemetry where
  mode : Mode
  subState : Option Nat
  k : Option Nat
  position : Int
  referenced : Bool
  vMeas : Int
  p : PerReel Int
  tEst : PerReel Int
  tEff : Nat
  radius : PerReel (Option Nat)
  code : PerReel Int
  reduced : Bool
  lock : LockState
  zone : Nat
  inhibit : Bool
  faulted : Bool
  deriving DecidableEq, Repr

/-- A notice with its contents (Table 11-8). -/
inductive Notice where
  | ready (cause : ResetCause) (position : Int) (referenced : Bool)
  | fault (secondary : Bool) (cond : Condition) (listed : Bool) (severity : Severity) (mode : Mode) (vMeas position : Int)
  | tapeEnd (position : Int) (mode : Mode) (blocked : Option Dir)
  | mode (mode : Mode) (sub : Option SubStage) (left : Mode) (stop : Option Severity) (cause : ModeCause)
  | locateDone (outcome : LocateOutcome) (target aim position error : Int) (attempts : Nat) (playStarted : Bool)
  | autoStop (id : Nat) (cue rest difference : Int) (label : List Byte)
  | lock (state : LockState) (change : LockChange) (ePhi : Int)
  | ref (cause : RefCause) (source : RefSource) (present : Bool)
  | chase (state prev : ChaseState) (cause : ChaseCause) (e : Option Int) (trim : Int) (lead doublings : Nat)
  | drive (reduced : Bool)
  | surveyDone (outcome : Option SurveyOutcome) (reason : Option AbortReason) (entries : Nat) (floor : Option Int) (position : Int)
  | counterOverflow (set : Four Bool) (values : Four Nat) (frozen : Bool)
  | pack (cause : PackCause) (reel : Option Reel) (value1 value2 : Int)
  | surveyStep (k : Nat) (entry : StepEntry)
  | telemetry (record : Telemetry)
  | zone (cause : ZoneCause) (index : Nat) (attrs : ZoneAttrs) (position : Int) (dir : Option Dir) (block : Option (Nat × Dir))
  | cuePassed (id : Nat) (position : Int) (kind : CueKind) (dir : Dir) (mode : Mode) (missed : Bool) (label : List Byte)
  deriving DecidableEq, Repr

/-- A notice in the queue: its priority and its age, a stamp that rises with each posting (R184, R186). -/
structure QueuedNotice where
  notice : Notice
  priority : Nat
  age : Nat
  deriving DecidableEq, Repr

/-- A reply: the request kind plus 0x80, the request's tag, the result code and the payload after it (R182). -/
structure Reply where
  kind : Byte
  tag : Byte
  code : ResultCode
  body : List Byte
  deriving DecidableEq, Repr

/-- What the transmit pin is doing (Table 10-1). -/
inductive Transmitter where
  | idle
  | sendingReply (r : Reply)
  | sendingNotice (n : Notice)
  deriving DecidableEq, Repr

/-- Message Link (Table 10-1). assembler is none while HUNTING, otherwise the bytes taken after the start byte;
levels are in notice-kind order; telTimer is the telemetry timer in ms, or stopped; resetPending is the retain flag of a
dispatched RESET whose reply is not yet sent; nextAge is the stamp of the next posted notice. -/
structure Link where
  assembler : Option (List Byte)
  queue : List Frame
  reply : Option Reply
  tx : Transmitter
  notices : List QueuedNotice
  nextAge : Nat
  levels : List Nat
  telPeriod : Nat
  telTimer : Option Nat
  framesDropped : Bool
  noticesLost : Bool
  resetPending : Option Bool
  deriving DecidableEq, Repr

/-! ## Logic lines (Table 0-4) and the whole part -/

/-- Levels of the logic lines: true is asserted, held low for RESET_IN, "apply" for the brakes, closed for PINCH. -/
structure Lines where
  resetIn : Bool
  brakeS : Bool
  brakeT : Bool
  pinch : Bool
  recordInhibit : Bool
  supplyLow : Bool
  powerFail : Bool
  deriving DecidableEq, Repr

/-- The whole part. held is the cause of the reset the part is held in, none while it runs; freeIndex counts the free
values taken (Config.lean); pending is the queue of waiting commands, first in, first out. -/
structure State where
  sense : Sense
  tach : Tach
  packs : Packs
  servo : Servo
  capstan : Capstan
  planner : Planner
  zones : Zones
  cues : Cues
  params : LocateParams
  locate : Option LocateRec
  chase : Chase
  fault : FaultUnit
  monitor : Monitor
  survey : Survey
  link : Link
  lines : Lines
  held : Option ResetCause
  freeIndex : Nat
  pending : List Instr
  deriving DecidableEq, Repr

/-- The block stops for no command: the spec gives every one of them an effect, or leaves the state as it is. So there is
no constructor. (Safe: nothing is claimed of a stop.) (DEDUCED, log entry 8.) -/
inductive Fault where
  deriving DecidableEq, Repr

/-- notModelled would be answered by an arm of `exec` whose command has no meaning yet, with the command's mnemonic;
no arm does. (Safe: a refused command ends a run.) -/
inductive Refusal where
  | notModelled (mnemonic : String)
  deriving DecidableEq, Repr

/-! ## The values after a cold reset, block by block -/

/-- Table 1-6, cold reset. -/
def ArmChannel.cold : ArmChannel :=
  { range := .medium, cMin := 1000, cMax := 12000, last := 0, outcome := .none, cal := none, p := 0 }

def PresenceChannel.cold : PresenceChannel :=
  { range := .medium, cMin := 1000, cMax := 12000, last := 0, outcome := .none, tOn := 6000, tOff := 5000,
    suppress := false, state := .unknown, candidate := none, run := 0 }

def Sense.cold : Sense :=
  { arms := .both .cold, ps := .cold, pt := .cold, ph := .cold, turn := some .ps, tensionLost := false }

/-- Table 2-10. -/
def ReelTach.zero : ReelTach := { edgeHist := [], edges := 0, quietRun := 0, driveRun := 0 }

def Tach.cold : Tach :=
  { position := 0, referenced := false, fixWindow := 800, rollerHist := [], rollerNet := 0, rollerEdges := 0, vMeas := 0,
    reels := .both .zero }

def ReelProfile.cold : ReelProfile :=
  { hub := 50000, flange := 178000, jf := 2600, f := 40, tauLim := 8000, tauFs := 30000 }

def TapeProfile.cold : TapeProfile :=
  { t := 38, kj := 51870, tMin := 40, tNom := 150, tMax := 300, tThr := 40, tSpan := 100 }

def Pack.unknown : Pack :=
  { status := .unknown, rq := 0, rejectRun := 0, winDir := none, wAcc := 0, lAcc := 0, predCount := 0, j := 0 }

def Packs.cold : Packs :=
  { profile := .both .cold, tape := .cold, pack := .both .unknown, a0 := none, mismatch := false }

/-- Table 3-11, cold reset. -/
def ReelServo.cold : ReelServo :=
  { integ := 0, sat := none, satRun := 0, slackRun := 0, overRun := 0, code := 0, tEst := 0, kp := 512, ki := 4, iMax := 100000 }

def Servo.cold : Servo :=
  { enabled := false, tEff16 := 0, slew := 5, reels := .both .cold, kv := 20, reduced := false, recovery := none, settled := false }

/-- Table 4-5, cold reset; the table states no value for e_φ. (DESIGN CHOICE, log entry 48.) -/
def Capstan.cold : Capstan :=
  { source := .internal, m := 1, d := 1, ell := 46000, w := 2, rho := 10, vsHost := 0, trim := 0, vs := 0, present := true,
    presentRun := 0, periods := List.replicate 64 1000, fRef := 48000000, frozenBase := none, lock := .off, e := 0, r := 0,
    remRef := 0, remHold := 0, ePhi := 0, lockRun := 0, unlockRun := 0, rateWindow := [], stepNet := 0, edgeSeen := false,
    quiet := 0, lockChoice := .loss, lockLost := false, driveCode := 0 }

/-- Table 5-9, cold reset. The torque-available limits are those of R103 for the cold-reset profiles, the stand-in
radius 114 000 µm and drive state FULL (test_reset_torque in Tests/Slice0.lean). (DEDUCED, log entry 10.) -/
def Planner.cold : Planner :=
  { mode := .idle, sub := none, vRef := 0, aRef := 0, goal := 0, stopInForce := none, stopCause := none, brake := .applied,
    pinch := .opened, drivesCmd := false, fwdBlocked := false, revBlocked := false, vMax := 8000, aAcc := 1500, aDec := 2000,
    guard := 800, torque := { fwdAcc := 4803, fwdDec := 4803, revAcc := 4803, revDec := 4803 }, matchRun := 0,
    matchTimer := none, armRun := 0, stageTimer := none, standRun := 0, refPos := 0, creep := .forward, missed := [],
    unitPoints := [], autoStopCap := false, inForce := [], seen := [] }

/-- The defaults of Table 6-1. -/
def ZoneAttrs.default : ZoneAttrs := { limit := 12000, scale := 100, dirs := .both, inhibit := false }

def ZoneEntry.default : ZoneEntry := { enabled := false, base := 0, k := 12, attrs := .default }

def Zones.cold : Zones :=
  { entries := List.replicate 8 .default, base := .default, index := 8, pendingBlock := none }

def Cues.cold : Cues := { list := [], lastReached := none, pendingStop := none }

/-- Table 7-2. -/
def LocateParams.cold : LocateParams :=
  { approachDist := 40000, approachSpeed := 300, tolerance := 8, window := 16, lead := 3000, gain := 64, reseek := 120000,
    freewheel := 2000 }

/-- R147; the lead in force is the stored lead. -/
def Chase.cold : Chase :=
  { state := .off, offset := 0, plan := none, halting := false, pPark := 0, lead := 3000, doublings := 0, inRun := 0,
    outRun := 0, e := none, silence := none, master := none }

/-- Table 8-5, cold reset. -/
def FaultUnit.cold : FaultUnit := { record := none, powerFailTaken := false, linkTimeout := 0, linkTimer := none }

/-- R169 and the cold-reset values of Table 9-1. -/
def Counter.cold : Counter :=
  { event := .servoSamples, qualifier := { supply := false, takeup := false, capstan := false }, edge := false,
    invert := false, threshold := 0, ovfNotice := false, enable := false, holder := .host, value := 0, overflow := false,
    edgeMem := false }

def Monitor.cold : Monitor :=
  { counters := { c0 := .cold, c1 := .cold, c2 := .cold, c3 := .cold }, frozen := false }

/-- R179. -/
def Survey.cold : Survey :=
  { request := none, state := .none, phase := none, k := 0, phaseCount := 0, base2 := 0, base3 := 0, frozenSeen := false,
    table := [], outcome := none, reason := none, floor := none, stepTension := none }

/-- The default levels of Table 10-2, in notice-kind order. -/
def Link.defaultLevels : List Nat := [3, 3, 3, 2, 2, 2, 2, 2, 2, 2, 2, 2, 1, 1, 1, 0, 0]

/-- Table 10-4, cold reset, before READY is posted. -/
def Link.cold : Link :=
  { assembler := none, queue := [], reply := none, tx := .idle, notices := [], nextAge := 0, levels := Link.defaultLevels,
    telPeriod := 0, telTimer := none, framesDropped := false, noticesLost := false, resetPending := none }

/-- The output lines after any reset: brakes applied (R83), pinch open (R84), recording inhibited (R118). -/
def Lines.atReset (l : Lines) : Lines :=
  { l with brakeS := true, brakeT := true, pinch := false, recordInhibit := true }

/-- The part right after a power-on reset with SUPPLY_LOW and POWER_FAIL deasserted: every block at its cold-reset
values, the READY notice with cause POWER_ON on the transmit pin (R190), no command waiting. (DESIGN CHOICE, log entry 4.) -/
def State.reset : State :=
  { sense := .cold, tach := .cold, packs := .cold, servo := .cold, capstan := .cold, planner := .cold, zones := .cold,
    cues := .cold, params := .cold, locate := none, chase := .cold, fault := .cold, monitor := .cold, survey := .cold,
    link := { Link.cold with tx := .sendingNotice (.ready .powerOn 0 false), nextAge := 1 },
    lines :=
      { resetIn := false, brakeS := true, brakeT := true, pinch := false, recordInhibit := true, supplyLow := false,
        powerFail := false },
    held := none, freeIndex := 0, pending := [] }

end Sys2Proof.Machine
end

