-- ==== Sys2Proof/Machine/Operands.lean ====
section
/-! DEFINITION. Machine/Operands.lean: the arithmetic of section 3.4, how a request's fields are read (clamped, checked
against an enumeration) and how the fields of the frames the part sends are written (chapter 11). -/

namespace Sys2Proof.Machine

/-! ## Arithmetic (00_scope section 3.4) -/

/-- Division rounded toward zero. -/
def divTrunc (a b : Int) : Int := Int.tdiv a b

/-- Division by a positive number, rounded toward minus infinity. -/
def divFloor (a b : Int) : Int := a / b

/-- Division by a positive number, rounded toward plus infinity. -/
def divCeil (a b : Int) : Int := -((-a) / b)

/-- Division by a positive number, a half rounded to the larger magnitude. -/
def divHalfAway (a b : Int) : Int :=
  if 0 ≤ a then (2 * a + b) / (2 * b) else -((2 * (-a) + b) / (2 * b))

/-- Bits b - 1 down to 0 of an integer square root, on top of the root r found so far. -/
def isqrtBits : Nat → Nat → Nat → Nat
  | 0, _, r => r
  | b + 1, n, r => if (r + 2 ^ b) * (r + 2 ^ b) ≤ n then isqrtBits b n (r + 2 ^ b) else isqrtBits b n r

/-- Integer square root, rounded by floor. -/
def isqrt (n : Nat) : Nat := isqrtBits (Nat.log2 n / 2 + 1) n 0

/-- "Clamped to [a, b]": a value below a becomes a, a value above b becomes b. -/
def clampInt (a b x : Int) : Int := if x < a then a else if b < x then b else x

def clampNat (a b x : Nat) : Nat := if x < a then a else if b < x then b else x

/-- A signed 32-bit count: one past the largest value is the smallest (R18). -/
def wrapS32 (x : Int) : Int := (x + 2147483648) % 4294967296 - 2147483648

/-- The magnitude of a signed quantity. -/
def mag (x : Int) : Nat := x.natAbs

/-- A magnitude given the sign of a direction. -/
def signedBy (d : Dir) (n : Int) : Int :=
  match d with
  | .forward => n
  | .reverse => -n

def oppositeDir : Dir → Dir
  | .forward => .reverse
  | .reverse => .forward

/-- The direction a signed quantity points in; none at 0. -/
def dirOf (x : Int) : Option Dir := if 0 < x then some .forward else if x < 0 then some .reverse else none

/-- Positions are set within ±1 000 000 000 rc by every request that carries one. -/
def positionOk (x : Int) : Bool := -1000000000 ≤ x && x ≤ 1000000000

/-- A flag byte whose rule refuses values other than 0 and 1 (R192). -/
def flagOk (n : Nat) : Bool := n ≤ 1

/-- Any other flag byte is set when it is not 0 (R192). -/
def flagSet (n : Nat) : Bool := n != 0

/-- The reply's code when no check failed: OK_CLAMPED if a field was clamped (section 10.7). -/
def okOr (clamped : Bool) : ResultCode := if clamped then .okClamped else .ok

/-! ## Enumerations, coded in the order of their lists (R192, Table 11-3) -/

def SenseRange.ofCode : Nat → Option SenseRange
  | 0 => some .off | 1 => some .low | 2 => some .medium | 3 => some .high | _ => none

def SenseRange.code : SenseRange → Nat
  | .off => 0 | .low => 1 | .medium => 2 | .high => 3

def MeasureOutcome.code : MeasureOutcome → Nat
  | .none => 0 | .ok => 1 | .stalled => 2 | .outOfRange => 3 | .unused => 4

def Presence.code : Presence → Nat
  | .unknown => 0 | .present => 1 | .absent => 2 | .unused => 3

/-- The five channels (Table 1-1). -/
inductive Channel where
  | arm (reel : Reel)
  | presence (id : PresenceId)
  deriving DecidableEq, Repr

def Channel.ofCode : Nat → Option Channel
  | 0 => some (.arm .supply) | 1 => some (.arm .takeup) | 2 => some (.presence .ps) | 3 => some (.presence .pt)
  | 4 => some (.presence .ph) | _ => none

def reelOfCode : Nat → Option Reel
  | 0 => some .supply | 1 => some .takeup | _ => none

def reelCode : Reel → Nat
  | .supply => 0 | .takeup => 1

def dirCode : Dir → Nat
  | .forward => 0 | .reverse => 1

def PackStatus.code : PackStatus → Nat
  | .unknown => 0 | .probe => 1 | .tracking => 2

def RefSource.ofCode : Nat → Option RefSource
  | 0 => some .internal | 1 => some .external | _ => none

def RefSource.code : RefSource → Nat
  | .internal => 0 | .external => 1

/-- Reference status: ABSENT, PRESENT (Table 4-1). -/
def presentCode (b : Bool) : Nat := if b then 1 else 0

def LockState.code : LockState → Nat
  | .off => 0 | .spinup => 1 | .unlocked => 2 | .locked => 3 | .holdover => 4

def LockChoice.ofCode : Nat → Option LockChoice
  | 0 => some .none | 1 => some .gain | 2 => some .loss | 3 => some .both | _ => Option.none

def LockChoice.code : LockChoice → Nat
  | .none => 0 | .gain => 1 | .loss => 2 | .both => 3

def Mode.code : Mode → Nat
  | .idle => 0 | .loading => 1 | .hold => 2 | .wind => 3 | .locate => 4 | .engaging => 5 | .play => 6 | .chase => 7
  | .survey => 8 | .stopping => 9 | .unloading => 10 | .braking => 11 | .braked => 12

def SubStage.code : SubStage → Nat
  | .release => 0 | .takeUp => 1 | .probeCreep => 2 | .rampDown => 3 | .brakeSet => 4

/-- Severity (Table 8-1, whose list begins with none); the order of the codes is the order of severity. -/
def Severity.code : Severity → Nat
  | .controlled => 1 | .fast => 2 | .brake => 3

/-- Stop in force and severity in force: none has its place in the list. -/
def stopCode : Option Severity → Nat
  | none => 0
  | some x => x.code

/-- The kinds of STOP: CONTROLLED, FAST (R97). -/
def stopKindOf : Nat → Option Severity
  | 0 => some .controlled | 1 => some .fast | _ => none

def ModeCause.code : ModeCause → Nat
  | .request => 0 | .complete => 1 | .loadFailed => 2 | .engageFailed => 3 | .tapeEnd => 4 | .fault => 5 | .zone => 6
  | .autoStop => 7 | .locate => 8 | .chase => 9 | .survey => 10

def ZoneDirs.ofCode : Nat → Option ZoneDirs
  | 0 => some .both | 1 => some .forward | 2 => some .reverse | 3 => some .none | _ => Option.none

def ZoneDirs.code : ZoneDirs → Nat
  | .both => 0 | .forward => 1 | .reverse => 2 | .none => 3

def CueKind.ofCode : Nat → Option CueKind
  | 0 => some .mark | 1 => some .autoStop | _ => none

def CueKind.code : CueKind → Nat
  | .mark => 0 | .autoStop => 1

def CueMark.code : CueMark → Nat
  | .none => 0 | .excluded => 1 | .missed => 2

def LocatePhase.code : LocatePhase → Nat
  | .travel => 0 | .approach => 1 | .creep => 2 | .settle => 3

def LocateOutcome.code : LocateOutcome → Nat
  | .done => 0 | .missed => 1 | .aborted => 2 | .blocked => 3 | .faulted => 4

def ChaseState.code : ChaseState → Nat
  | .off => 0 | .seek => 1 | .parked => 2 | .runup => 3 | .matching => 4 | .locked => 5 | .freewheel => 6

def ChaseCause.code : ChaseCause → Nat
  | .request => 0 | .acquire => 1 | .loss => 2 | .leadDoubled => 3 | .failed => 4 | .blocked => 5 | .masterLost => 6
  | .masterStarted => 7 | .masterStopped => 8 | .masterMoved => 9 | .reseek => 10 | .silence => 11 | .resumed => 12
  | .fault => 13 | .tapeEnd => 14 | .zone => 15 | .engageFailed => 16

def FaultKind.code : FaultKind → Nat
  | .slack => 0 | .overtension => 1 | .armSensor => 2 | .pathLost => 3 | .tachSilent => 4 | .rollerSilent => 5
  | .saturation => 6 | .capstanStall => 7 | .powerFail => 8 | .linkSilence => 9

def MonEvent.ofCode : Nat → Option MonEvent
  | 0 => some .servoSamples | 1 => some .movingSamples | 2 => some .slackSamples | 3 => some .highSamples
  | 4 => some .saturatedSamples | 5 => some .excursion | 6 => some .packWindows | 7 => some .packRejects
  | 8 => some .capstanUnlocks | 9 => some .referenceLosses | 10 => some .zoneEntries | 11 => some .locateApproaches
  | 12 => some .chaseLosses | 13 => some .linkRejects | _ => none

def MonEvent.code : MonEvent → Nat
  | .servoSamples => 0 | .movingSamples => 1 | .slackSamples => 2 | .highSamples => 3 | .saturatedSamples => 4
  | .excursion => 5 | .packWindows => 6 | .packRejects => 7 | .capstanUnlocks => 8 | .referenceLosses => 9
  | .zoneEntries => 10 | .locateApproaches => 11 | .chaseLosses => 12 | .linkRejects => 13

def Holder.code : Holder → Nat
  | .host => 0 | .survey => 1

def LimitSource.ofCode : Nat → Option LimitSource
  | 0 => some .dwell | 1 => some .slack | 2 => some .excursion | _ => none

def LimitSource.code : LimitSource → Nat
  | .dwell => 0 | .slack => 1 | .excursion => 2

def SurveyState.code : SurveyState → Nat
  | .none => 0 | .positioning => 1 | .running => 2 | .ended => 3

def StepPhase.code : StepPhase → Nat
  | .ramp => 0 | .settle => 1 | .count => 2

/-- Survey outcome: the list of Table 9-4 ends with none, which takes its place in it (R192). (DEDUCED, log entry 21.) -/
def outcomeCode : Option SurveyOutcome → Nat
  | some .complete => 0 | some .fastEnd => 1 | some .rangeEnd => 2 | some .aborted => 3 | some .faulted => 4 | none => 5

/-- Abort reason: the list of Table 9-4 ends with none, which takes its place in it (R192). (DEDUCED, log entry 21.) -/
def reasonCode : Option AbortReason → Nat
  | some .request => 0 | some .locateMissed => 1 | some .locateBlocked => 2 | some .zone => 3 | some .tapeEnd => 4 | none => 5

def EndedBy.code : EndedBy → Nat
  | .dwell => 0 | .limit => 1 | .range => 2 | .abort => 3 | .fault => 4

/-- Result codes (Table 11-2). -/
def ResultCode.code : ResultCode → Nat
  | .ok => 0 | .okClamped => 1 | .unknownKind => 2 | .badLength => 3 | .badValue => 4 | .notConfigured => 5
  | .notLoaded => 6 | .wrongMode => 7 | .faultLatched => 8 | .busy => 9 | .listFull => 10 | .duplicate => 11
  | .notFound => 12 | .misaligned => 13 | .targetForbidden => 14 | .refInUse => 15 | .resourceHeld => 16
  | .directionBlocked => 17 | .lockedInMotion => 18 | .fixTooLarge => 19

def ResetCause.code : ResetCause → Nat
  | .powerOn => 0 | .resetLine => 1 | .resetRequest => 2 | .warm => 3

/-- A notice kind's place in Table 10-2; its frame kind is 0xE0 plus it (Table 11-8). -/
def NoticeKind.place : NoticeKind → Nat
  | .ready => 0 | .fault => 1 | .tapeEnd => 2 | .mode => 3 | .locateDone => 4 | .autoStop => 5 | .lock => 6 | .ref => 7
  | .chase => 8 | .drive => 9 | .surveyDone => 10 | .counterOverflow => 11 | .pack => 12 | .surveyStep => 13
  | .telemetry => 14 | .zone => 15 | .cuePassed => 16

def NoticeKind.ofPlace : Nat → Option NoticeKind
  | 0 => some .ready | 1 => some .fault | 2 => some .tapeEnd | 3 => some .mode | 4 => some .locateDone
  | 5 => some .autoStop | 6 => some .lock | 7 => some .ref | 8 => some .chase | 9 => some .drive
  | 10 => some .surveyDone | 11 => some .counterOverflow | 12 => some .pack | 13 => some .surveyStep
  | 14 => some .telemetry | 15 => some .zone | 16 => some .cuePassed | _ => none

/-- The notice kind of a frame kind 0xE0 to 0xF0 (R192). -/
def NoticeKind.ofCode (n : Nat) : Option NoticeKind := if 0xE0 ≤ n then NoticeKind.ofPlace (n - 0xE0) else none

def RefCause.code : RefCause → Nat
  | .lost => 0 | .returned => 1 | .selected => 2

def LockChange.code : LockChange → Nat
  | .gain => 0 | .loss => 1

def PackCause.code : PackCause → Nat
  | .clamped => 0 | .resync => 1 | .mismatch => 2 | .matched => 3

def ZoneCause.code : ZoneCause → Nat
  | .entered => 0 | .edited => 1 | .blocked => 2

/-- The qualifier's bits (R193); any of bits 3 to 7 set is not defined. -/
def Qualifier.ofBits (n : Nat) : Option Qualifier :=
  if n < 8 then some { supply := n % 2 == 1, takeup := n / 2 % 2 == 1, capstan := n / 4 % 2 == 1 } else none

def bitOf (b : Bool) (v : Nat) : Nat := if b then v else 0

def Qualifier.bits (q : Qualifier) : Nat := bitOf q.supply 1 + bitOf q.takeup 2 + bitOf q.capstan 4

/-- A set of counters, bit n for counter n (R193). -/
def Four.bits (x : Four Bool) : Nat := bitOf x.c0 1 + bitOf x.c1 2 + bitOf x.c2 4 + bitOf x.c3 8

/-! ## Fields of the frames the part sends

A value that fits its field is written as chapter 11 says; what a field shows for a value that does not fit it
(v_play and f_t can exceed theirs, a difference of two positions its s32) the spec does not say: a free value. -/

def unsignedField (bits : Nat) (x : Int) : Nat :=
  if 0 ≤ x ∧ x < 2 ^ bits then x.toNat else Config.outOfField bits x

def signedField (bits : Nat) (x : Int) : Nat :=
  if -(2 ^ (bits - 1)) ≤ x ∧ x < 2 ^ (bits - 1) then (x % 2 ^ bits).toNat else Config.outOfField bits x

def outU8 (x : Int) : List Byte := bytesU8 (unsignedField 8 x)
def outU16 (x : Int) : List Byte := bytesU16 (unsignedField 16 x)
def outU32 (x : Int) : List Byte := bytesU32 (unsignedField 32 x)
def outS8 (x : Int) : List Byte := bytesU8 (signedField 8 x)
def outS16 (x : Int) : List Byte := bytesU16 (signedField 16 x)
def outS32 (x : Int) : List Byte := bytesU32 (signedField 32 x)

/-- Flags the part sends are always 0 or 1 (R192). -/
def outFlag (b : Bool) : List Byte := bytesU8 (if b then 1 else 0)

def outCode (n : Nat) : List Byte := bytesU8 n

/-- An absent enumerated value is 0xFF (R192). -/
def outOpt (n : Option Nat) : List Byte := bytesU8 (n.getD 255)

def outLabel (l : List Byte) : List Byte := bytesU8 l.length ++ l

/-- µm/s shown in a frame in mm/s, rounded toward zero (R23, R66, R193). -/
def mmPerS (x : Int) : Int := divTrunc x 1000

/-- The error e in a frame: none is −2 147 483 648, and e beyond ±2 147 483 647 is the nearer of those (R138, R193). -/
def outError : Option Int → List Byte
  | none => outS32 (-2147483648)
  | some e => outS32 (clampInt (-2147483647) 2147483647 e)

/-! Fields of a record with no contents the spec states (Config.undefinedRecord), each from its place in the record and of a form that
R192 and R193 let it have. (DESIGN CHOICE, log entry 15.) -/

/-- A numeric field of n bytes. -/
def undefinedBytes (selector place n : Nat) : List Byte := (List.range n).map fun i => Config.undefinedRecord selector (place + i)

/-- A flag: 0 or 1 (R192). -/
def undefinedFlag (selector place : Nat) : List Byte := outFlag ((Config.undefinedRecord selector place).toNat % 2 == 1)

/-- An enumerated field of n values: one of their codes, or 0xFF for an absent value (R192). -/
def undefinedCode (selector place n : Nat) : List Byte :=
  outOpt (if (Config.undefinedRecord selector place).toNat < n then some (Config.undefinedRecord selector place).toNat else none)

/-- A set of n elements, sent as bits (R193). -/
def undefinedSet (selector place n : Nat) : List Byte := outU8 ((Config.undefinedRecord selector place).toNat % 2 ^ n)

end Sys2Proof.Machine
end

