-- ==== Sys2Proof/Machine/Flags.lean ====
section
/-! DEFINITION. Machine/Flags.lean: the conditions and quantities that blocks publish as functions of what they hold:
CONFIGURED, published radius and inertia, target rate and play speed, the limits in force, the zone in force and what it
allows, the level of RECORD_INHIBIT, and the telemetry record. -/

namespace Sys2Proof.Machine

/-! ## Pack Estimator -/

/-- W, the window length in reel edges (Table 2-5). -/
def PackStatus.windowLen : PackStatus → Nat
  | .probe => 32
  | _ => 256

/-- The stand-in radius (R30). -/
def ReelProfile.standIn (q : ReelProfile) : Nat := (q.hub + q.flange) / 2

/-- The radius a pack record publishes, in µm (R30). -/
def publishedRadius (ps : Packs) (r : Reel) : Nat :=
  if (ps.pack.get r).status = .tracking then (ps.pack.get r).rq / 256 else (ps.profile.get r).standIn

/-- R38: J for a radius in µm. -/
def inertiaAt (q : ReelProfile) (kj radius : Nat) : Int :=
  let rd : Int := radius / 100
  let hd : Int := q.hub / 100
  q.jf + divFloor (kj * (rd ^ 4 - hd ^ 4)) 10000000000000

/-- The inertia a pack record publishes (R30, R38). -/
def publishedInertia (ps : Packs) (r : Reel) : Int :=
  if (ps.pack.get r).status = .tracking then (ps.pack.get r).j
  else inertiaAt (ps.profile.get r) ps.tape.kj (ps.profile.get r).standIn

/-- The radius as telemetry shows it: unknown while the record is not TRACKING (R30). -/
def knownRadius (ps : Packs) (r : Reel) : Option Nat :=
  if (ps.pack.get r).status = .tracking then some (publishedRadius ps r) else none

/-- R39: the pack area in mm² of the two published radii. -/
def packArea (ps : Packs) : Int :=
  let rs : Int := publishedRadius ps .supply
  let rt : Int := publishedRadius ps .takeup
  divFloor (rs ^ 2 + rt ^ 2) 1000000

/-! ## Sense Scanner -/

def Sense.presence (x : Sense) : PresenceId → PresenceChannel
  | .ps => x.ps
  | .pt => x.pt
  | .ph => x.ph

def Sense.setPresence (x : Sense) (i : PresenceId) (c : PresenceChannel) : Sense :=
  match i with
  | .ps => { x with ps := c }
  | .pt => { x with pt := c }
  | .ph => { x with ph := c }

/-- The excitation current a channel's sensor gets: that of its range (R1), and none while the part is held in a reset (R17). -/
def excitation (s : State) (ch : Channel) : SenseRange :=
  if s.held.isSome then .off
  else
    match ch with
    | .arm r => (s.sense.arms.get r).range
    | .presence i => (s.sense.presence i).range

/-- R8: both arm channels have a calibration and neither is in range OFF. -/
def configured (x : Sense) : Bool :=
  x.arms.supply.cal.isSome && x.arms.takeup.cal.isSome && x.arms.supply.range != .off && x.arms.takeup.range != .off

def armFailed (a : ArmChannel) : Bool := a.outcome == .stalled || a.outcome == .outOfRange

/-! ## Capstan Controller -/

/-- S, the sum of the last 64 accepted reference periods (R67). -/
def Capstan.periodSum (c : Capstan) : Nat := c.periods.foldr (· + ·) 0

/-- f_ref measured from S, in mHz (R67). -/
def Capstan.measuredRef (c : Capstan) : Nat := 64 * 48000000000 / c.periodSum

/-- The base rate that f_ref, M and D give (R66). -/
def Capstan.freshBase (c : Capstan) : Nat := c.fRef * c.m / c.d

/-- b: the base rate in force, held while frozen is yes (R66). -/
def Capstan.base (c : Capstan) : Nat := c.frozenBase.getD c.freshBase

/-- f_t, in mHz (R66). -/
def Capstan.targetRate (c : Capstan) : Int := divFloor (c.base * (10000 + c.vs)) 10000

/-- v_play, in µm/s (R66). -/
def Capstan.vPlay (c : Capstan) : Int := divFloor (c.targetRate * c.ell) 1000000

/-- The varispeed target (R69). -/
def Capstan.vsTarget (c : Capstan) : Int := clampInt (-1000) 1000 (c.vsHost + c.trim)

/-- Lock states in which the pinch may close (R94). -/
def LockState.fit (l : LockState) : Bool := l == .locked || l == .holdover

/-! ## Tension Servo -/

/-- T_eff in cN (R46). -/
def Servo.tEff (v : Servo) : Nat := v.tEff16 / 16

/-- τ_lim_eff of a reel (R56). -/
def tauLimEff (s : State) (r : Reel) : Nat :=
  if s.servo.reduced then (s.packs.profile.get r).tauLim / 2 else (s.packs.profile.get r).tauLim

/-- The holding torque of tension T at a radius (R50). -/
def holdTorque (tension : Int) (radius : Nat) : Int := divFloor (tension * radius + 5000) 10000

/-- The drive code of a torque (R58). -/
def codeOf (tau : Int) (tauFs : Nat) : Int := clampInt (-32767) 32767 (divHalfAway (tau * 32767) tauFs)

/-! ## Motion Planner -/

/-- Loaded: any mode other than IDLE (Table 0-2). -/
def Mode.loaded (m : Mode) : Bool := m != .idle

/-- The moving modes (R82). -/
def Planner.moving (p : Planner) : Bool :=
  match p.mode with
  | .loading => p.sub == some .probeCreep
  | .wind | .locate | .engaging | .play | .chase | .survey | .stopping => true
  | _ => false

/-- CLOSING and CLOSED are commanded closed (R84). -/
def PinchState.commandedClosed (x : PinchState) : Bool := x == .closing || x == .closed

/-- APPLYING and APPLIED are commanded applied (R83). -/
def BrakeState.commandedApplied (x : BrakeState) : Bool := x == .applying || x == .applied

/-- The direction of travel of the planner: the sign of v_ref, or of the goal when v_ref is 0 (R101). -/
def Planner.travel (p : Planner) : Option Dir := if p.vRef = 0 then dirOf p.goal else dirOf p.vRef

/-- The direction of travel for the zone direction rule: that of the goal, or of v_ref when the goal is 0 (R108). -/
def Planner.heading (p : Planner) : Option Dir := if p.goal = 0 then dirOf p.vRef else dirOf p.goal

def Planner.blocked (p : Planner) : Dir → Bool
  | .forward => p.fwdBlocked
  | .reverse => p.revBlocked

/-- A parameter halved with rounding down while the drive state is REDUCED (R102). -/
def halvedIf (b : Bool) (n : Nat) : Nat := if b then n / 2 else n

/-- v_max_eff, in mm/s (R102). -/
def vMaxEff (s : State) : Nat := halvedIf s.servo.reduced s.planner.vMax

def TorqueLimits.acc (t : TorqueLimits) : Dir → Int
  | .forward => t.fwdAcc
  | .reverse => t.revAcc

def TorqueLimits.dec (t : TorqueLimits) : Dir → Int
  | .forward => t.fwdDec
  | .reverse => t.revDec

/-- a_acc_eff for a direction (R102). -/
def aAccEff (s : State) (d : Dir) : Int :=
  min (halvedIf s.packs.mismatch (halvedIf s.servo.reduced s.planner.aAcc) : Nat) (s.planner.torque.acc d)

/-- a_dec_eff for a direction (R102). -/
def aDecEff (s : State) (d : Dir) : Int :=
  min (halvedIf s.packs.mismatch (halvedIf s.servo.reduced s.planner.aDec) : Nat) (s.planner.torque.dec d)

/-- A quotient of R103; the spec states none for J = 0. (DESIGN CHOICE, log entry 12.) -/
def torqueQuotient (a b : Int) : Int := if b = 0 then Config.quotientByZero a else divFloor a b

/-- R103: the limit of one case, given its supplying and its absorbing reel. -/
def torqueLimit (s : State) (supplying absorbing : Reel) : Int :=
  let part (r : Reel) (sign : Int) : Int :=
    let radius := publishedRadius s.packs r
    let av : Int := tauLimEff s r * 8 / 10
    let hold := holdTorque s.packs.tape.tNom radius
    torqueQuotient ((av + sign * (hold + (s.packs.profile.get r).f)) * radius) (publishedInertia s.packs r * 10)
  max 100 (min (part supplying (-1)) (part absorbing 1))

/-- R103: the four torque-available limits as the packs, profiles and drive state stand. -/
def torqueLimits (s : State) : TorqueLimits :=
  { fwdAcc := torqueLimit s .takeup .supply, fwdDec := torqueLimit s .supply .takeup,
    revAcc := torqueLimit s .supply .takeup, revDec := torqueLimit s .takeup .supply }

/-! ## Zone Table -/

/-- R113: whether an entry holds a position. -/
def ZoneEntry.holds (z : ZoneEntry) (x : Int) : Bool := z.enabled && z.base ≤ x && x < z.base + 2 ^ z.k

/-- The lowest index of an entry that holds the position, from index i on; 8, the base zone, if none does. -/
def zoneFrom (x : Int) : Nat → List ZoneEntry → Nat
  | _, [] => 8
  | i, z :: rest => if z.holds x then i else zoneFrom x (i + 1) rest

/-- R113: the index of the zone in force at a position. -/
def zoneAt (z : Zones) (x : Int) : Nat := zoneFrom x 0 z.entries

/-- The attributes of the zone with an index; those of the base zone for 8. -/
def attrsOf (z : Zones) (i : Nat) : ZoneAttrs :=
  match z.entries[i]? with
  | some e => e.attrs
  | none => z.base

/-- The attributes of the current zone. -/
def Zones.current (z : Zones) : ZoneAttrs := attrsOf z z.index

/-- The directions attribute allows a direction of travel (Table 6-1). -/
def ZoneDirs.allows (x : ZoneDirs) (d : Dir) : Bool :=
  match x, d with
  | .both, _ => true
  | .forward, .forward => true
  | .reverse, .reverse => true
  | _, _ => false

/-- A direction that a direction block or the current zone forbids (R86, R107). -/
def forbidden (s : State) (d : Dir) : Bool := s.planner.blocked d || !(s.zones.current.dirs.allows d)

/-- R118: whether RECORD_INHIBIT is to be asserted. -/
def inhibitLevel (s : State) : Bool :=
  s.zones.current.inhibit ||
    !(s.planner.mode == .play || (s.planner.mode == .chase && s.chase.state == .locked))

/-! ## Fault Unit -/

def FaultUnit.latched (f : FaultUnit) : Bool := f.record.isSome

/-- Severity in force, none with no fault latched (Table 8-1). -/
def FaultUnit.severity (f : FaultUnit) : Option Severity := f.record.map (·.severity)

/-- The modes in which a silent host leaves the tape at rest (R157). -/
def Mode.quiet (m : Mode) : Bool := m == .idle || m == .hold || m == .braked

/-- R157: whether the link timer counts. -/
def linkTimerCounts (s : State) : Bool := s.fault.linkTimeout != 0 && !s.planner.mode.quiet

/-! ## Telemetry -/

/-- The sub-state of Table 11-6. -/
def subState (s : State) : Option Nat :=
  match s.planner.mode with
  | .loading | .unloading => s.planner.sub.map (·.code)
  | .locate => s.locate.map (·.phase.code)
  | .chase => some s.chase.state.code
  | .survey => some s.survey.state.code
  | _ => none

/-- R187: the contents of TELEMETRY as they stand. -/
def telemetryOf (s : State) : Telemetry :=
  { mode := s.planner.mode, subState := subState s, k := if s.planner.mode = .survey then some s.survey.k else none,
    position := s.tach.position, referenced := s.tach.referenced, vMeas := mmPerS s.tach.vMeas,
    p := s.sense.arms.map (·.p), tEst := s.servo.reels.map (·.tEst), tEff := s.servo.tEff,
    radius := { supply := knownRadius s.packs .supply, takeup := knownRadius s.packs .takeup },
    code := s.servo.reels.map (·.code), reduced := s.servo.reduced, lock := s.capstan.lock, zone := s.zones.index,
    inhibit := s.lines.recordInhibit, faulted := s.fault.latched }

/-- The sticky flags (R188, R193): bit 0 tension lost, bit 1 lock lost, bit 2 frames dropped, bit 3 notices lost. -/
def stickyBits (s : State) : Nat :=
  bitOf s.sense.tensionLost 1 + bitOf s.capstan.lockLost 2 + bitOf s.link.framesDropped 4 + bitOf s.link.noticesLost 8

end Sys2Proof.Machine
end

