-- ==== Sys2Proof/Machine/Wire.lean ====
section
/-! DEFINITION. Machine/Wire.lean: the records of section 11.3, the notice payloads of Table 11-8 and the bytes of the
frames the part sends (Table 11-1). -/

namespace Sys2Proof.Machine

def optReel (r : Option Reel) : Option Nat := r.map reelCode

def optDir (d : Option Dir) : Option Nat := d.map dirCode

/-! ## Records (section 11.3) -/

/-- Channel record of an arm channel (Table 11-5). -/
def armRecord (s : State) (r : Reel) : List Byte :=
  let a := s.sense.arms.get r
  outU8 (reelCode r) ++ outCode a.range.code ++ outU16 a.cMin ++ outU16 a.cMax ++ outU16 a.last ++ outCode a.outcome.code ++
  outFlag a.cal.isSome ++ outU16 (a.cal.getD (0, 0)).1 ++ outU16 (a.cal.getD (0, 0)).2 ++ outS16 a.p ++
  bytesU16 (Config.absentField 0) ++ bytesU16 (Config.absentField 1) ++ outFlag Config.absentFlag ++ outOpt none ++
  outFlag (configured s.sense)

def PresenceId.channelCode : PresenceId → Nat
  | .ps => 2 | .pt => 3 | .ph => 4

/-- Channel record of a presence channel (Table 11-5). -/
def presenceRecord (s : State) (i : PresenceId) : List Byte :=
  let c := s.sense.presence i
  outU8 i.channelCode ++ outCode c.range.code ++ outU16 c.cMin ++ outU16 c.cMax ++ outU16 c.last ++ outCode c.outcome.code ++
  outFlag false ++ outU16 0 ++ outU16 0 ++ bytesU16 (Config.absentField 3) ++ outU16 c.tOn ++ outU16 c.tOff ++
  outFlag c.suppress ++ outCode c.state.code ++ outFlag (configured s.sense)

/-- Channel record for a selector that names no channel: free values but for CONFIGURED, which is no channel's (R8). (DESIGN CHOICE, log
entry 15.) -/
def unnamedChannelRecord (s : State) (x : Nat) : List Byte :=
  undefinedCode x 0 5 ++ undefinedCode x 1 4 ++ undefinedBytes x 2 6 ++ undefinedCode x 8 5 ++ undefinedFlag x 9 ++
  undefinedBytes x 10 10 ++ undefinedFlag x 20 ++ undefinedCode x 21 4 ++ outFlag (configured s.sense)

/-- The record of the channel a selector names (Table 11-5). -/
def channelRecord (s : State) (selector : Nat) : List Byte :=
  match Channel.ofCode selector with
  | some (.arm r) => armRecord s r
  | some (.presence i) => presenceRecord s i
  | none => unnamedChannelRecord s selector

def telemetryBytes (t : Telemetry) : List Byte :=
  outCode t.mode.code ++ outOpt t.subState ++ outOpt t.k ++ outS32 t.position ++ outFlag t.referenced ++ outS16 t.vMeas ++
  outS16 t.p.supply ++ outS16 t.p.takeup ++ outS16 t.tEst.supply ++ outS16 t.tEst.takeup ++ outU16 t.tEff ++
  outU32 (t.radius.supply.getD 0 : Nat) ++ outU32 (t.radius.takeup.getD 0 : Nat) ++ outS16 t.code.supply ++ outS16 t.code.takeup ++
  outFlag t.reduced ++ outCode t.lock.code ++ outU8 t.zone ++ outFlag t.inhibit ++ outFlag t.faulted

/-- The status record (Table 11-6). -/
def statusBytes (s : State) : List Byte :=
  telemetryBytes (telemetryOf s) ++ outCode (stopCode s.planner.stopInForce) ++ outU16 (mmPerS s.capstan.vPlay) ++
  outU32 s.capstan.targetRate ++ outU32 (s.packs.a0.getD 0) ++ outFlag s.packs.mismatch ++
  outOpt (s.fault.record.map (·.primary.kind.code)) ++ outU8 (stickyBits s)

def conditionPair (c : Option Condition) : List Byte :=
  outOpt (c.map (·.kind.code)) ++ outOpt (c.bind (fun x => optReel x.reel))

/-- The fault record, empty when no fault is latched (Table 11-7, R193). -/
def faultRecordBytes (f : FaultUnit) : List Byte :=
  match f.record with
  | none =>
    outOpt none ++ outOpt none ++ outOpt none ++ outOpt none ++ outS16 0 ++ outS32 0 ++ outU8 0 ++ conditionPair none ++
    conditionPair none ++ conditionPair none ++ outFlag false ++ outCode (stopCode none)
  | some r =>
    conditionPair (some r.primary) ++ outCode r.mode.code ++ outOpt (r.sub.map (·.code)) ++ outS16 r.vMeas ++
    outS32 r.position ++ outU8 r.secondaries.length ++ conditionPair r.secondaries[0]? ++ conditionPair r.secondaries[1]? ++
    conditionPair r.secondaries[2]? ++ outFlag r.lost ++ outCode r.severity.code

def zoneAttrBytes (a : ZoneAttrs) : List Byte :=
  outU16 a.limit ++ outU8 a.scale ++ outCode a.dirs.code ++ outFlag a.inhibit

def zoneEntryBytes (z : ZoneEntry) : List Byte := outFlag z.enabled ++ outS32 z.base ++ outU8 z.k ++ zoneAttrBytes z.attrs

def cueBytes (c : Cue) : List Byte :=
  outU8 c.id ++ outS32 c.position ++ outCode c.kind.code ++ outCode c.mark.code ++ outLabel c.label

/-- The counter record (Table 11-7). -/
def counterBytes (n : Nat) (c : Counter) : List Byte :=
  outU8 n ++ outCode c.event.code ++ outU8 c.qualifier.bits ++ outFlag c.edge ++ outFlag c.invert ++ outU16 c.threshold ++
  outFlag c.ovfNotice ++ outFlag c.enable ++ outCode c.holder.code ++ outU32 c.value ++ outFlag c.overflow

/-- Counter record for a number that names no counter. (DESIGN CHOICE, log entry 15.) -/
def unnamedCounterBytes (n : Nat) : List Byte :=
  undefinedBytes n 0 1 ++ undefinedCode n 1 14 ++ undefinedSet n 2 3 ++ undefinedFlag n 3 ++ undefinedFlag n 4 ++
  undefinedBytes n 5 2 ++ undefinedFlag n 7 ++ undefinedFlag n 8 ++ undefinedCode n 9 2 ++ undefinedBytes n 10 4 ++
  undefinedFlag n 14

def stepBytes (e : StepEntry) : List Byte :=
  outU16 e.tension ++ outFlag e.clamped ++ outU16 e.samples ++ outU32 e.slack ++ outU32 e.excursion ++
  outOpt (e.endedBy.map (·.code)) ++ outFlag e.frozen

/-! ## Notices (Table 11-8) -/

def Notice.kind : Notice → NoticeKind
  | .ready .. => .ready | .fault .. => .fault | .tapeEnd .. => .tapeEnd | .mode .. => .mode | .locateDone .. => .locateDone
  | .autoStop .. => .autoStop | .lock .. => .lock | .ref .. => .ref | .chase .. => .chase | .drive .. => .drive
  | .surveyDone .. => .surveyDone | .counterOverflow .. => .counterOverflow | .pack .. => .pack | .surveyStep .. => .surveyStep
  | .telemetry .. => .telemetry | .zone .. => .zone | .cuePassed .. => .cuePassed

/-- The state kinds (R184). -/
def NoticeKind.isState : NoticeKind → Bool
  | .mode | .zone | .lock | .ref | .chase | .drive | .telemetry => true
  | _ => false

def Notice.body : Notice → List Byte
  | .ready cause position referenced => outCode cause.code ++ outS32 position ++ outFlag referenced
  | .fault secondary cond listed severity m vMeas position =>
    outFlag secondary ++ outCode cond.kind.code ++ outOpt (optReel cond.reel) ++ outFlag listed ++ outCode severity.code ++
    outCode m.code ++ outS16 vMeas ++ outS32 position
  | .tapeEnd position m blocked => outS32 position ++ outCode m.code ++ outOpt (optDir blocked)
  | .mode m sub left stop cause =>
    outCode m.code ++ outOpt (sub.map (·.code)) ++ outCode left.code ++ outCode (stopCode stop) ++ outCode cause.code
  | .locateDone outcome target aim position error attempts playStarted =>
    outCode outcome.code ++ outS32 target ++ outS32 aim ++ outS32 position ++ outS32 error ++ outU8 attempts ++
    outFlag playStarted
  | .autoStop id cue rest difference label => outU8 id ++ outS32 cue ++ outS32 rest ++ outS32 difference ++ outLabel label
  | .lock state change ePhi => outCode state.code ++ outCode change.code ++ outS16 ePhi
  | .ref cause source present => outCode cause.code ++ outCode source.code ++ outCode (presentCode present)
  | .chase state prev cause e trim lead doublings =>
    outCode state.code ++ outCode prev.code ++ outCode cause.code ++ outError e ++ outS16 trim ++ outU32 lead ++ outU8 doublings
  | .drive reduced => outFlag reduced
  | .surveyDone outcome reason entries floor position =>
    outCode (outcomeCode outcome) ++ outCode (reasonCode reason) ++ outU8 entries ++ outU16 (floor.getD 0) ++ outS32 position
  | .counterOverflow set values frozen =>
    outU8 set.bits ++ outU32 values.c0 ++ outU32 values.c1 ++ outU32 values.c2 ++ outU32 values.c3 ++ outFlag frozen
  | .pack cause reel value1 value2 => outCode cause.code ++ outOpt (optReel reel) ++ outU32 value1 ++ outU32 value2
  | .surveyStep k entry => outU8 k ++ stepBytes entry
  | .telemetry record => telemetryBytes record
  | .zone cause index attrs position dir block =>
    outCode cause.code ++ outU8 index ++ zoneAttrBytes attrs ++ outS32 position ++ outOpt (optDir dir) ++
    outOpt (block.map (·.1)) ++ outOpt (block.map (fun x => dirCode x.2))
  | .cuePassed id position cueKind dir m missed label =>
    outU8 id ++ outS32 position ++ outCode cueKind.code ++ outCode (dirCode dir) ++ outCode m.code ++ outFlag missed ++ outLabel label

/-! ## Frames (Table 11-1) -/

def byteSum (l : List Byte) : Nat := l.foldr (fun b n => b.toNat + n) 0

/-- The check byte: the bytes from the length byte to it add up to 0 modulo 256 (section 10.1). -/
def checkByte (l : List Byte) : Byte := byteOf (256 - byteSum l % 256)

def frameBytes (kind tag : Byte) (payload : List Byte) : List Byte :=
  let inner := byteOf payload.length :: kind :: tag :: payload
  0xA5 :: inner ++ [checkByte inner]

/-- The bytes on the transmit pin for the frame being sent (R183). -/
def txBytes (s : State) : List Byte :=
  match s.link.tx with
  | .idle => []
  | .sendingReply r => frameBytes r.kind r.tag (byteOf r.code.code :: r.body)
  | .sendingNotice n => frameBytes (byteOf (0xE0 + n.kind.place)) 0 n.body

end Sys2Proof.Machine
end

