-- ==== Sys2Proof/Machine/Ops.lean ====
section
/-! DEFINITION. Machine/Ops.lean: the named operations every command is built from: the update of one block, posting
a notice and feeding the transmitter (R183 to R185), counting a monitor event (R164, R165), the mode change (R109), and the
planner's commands to brakes, pinch, reel drives and capstan (R83 to R85). -/

namespace Sys2Proof.Machine

/-! ## Updating one block -/

def State.onSense (s : State) (f : Sense → Sense) : State := { s with sense := f s.sense }

def State.onTach (s : State) (f : Tach → Tach) : State := { s with tach := f s.tach }

def State.onPacks (s : State) (f : Packs → Packs) : State := { s with packs := f s.packs }

def State.onServo (s : State) (f : Servo → Servo) : State := { s with servo := f s.servo }

def State.onCapstan (s : State) (f : Capstan → Capstan) : State := { s with capstan := f s.capstan }

def State.onPlanner (s : State) (f : Planner → Planner) : State := { s with planner := f s.planner }

def State.onZones (s : State) (f : Zones → Zones) : State := { s with zones := f s.zones }

def State.onCues (s : State) (f : Cues → Cues) : State := { s with cues := f s.cues }

def State.onParams (s : State) (f : LocateParams → LocateParams) : State := { s with params := f s.params }

def State.onLocate (s : State) (f : Option LocateRec → Option LocateRec) : State := { s with locate := f s.locate }

def State.onChase (s : State) (f : Chase → Chase) : State := { s with chase := f s.chase }

def State.onFault (s : State) (f : FaultUnit → FaultUnit) : State := { s with fault := f s.fault }

def State.onMonitor (s : State) (f : Monitor → Monitor) : State := { s with monitor := f s.monitor }

def State.onSurvey (s : State) (f : Survey → Survey) : State := { s with survey := f s.survey }

def State.onLink (s : State) (f : Link → Link) : State := { s with link := f s.link }

def State.onLines (s : State) (f : Lines → Lines) : State := { s with lines := f s.lines }

/-- One free value is taken (Config.lean). (DESIGN CHOICE, log entry 18.) -/
def State.takeFree (s : State) : State := { s with freeIndex := s.freeIndex + 1 }

def State.onArm (s : State) (r : Reel) (f : ArmChannel → ArmChannel) : State :=
  s.onSense fun x => { x with arms := x.arms.set r (f (x.arms.get r)) }

def State.onPresence (s : State) (i : PresenceId) (f : PresenceChannel → PresenceChannel) : State :=
  s.onSense fun x => x.setPresence i (f (x.presence i))

def State.onReelTach (s : State) (r : Reel) (f : ReelTach → ReelTach) : State :=
  s.onTach fun x => { x with reels := x.reels.set r (f (x.reels.get r)) }

def State.onPack (s : State) (r : Reel) (f : Pack → Pack) : State :=
  s.onPacks fun x => { x with pack := x.pack.set r (f (x.pack.get r)) }

def State.onReelServo (s : State) (r : Reel) (f : ReelServo → ReelServo) : State :=
  s.onServo fun x => { x with reels := x.reels.set r (f (x.reels.get r)) }

/-! ## Four of a kind -/

def Four.get {α : Type} (x : Four α) : Nat → α
  | 0 => x.c0
  | 1 => x.c1
  | 2 => x.c2
  | _ => x.c3

def Four.set {α : Type} (x : Four α) (n : Nat) (v : α) : Four α :=
  match n with
  | 0 => { x with c0 := v }
  | 1 => { x with c1 := v }
  | 2 => { x with c2 := v }
  | _ => { x with c3 := v }

def Four.map {α β : Type} (x : Four α) (f : α → β) : Four β := { c0 := f x.c0, c1 := f x.c1, c2 := f x.c2, c3 := f x.c3 }

def Four.zip {α β γ : Type} (x : Four α) (y : Four β) (f : α → β → γ) : Four γ :=
  { c0 := f x.c0 y.c0, c1 := f x.c1 y.c1, c2 := f x.c2 y.c2, c3 := f x.c3 y.c3 }

def Four.any (x : Four Bool) : Bool := x.c0 || x.c1 || x.c2 || x.c3

/-! ## The notice queue and the transmitter (R183 to R185) -/

/-- The level of a kind; READY's is fixed at 3 (Table 10-2). -/
def Link.levelOf (l : Link) (k : NoticeKind) : Nat := if k = .ready then 3 else l.levels.getD k.place 0

/-- A notice takes its place: highest priority first, oldest first within a priority (R184). -/
def insertNotice (q : QueuedNotice) : List QueuedNotice → List QueuedNotice
  | [] => [q]
  | x :: rest =>
    if x.priority < q.priority || (x.priority == q.priority && q.age < x.age) then q :: x :: rest
    else x :: insertNotice q rest

/-- The lowest priority present in a queue, at most the given bound. -/
def lowestPriority (bound : Nat) (q : List QueuedNotice) : Nat := q.foldr (fun x n => min x.priority n) bound

/-- R184, R185: a posted notice is discarded at level 0, replaces a queued notice of its state kind, joins the queue, or
meets a full queue. -/
def enqueueNotice (n : Notice) (l : Link) : Link :=
  let prio := l.levelOf n.kind
  let entry : QueuedNotice := { notice := n, priority := prio, age := l.nextAge }
  if prio = 0 then l
  else if n.kind.isState && l.notices.any (fun x => x.notice.kind == n.kind) then
    { l with notices := l.notices.map fun x => if x.notice.kind = n.kind then { x with notice := n } else x }
  else if l.notices.length < 16 then
    { l with notices := insertNotice entry l.notices, nextAge := l.nextAge + 1 }
  else
    let lowest := lowestPriority prio l.notices
    if lowest < prio then
      { l with notices := insertNotice entry (l.notices.eraseP fun x => x.priority == lowest), nextAge := l.nextAge + 1,
               noticesLost := true }
    else { l with noticesLost := true }

/-- R183: an idle transmitter takes the waiting reply, or else the first queued notice. -/
def txTake (l : Link) : Link :=
  match l.tx, l.reply, l.notices with
  | .idle, some r, _ => { l with tx := .sendingReply r, reply := none }
  | .idle, none, q :: rest => { l with tx := .sendingNotice q.notice, notices := rest }
  | _, _, _ => l

/-- A block posts a notice. With the transmitter IDLE and no reply waiting it starts at once (R183). (DEDUCED, log entry 7.) -/
def postNotice (n : Notice) (s : State) : State := s.onLink fun l => txTake (enqueueNotice n l)

/-! ## Counting monitor events (R164, R165) -/

/-- Where an edge-type event is taken from (Table 9-2). -/
inductive EventSource where
  | reel (r : Reel)
  | capstan
  | whole
  deriving DecidableEq, Repr

def Qualifier.hasReel (q : Qualifier) : Reel → Bool
  | .supply => q.supply
  | .takeup => q.takeup

def Qualifier.empty (q : Qualifier) : Bool := !q.supply && !q.takeup && !q.capstan

/-- R164: whether a qualifier admits an occurrence. -/
def Qualifier.admits (q : Qualifier) : EventSource → Bool
  | .reel r => q.hasReel r
  | .capstan => q.capstan
  | .whole => !q.empty

/-- An addition to one counter, modulo 2^32 (R165). -/
def Counter.add (c : Counter) (n : Nat) : Counter :=
  if n = 0 then c
  else { c with value := (c.value + n) % 4294967296, overflow := c.overflow || 4294967296 ≤ c.value + n }

/-- The additions that one event makes to all four counters; while FROZEN none is made. If they set the overflow flag of a
counter whose overflow notice is on, the monitor becomes FROZEN and posts COUNTER_OVERFLOW (R165). -/
def addCounts (adds : Four Nat) (s : State) : State :=
  if s.monitor.frozen then s
  else
    let wrapped := s.monitor.counters.zip adds fun c n => n != 0 && decide (4294967296 ≤ c.value + n)
    let freezes := (s.monitor.counters.zip wrapped fun c w => c.ovfNotice && w).any
    let s1 := s.onMonitor fun m => { counters := m.counters.zip adds Counter.add, frozen := freezes }
    if freezes then postNotice (.counterOverflow wrapped (s1.monitor.counters.map (·.value)) true) s1 else s1

/-- R164: one occurrence of an edge-type event. -/
def monitorEvent (ev : MonEvent) (source : EventSource) (s : State) : State :=
  addCounts (s.monitor.counters.map fun c => if c.enable && c.event == ev && c.qualifier.admits source then 1 else 0) s

/-! ## The mode and what follows it at once -/

/-- R118: the RECORD_INHIBIT line follows the zone, the mode and the chase state. -/
def refreshInhibit (s : State) : State := s.onLines fun l => { l with recordInhibit := inhibitLevel s }

/-- R157: the link timer at a mode change. -/
def linkTimerOnMode (old new : Mode) (s : State) : State :=
  s.onFault fun f =>
    { f with linkTimer :=
        if new.quiet then none
        else if old.quiet then (if f.linkTimeout = 0 then none else some 0)
        else f.linkTimer }

/-- R82, R109: the planner changes mode or sub-stage: the change is published, and posts a MODE notice. A change of mode
withdraws the drop points of the unit that owned the old one and the cap of a reached cue. -/
def setMode (m : Mode) (sub : Option SubStage) (cause : ModeCause) (s : State) : State :=
  let old := s.planner.mode
  if old = m ∧ s.planner.sub = sub then s
  else
    let s1 := s.onPlanner fun p =>
      { p with mode := m, sub := sub, unitPoints := if old = m then p.unitPoints else [],
               autoStopCap := if old = m then p.autoStopCap else false }
    postNotice (.mode m sub old s.planner.stopInForce cause) (linkTimerOnMode old m (refreshInhibit s1))

/-! ## Commands to the mechanics, the reel drives and the capstan -/

/-- R83: both brake lines to "apply". -/
def applyBrakes (s : State) : State :=
  (s.onLines fun l => { l with brakeS := true, brakeT := true }).onPlanner fun p =>
    { p with brake := if p.brake = .applied then .applied else .applying }

/-- R83: both brake lines to "release". -/
def releaseBrakes (s : State) : State :=
  (s.onLines fun l => { l with brakeS := false, brakeT := false }).onPlanner fun p =>
    { p with brake := if p.brake = .released then .released else .releasing }

/-- R84: the pinch roller commanded open. -/
def openPinch (s : State) : State :=
  (s.onLines fun l => { l with pinch := false }).onPlanner fun p =>
    { p with pinch := if p.pinch = .opened then .opened else .opening }

/-- R84: the pinch roller commanded closed. -/
def closePinch (s : State) : State :=
  (s.onLines fun l => { l with pinch := true }).onPlanner fun p =>
    { p with pinch := if p.pinch = .closed then .closed else .closing }

/-- A reel's servo items with the drives disabled (R42). -/
def ReelServo.cleared (x : ReelServo) : ReelServo :=
  { x with integ := 0, sat := none, satRun := 0, slackRun := 0, overRun := 0, code := 0, tEst := 0 }

/-- The Tension Servo with the drives DISABLED (R42, R46, R61). -/
def Servo.disabled (v : Servo) : Servo :=
  { v with enabled := false, tEff16 := 0, reels := v.reels.map ReelServo.cleared, settled := false }

/-- R42, R85: the reel drives commanded DISABLED; a command that repeats the standing state changes nothing. -/
def disableDrives (s : State) : State :=
  (s.onPlanner fun p => { p with drivesCmd := false }).onServo fun v => if v.enabled then v.disabled else v

/-- R42: the Tension Servo at the moment the drives go from DISABLED to ENABLED. -/
def Servo.enable (v : Servo) : Servo :=
  { v with enabled := true, tEff16 := 320,
           reels := v.reels.map fun x => { x with integ := 0, sat := none, satRun := 0, slackRun := 0, overRun := 0 } }

/-- R72: the capstan stops; frozen becomes no, so that b is recomputed. -/
def Capstan.stopped (c : Capstan) : Capstan :=
  { c with lock := .off, driveCode := 0, lockRun := 0, unlockRun := 0, quiet := 0, edgeSeen := false, frozenBase := none }

/-- R72: the capstan goes from OFF to SPINUP; the rule states nothing of e_φ and the remainders. (DESIGN CHOICE, log entry 48.) -/
def Capstan.started (c : Capstan) : Capstan :=
  { c with lock := .spinup, e := 0, r := 0, remRef := 0, remHold := 0, ePhi := 0, lockRun := 0, unlockRun := 0,
           rateWindow := [], stepNet := 0, edgeSeen := false, quiet := 0 }

def stopCapstan (s : State) : State := s.onCapstan fun c => if c.lock = .off then c else c.stopped

def startCapstan (s : State) : State := s.onCapstan fun c => if c.lock = .off then c.started else c

/-- R102, R103: the planner recomputes its torque-available limits. -/
def recomputeLimits (s : State) : State := s.onPlanner fun p => { p with torque := torqueLimits s }

/-! ## Answers to requests -/

/-- What an owning block answers a request with: the state it leaves, the result code and the payload after it (R182). -/
structure Answer where
  state : State
  code : ResultCode
  body : List Byte
  deriving DecidableEq, Repr

/-- A refused request changes no state, and its reply carries the result code alone (R195). -/
def refuse (s : State) (code : ResultCode) : Answer := { state := s, code := code, body := [] }

/-- An accepted request whose reply carries a payload. -/
def accept (s : State) (clamped : Bool) (body : List Byte) : Answer := { state := s, code := okOr clamped, body := body }

/-- While the part is held in any reset, no event of a block runs and no byte is taken (R17, R65, R81, R110, R147, R160, R169,
R179, R191): a command then leaves everything as it is. (DEDUCED, log entry 5.) -/
def whileRunning (f : State → State) (s : State) : Host.Outcome State Fault Refusal :=
  .next (if s.held.isSome then s else f s)

end Sys2Proof.Machine
end

