-- ==== Sys2Proof/Machine/Ahead.lean ====
section
/-! DEFINITION. Machine/Ahead.lean: what lies ahead of the tape: zone boundaries (R115), barred paths, AUTO_STOP cues,
and the arithmetic of braking distances (section 5.9). -/

namespace Sys2Proof.Machine

/-- y lies strictly ahead of x in a direction. -/
def aheadOf (d : Dir) (x y : Int) : Bool :=
  match d with
  | .forward => x < y
  | .reverse => y < x

/-- The position next behind b in a direction of travel. -/
def behindOf (d : Dir) (b : Int) : Int := b - signedBy d 1

/-- The direction from x to y; none if they are equal. -/
def dirTo (x y : Int) : Option Dir := dirOf (y - x)

/-- R115: the candidates for boundaries, the edges of the enabled entries. -/
def edgesOf (d : Dir) (z : ZoneEntry) : List Int :=
  if z.enabled then
    match d with
    | .forward => [z.base, z.base + 2 ^ z.k]
    | .reverse => [z.base - 1, z.base + 2 ^ z.k - 1]
  else []

/-- R115: the boundaries ahead of x in a direction: first positions of a new zone. -/
def boundariesAhead (z : Zones) (d : Dir) (x : Int) : List Int :=
  (z.entries.flatMap (edgesOf d)).filter fun b => aheadOf d x b && zoneAt z b != zoneAt z (behindOf d b)

/-- The attributes of the zone in force at a position (R113). -/
def attrsAt (z : Zones) (x : Int) : ZoneAttrs := attrsOf z (zoneAt z x)

/-- The boundaries ahead that lead into a zone which forbids the direction. -/
def forbiddingAhead (z : Zones) (d : Dir) (x : Int) : List Int :=
  (boundariesAhead z d x).filter fun b => !((attrsAt z b).dirs.allows d)

/-- The boundaries between x and y, y included, in a direction, that lead into a zone which forbids it (R134, R170, R175). -/
def pathBarred (z : Zones) (d : Dir) (x y : Int) : Bool :=
  (forbiddingAhead z d x).any fun b => !(aheadOf d y b)

/-- The nearest of some positions to x. -/
def nearest (x : Int) : List Int → Option Int
  | [] => none
  | b :: rest =>
    match nearest x rest with
    | none => some b
    | some c => if mag (b - x) ≤ mag (c - x) then some b else some c

/-- An AUTO_STOP cue that is not in the missed set. -/
def stopCueLive (p : Planner) (c : Cue) : Bool := c.kind == .autoStop && !(p.missed.contains c.id)

/-- A cue as the planner's memories know it. -/
def Cue.key (c : Cue) : Nat × Int := (c.id, c.position)

/-- The AUTO_STOP cues of the list, as the planner takes them up. -/
def autoStops (l : List Cue) : List (Nat × Int) := (l.filter fun c => c.kind == .autoStop).map Cue.key

/-- The AUTO_STOP cues ahead of a position, in list order, that are not in the missed set. -/
def stopCuesAhead (s : State) (d : Dir) (x : Int) : List Cue :=
  s.cues.list.filter fun c => stopCueLive s.planner c && aheadOf d x c.position

/-- Distance in rc from x to a point, less its guard, counted as 0 below 0 (R104). -/
def distanceTo (x pos : Int) (guard : Nat) : Nat := mag (pos - x) - guard

/-- v_allow of a drop point (R104). -/
def vAllow (limit : Nat) (a : Int) (dist : Nat) : Nat := isqrt (limit ^ 2 + (divFloor (a * dist) 40).toNat)

/-- The distance needed to fall from v to the speed L at a rate (R105). -/
def neededDistance (v limit : Nat) (a : Int) : Int :=
  if v ≤ limit then 0 else divCeil (((v : Int) ^ 2 - (limit : Int) ^ 2) * 40) a

/-- The zone of the first boundary ahead, in the forward direction, whose zone forbids forward: the play stop point of R106 and R142,
whatever the direction of v_ref and the goal. -/
def blockingZoneAhead (s : State) : Option (Nat × Dir) :=
  (nearest s.tach.position (forbiddingAhead s.zones .forward s.tach.position)).map fun b => (zoneAt s.zones b, .forward)

/-- R117: the current zone if it forbids the direction of travel, which is that of the goal, or of v_ref at goal 0 (R108); otherwise the
first zone ahead that forbids forward, the only direction in which R106 has stop points. Where there is none, because an edit has
removed the zone behind a drop point of the unit since its last step (R142), the record stays empty. (DESIGN CHOICE, log entry 85.) -/
def blockingZone (s : State) : Option (Nat × Dir) :=
  match s.planner.heading with
  | none => blockingZoneAhead s
  | some d => if s.zones.current.dirs.allows d then blockingZoneAhead s else some (s.zones.index, d)

end Sys2Proof.Machine
end

