-- ==== Sys2Proof/Machine/Stops.lean ====
section
/-! DEFINITION. Machine/Stops.lean: how operations end: the endings of a locate, a chase and a survey, the entries to HOLD,
IDLE, STOPPING, BRAKING, BRAKED and ENGAGING, stop demands (R98), fault conditions (R149, R150), the enabling of the reel
drives (R42, R10) and the start of a motion (R124). -/

namespace Sys2Proof.Machine

def modeCauseOf : StopCause → ModeCause
  | .request => .request | .complete => .complete | .engageFailed => .engageFailed | .tapeEnd => .tapeEnd | .fault => .fault
  | .zone => .zone | .autoStop => .autoStop | .locate => .locate | .chase => .chase | .survey => .survey

/-! ## The endings of the units' operations -/

/-- R136: a locate of the host ends: LOCATE_DONE is posted and the record becomes NONE. -/
def finishLocate (outcome : LocateOutcome) (playStarted : Bool) (s : State) : State :=
  match s.locate with
  | none => s
  | some l =>
    let done := Notice.locateDone outcome l.target l.aim s.tach.position (s.tach.position - l.aim) l.attempts playStarted
    (postNotice done s).onLocate fun _ => none

/-- A locate owned by another unit ends with its owner's operation (R146, R176). -/
def dropLocateOf (owner : LocateOwner) (s : State) : State :=
  s.onLocate fun l => l.filter fun r => r.owner != owner

/-- R146: each change of chase state posts a CHASE notice, and RECORD_INHIBIT follows the state (R118). -/
def setChaseState (st : ChaseState) (cause : ChaseCause) (s : State) : State :=
  let prev := s.chase.state
  let s1 := refreshInhibit (s.onChase fun c => { c with state := st })
  postNotice (.chase st prev cause s1.chase.e s1.capstan.trim s1.chase.lead s1.chase.doublings) s1

/-- R146: a chase ends. -/
def endChase (cause : ChaseCause) (s : State) : State :=
  if s.chase.state = .off then s
  else
    let s1 := (dropLocateOf .chase s).onCapstan fun c => { c with trim := 0 }
    let s2 := s1.onChase fun c => { c with master := none, silence := none }
    (setChaseState .off cause s2).onPlanner fun p => { p with unitPoints := [] }

/-- The tension of a completed step without a slack sample takes part in the floor (R177). -/
def StepEntry.floorCandidate (e : StepEntry) : Option Int :=
  if (e.endedBy = some .dwell ∨ e.endedBy = some .limit) ∧ e.slack = 0 then some e.tension else none

def minOption (a b : Option Int) : Option Int :=
  match a, b with
  | some x, some y => some (min x y)
  | some x, none => some x
  | none, y => y

/-- R177: the lowest tension among the completed steps whose slack count is 0. -/
def surveyFloor (t : List StepEntry) : Option Int := t.foldr (fun e acc => minOption e.floorCandidate acc) none

/-- A step in progress is recorded with its counts so far (R176): the last entry, if it has not ended. -/
def closeStep (by_ : EndedBy) : List StepEntry → List StepEntry
  | [] => []
  | [e] => [if e.endedBy = none then { e with endedBy := some by_ } else e]
  | e :: rest => e :: closeStep by_ rest

/-- Counters 2 and 3 are released at a survey's end (R176). -/
def Counter.release (c : Counter) : Counter := { c with enable := false, holder := .host }

def surveyRuns (x : Survey) : Bool := x.state == .positioning || x.state == .running

/-- R176: what happens at every ending of a survey, in its order. -/
def endSurvey (outcome : SurveyOutcome) (reason : Option AbortReason) (by_ : EndedBy) (s : State) : State :=
  if surveyRuns s.survey then
    let s1 := (dropLocateOf .survey s).onSurvey fun x =>
      let table := closeStep by_ x.table
      { x with table := table, floor := surveyFloor table, stepTension := none, state := .ended, phase := none,
               outcome := some outcome, reason := reason }
    let s2 := s1.onMonitor fun m =>
      { m with counters := { m.counters with c2 := m.counters.c2.release, c3 := m.counters.c3.release } }
    (postNotice (.surveyDone s2.survey.outcome s2.survey.reason s2.survey.table.length s2.survey.floor s2.tach.position) s2).onPlanner
      fun p => { p with unitPoints := [] }
  else s

def locateOutcomeOf : StopCause → LocateOutcome
  | .fault => .faulted
  | .zone | .tapeEnd => .blocked
  | _ => .aborted

def chaseCauseOf : StopCause → ChaseCause
  | .fault => .fault
  | .tapeEnd => .tapeEnd
  | .zone => .zone
  | .engageFailed => .engageFailed
  | _ => .request

/-- How a stop demand that takes the mode from SURVEY ends it (R176). -/
def endSurveyBy (cause : StopCause) (s : State) : State :=
  match cause with
  | .fault => endSurvey .faulted none .fault s
  | .zone => endSurvey .aborted (some .zone) .abort s
  | .tapeEnd => endSurvey .aborted (some .tapeEnd) .abort s
  | _ => endSurvey .aborted (some .request) .abort s

/-- A stop demand that takes the mode away is reported to the owning unit, which ends its operation (R96, R98). The unit's notice
comes before the MODE notice of the change: R136 and R176 say so for a locate and a survey, and a chase is read the same way. (DEDUCED,
log entry 69.) -/
def endUnit (cause : StopCause) (s : State) : State :=
  match s.planner.mode with
  | .locate => finishLocate (locateOutcomeOf cause) false s
  | .chase => endChase (chaseCauseOf cause) s
  | .survey => endSurveyBy cause s
  | _ => s

/-! ## Entries to modes -/

/-- Publishing a stop cause fills or empties the pending block record (R117) and the pending auto-stop record (R126). -/
def publishStopCause (cause : StopCause) (s : State) : State :=
  let block := if cause = .zone then blockingZone s else none
  let stop := if cause = .autoStop then
      ((stopCuesAhead s .forward s.tach.position).head?).map fun c =>
        ({ id := c.id, position := c.position, label := c.label } : PendingStop)
    else none
  (s.onZones fun z => { z with pendingBlock := block }).onCues fun c => { c with pendingStop := stop }

/-- R98: a CONTROLLED or FAST stop begins. A pinch commanded closed is commanded open. A match timer stops and the match run is kept.
(DESIGN CHOICE, log entry 81.) -/
def beginStopping (sev : Severity) (cause : StopCause) (s : State) : State :=
  let s1 := publishStopCause cause (s.onPlanner fun p => { p with stopInForce := some sev, stopCause := some cause })
  let s2 := (openPinch s1).onPlanner fun p => { p with goal := 0, matchTimer := none }
  setMode .stopping none (modeCauseOf cause) s2

/-- R100: entry to BRAKING. A match timer stops and the match run is kept. (DESIGN CHOICE, log entry 81.) The goal and the standstill
run become 0. (DESIGN CHOICE, log entry 86.) -/
def enterBraking (cause : StopCause) (s : State) : State :=
  let s1 := publishStopCause cause (s.onPlanner fun p => { p with stopInForce := some .brake, stopCause := some cause })
  let s2 := stopCapstan (openPinch (applyBrakes (disableDrives s1)))
  let s3 := s2.onPlanner fun p => { p with vRef := 0, aRef := 0, goal := 0, standRun := 0, matchTimer := none }
  let s4 := s3.onCues fun c => { c with pendingStop := none }
  setMode .braking none (modeCauseOf cause) s4

/-- R89: a load ends in BRAKED at once. A record in PROBE returns to UNKNOWN (R29), with the other members of the record as a reset
leaves them. (DESIGN CHOICE, log entry 68.) The arm run becomes 0 and the stage timer stops. (DESIGN CHOICE, log entry 82.) v_ref, a_ref and the
goal are 0 from here, and the stop cause none. (DESIGN CHOICE, log entry 86.) -/
def failLoad (cause : ModeCause) (s : State) : State :=
  let s1 := s.onPacks fun x => { x with pack := x.pack.map fun r => if r.status = .probe then .unknown else r }
  let s2 := openPinch (applyBrakes (disableDrives s1))
  let s3 := s2.onPlanner fun p =>
    { p with vRef := 0, aRef := 0, goal := 0, stopInForce := none, stopCause := none, stageTimer := none, armRun := 0 }
  setMode .braked none cause s3

/-- R91, R99: HOLD is entered, with no stop in force. A match timer of an engagement that a chase leaves for HOLD stops, and the match
run is kept. (DESIGN CHOICE, log entry 81.) The stop cause becomes none with the stop in force. (DESIGN CHOICE, log entry 86.) -/
def enterHold (cause : ModeCause) (s : State) : State :=
  let s1 := (openPinch s).onPlanner fun p => { p with goal := 0, stopInForce := none, stopCause := none, matchTimer := none }
  setMode .hold none cause s1

/-- R40: when the mode becomes IDLE a MISMATCH is cleared, with a PACK notice MATCHED, and the planner recomputes. The notice carries
A of the radii as they stood and A0 before the entry clears them, and the planner recomputes with those radii too. (DEDUCED, log
entry 43.) -/
def clearMismatch (s : State) : State :=
  if s.packs.mismatch then
    let area := packArea s.packs
    let a0 := s.packs.a0.getD 0
    postNotice (.pack .matched none area a0) (recomputeLimits (s.onPacks fun x => { x with mismatch := false }))
  else s

/-- Every cue's mark returns to none, the pending auto-stop record and the missed set are emptied (R91, R124). -/
def clearMarks (s : State) : State :=
  (s.onCues fun c => { c with list := c.list.map (fun q => { q with mark := .none }), pendingStop := none }).onPlanner fun p =>
    { p with missed := [], autoStopCap := false }

/-- R85, R90, R91: the mode becomes IDLE, and with it A0 and MISMATCH are cleared and both records return to UNKNOWN. (DEDUCED, log
entry 43.) The other members of the records become what a reset leaves. (DESIGN CHOICE, log entry 68.) v_ref, a_ref
and the goal are 0 from here, and the stop cause none. (DESIGN CHOICE, log entry 86.) -/
def enterIdle (cause : ModeCause) (s : State) : State :=
  let s1 := stopCapstan (openPinch (applyBrakes (disableDrives s)))
  let s2 := s1.onPlanner fun p => { p with vRef := 0, aRef := 0, goal := 0, stopInForce := none, stopCause := none }
  let s3 := clearMismatch (setMode .idle none cause s2)
  clearMarks (s3.onPacks fun x => { x with a0 := none, pack := .both .unknown })

/-- R124: a motion starts. Every AUTO_STOP cue within 8 rc of the position is marked EXCLUDED and put in the missed set. The cues
of the list are in force from the start, and none has been seen by a step in PLAY. (DEDUCED, log entry 52.) -/
def startMotion (s : State) : State :=
  let near (c : Cue) : Bool := c.kind == .autoStop && decide (mag (c.position - s.tach.position) ≤ 8)
  let s1 := clearMarks s
  let s2 := s1.onCues fun c => { c with list := c.list.map fun q => if near q then { q with mark := .excluded } else q }
  s2.onPlanner fun p =>
    { p with missed := (s1.cues.list.filter near).map (·.id), inForce := autoStops s1.cues.list, seen := [] }

/-- The speed goal that v_play gives, in mm/s (R93; frames and goals are in mm/s, R66). (DEDUCED, log entry 24.) -/
def playGoal (s : State) : Int := mmPerS s.capstan.vPlay

/-- A stop in force is given up for a new motion (R92, R93): no end of it is handed over. (DEDUCED, log entry 40.) -/
def abandonStop (s : State) : State :=
  (s.onPlanner fun p => { p with stopInForce := none, stopCause := none }).onZones fun z => { z with pendingBlock := none }

/-- R93: the planner enters ENGAGING, or PLAY at once where a chase had the pinch CLOSED. -/
def enterEngaging (cause : ModeCause) (s : State) : State :=
  let s1 := startMotion (startCapstan (abandonStop s))
  let s2 := s1.onPlanner fun p => { p with goal := playGoal s1, matchRun := 0, matchTimer := none }
  setMode (if s2.planner.pinch = .closed then .play else .engaging) none cause s2

/-- R89: LOAD completes: A0 is captured, the capstan started, and the tape brought to rest. -/
def completeLoad (s : State) : State :=
  beginStopping .controlled .complete (startCapstan (s.onPacks fun x => { x with a0 := some (packArea x) }))

/-! ## Stop demands (R98) -/

/-- R98: a stop demand. It does nothing in IDLE, BRAKING and BRAKED, ends a load, and counts in UNLOADING only as a brake stop;
elsewhere it begins a stop, or escalates the one in force. Where it takes the mode from CHASE the CHASE (OFF) notice is posted before
the MODE notice. (DEDUCED, log entry 69.) -/
def stopDemand (sev : Severity) (cause : StopCause) (s : State) : State :=
  match s.planner.mode with
  | .idle | .braking | .braked => s
  | .loading => failLoad (modeCauseOf cause) s
  | .unloading => if sev = .brake then enterBraking cause s else s
  | _ =>
    match s.planner.stopInForce with
    | none =>
      if sev = .brake then enterBraking cause (endUnit cause s) else beginStopping sev cause (endUnit cause s)
    | some now =>
      if now.code < sev.code then
        if sev = .brake then enterBraking cause s
        else publishStopCause cause (s.onPlanner fun p => { p with stopInForce := some sev, stopCause := some cause })
      else s

/-- A unit ends its own operation: HOLD at once if v_ref is 0, otherwise a CONTROLLED stop (R132, R146, R176). -/
def restOrStop (cause : StopCause) (s : State) : State :=
  if s.planner.vRef = 0 then enterHold (modeCauseOf cause) s else stopDemand .controlled cause s

/-! ## Fault conditions (R149, R150) -/

/-- The severity of a condition's kind (Table 8-2); POWER_FAIL's is set when it is taken. -/
def FaultKind.severity : FaultKind → Severity
  | .slack | .overtension | .rollerSilent | .capstanStall | .powerFail => .fast
  | .armSensor | .pathLost | .tachSilent => .brake
  | .saturation | .linkSilence => .controlled

/-- R149: a condition taken with no fault latched becomes the primary. -/
def latchPrimary (c : Condition) (sev : Severity) (s : State) : State :=
  let rec_ : FaultRecord :=
    { primary := c, mode := s.planner.mode, sub := s.planner.sub, vMeas := mmPerS s.tach.vMeas, position := s.tach.position,
      secondaries := [], lost := false, severity := sev }
  let s1 := s.onFault fun f => { f with record := some rec_, powerFailTaken := c.kind == .powerFail }
  stopDemand sev .fault (postNotice (.fault false c true sev rec_.mode rec_.vMeas rec_.position) s1)

/-- R150: a condition taken while a fault is latched. The FAULT notice of one that raises the severity is posted before its stop is
demanded, as R149 has it for a primary. (DEDUCED, log entry 60.) -/
def takeSecondary (r : FaultRecord) (c : Condition) (sev : Severity) (s : State) : State :=
  let known := r.primary == c || r.secondaries.contains c
  let listed := !known && decide (r.secondaries.length < 3)
  let raises := decide (r.severity.code < sev.code)
  let inForce := if raises then sev else r.severity
  let s1 := s.onFault fun f =>
    { f with record := some
               { r with secondaries := if listed then r.secondaries ++ [c] else r.secondaries,
                        lost := r.lost || (!known && !listed), severity := inForce },
             powerFailTaken := f.powerFailTaken || c.kind == .powerFail }
  let s2 :=
    if listed || raises then
      postNotice (.fault true c listed inForce s1.planner.mode (mmPerS s1.tach.vMeas) s1.tach.position) s1
    else s1
  if raises then stopDemand sev .fault s2 else s2

/-- R148: the Fault Unit takes a condition with a severity. -/
def takeConditionAt (c : Condition) (sev : Severity) (s : State) : State :=
  match s.fault.record with
  | none => latchPrimary c sev s
  | some r => takeSecondary r c sev s

/-- A condition of a kind whose severity Table 8-2 fixes. -/
def takeCondition (kind : FaultKind) (reel : Option Reel) (s : State) : State :=
  takeConditionAt { kind := kind, reel := reel } kind.severity s

/-- R155: the POWER_FAIL condition, BRAKE if SUPPLY_LOW is asserted at that moment. -/
def takePowerFail (s : State) : State :=
  takeConditionAt { kind := .powerFail, reel := none } (if s.lines.supplyLow then .brake else .fast) s

/-! ## Enabling the reel drives (R42, R85, R10) -/

/-- R10: ARM_SENSOR for a reel, where the arm's status is bad. -/
def armConditionIf (bad : Bool) (r : Reel) (s : State) : State :=
  if bad then takeCondition .armSensor (some r) s else s

/-- R85, R42: the reel drives commanded ENABLED. Where they become enabled while an arm's status is bad, that arm gives
ARM_SENSOR at that moment (R10), the supply arm first. (DEDUCED, log entry 35.) -/
def enableDrives (s : State) : State :=
  let s1 := s.onPlanner fun p => { p with drivesCmd := true }
  if s.servo.enabled then s1
  else
    armConditionIf (armFailed s.sense.arms.takeup) .takeup
      (armConditionIf (armFailed s.sense.arms.supply) .supply (s1.onServo Servo.enable))

/-! ## The zone direction rule -/

/-- R108: in a moving mode other than STOPPING, the tape inside a zone that does not allow its direction of travel. The rule is applied
at changes of position and zone edits alone, so a new goal of a unit is judged at the next of them. (DESIGN CHOICE, log entry 84.) -/
def zoneDirectionRule (s : State) : State :=
  match s.planner.heading with
  | none => s
  | some d =>
    if s.planner.moving && s.planner.mode != .stopping && !(s.zones.current.dirs.allows d) then
      stopDemand .controlled .zone s
    else s

end Sys2Proof.Machine
end

