-- ==== Sys2Proof/Machine/CapstanLoop.lean ====
section
/-! DEFINITION. Machine/CapstanLoop.lean: the Capstan Controller (chapter 4): reference edges and status, phase, lock
states, the capstan step, holdover, stall, and its four requests. -/

namespace Sys2Proof.Machine

/-! ## Phase (R71) -/

/-- R is aligned to E, which makes e_φ zero; a remainder carried so far is dropped with the phase it belonged to. (DESIGN CHOICE,
log entry 37.) -/
def Capstan.aligned (c : Capstan) : Capstan := { c with r := c.e * 65536, ePhi := 0, remRef := 0, remHold := 0 }

/-- R71, reference PRESENT: the advance of R at an accepted reference edge. Not in SPINUP, and not in OFF, where R67 and R71 can be
read either way. (DEDUCED, log entry 63.) -/
def Capstan.advanceRef (c : Capstan) : Capstan :=
  if c.present ∧ (c.lock = .unlocked ∨ c.lock = .locked) then
    let n := c.m * (10000 + c.vs) * 65536 + c.remRef
    let q : Int := c.d * 10000
    { c with r := c.r + n / q, remRef := n % q }
  else c

/-- R71, HOLDOVER: the advance of R at a capstan step. -/
def Capstan.advanceHold (c : Capstan) : Capstan :=
  if c.lock = .holdover then
    let n := c.targetRate * 65536 + c.remHold
    { c with r := c.r + n / 1000000, remHold := n % 1000000 }
  else c

/-- R71: e_φ in counts. -/
def Capstan.phaseError (c : Capstan) : Int := divTrunc (c.e * 65536 - c.r) 65536

/-- R71: in UNLOCKED an |e_φ| above 512 moves R so that e_φ is exactly ±512. (DESIGN CHOICE, log entry 37.) -/
def Capstan.pulled (c : Capstan) : Capstan :=
  if c.lock = .unlocked ∧ (512 < c.ePhi ∨ c.ePhi < -512) then
    let e : Int := if 0 < c.ePhi then 512 else -512
    { c with r := (c.e - e) * 65536, ePhi := e }
  else c

/-! ## Encoder edges (R71, R74, R80) -/

/-- The count, the phase error and the runs of one encoder edge. -/
def Capstan.encoderEdge (c : Capstan) (d : Dir) : Capstan :=
  let c1 := { c with e := c.e + signedBy d 1, stepNet := c.stepNet + signedBy d 1, edgeSeen := true, quiet := 0 }
  match c.lock with
  | .off => c
  | .spinup => c1
  | .unlocked =>
    let c2 := { c1 with ePhi := c1.phaseError }.pulled
    { c2 with lockRun := if mag c2.ePhi ≤ c2.w then c2.lockRun + 1 else 0 }
  | .locked =>
    let c2 := { c1 with ePhi := c1.phaseError }
    { c2 with unlockRun := if c2.w < mag c2.ePhi then c2.unlockRun + 1 else 0 }
  | .holdover => { c1 with ePhi := c1.phaseError }

def LockChoice.posts (x : LockChoice) (t : LockChange) : Bool :=
  match x, t with
  | .both, _ => true
  | .gain, .gain => true
  | .loss, .loss => true
  | _, _ => false

/-- R77: a LOCK notice, if the choice asks for it. -/
def lockNotice (t : LockChange) (s : State) : State :=
  if s.capstan.lockChoice.posts t then postNotice (.lock s.capstan.lock t s.capstan.ePhi) s else s

/-- R74: UNLOCKED to LOCKED. -/
def lockGained (s : State) : State :=
  lockNotice .gain (s.onCapstan fun c => { c with lock := .locked, lockRun := 0, unlockRun := 0 })

/-- R74, R76: LOCKED to UNLOCKED. R is not realigned. -/
def lockLost (s : State) : State :=
  let s1 := s.onCapstan fun c => { c with lock := .unlocked, lockRun := 0, unlockRun := 0, lockLost := true }
  lockNotice .loss (monitorEvent .capstanUnlocks .capstan s1)

/-- R71, R74, R80: an encoder edge. -/
def encoderEdge (d : Dir) (s : State) : State :=
  let s1 := s.onCapstan fun c => c.encoderEdge d
  if s1.capstan.lock = .unlocked ∧ 64 ≤ s1.capstan.lockRun then lockGained s1
  else if s1.capstan.lock = .locked ∧ 8 ≤ s1.capstan.unlockRun then lockLost s1
  else s1

/-- CAPSTAN_ENCODER_EDGE: R71, R74, R80. -/
def execCapstanEncoderEdge (d : Dir) (s : State) : Host.Outcome State Fault Refusal := whileRunning (encoderEdge d) s

/-- The edge brings the lock run to 64 (R74). (DESIGN CHOICE, log entry 3.) -/
def lockFalls (d : Dir) (s : State) : Bool := s.capstan.lock == .unlocked && 64 ≤ (s.capstan.encoderEdge d).lockRun

/-- The edge brings the unlock run to 8 (R74). (DESIGN CHOICE, log entry 3.) -/
def unlockFalls (d : Dir) (s : State) : Bool := s.capstan.lock == .locked && 8 ≤ (s.capstan.encoderEdge d).unlockRun

/-- CAPSTAN_LOCK_GAINED: the encoder edge at which the lock run reaches 64 (R74, R77). -/
def execCapstanLockGained (d : Dir) (s : State) : Host.Outcome State Fault Refusal :=
  whileRunning (fun s => if lockFalls d s then encoderEdge d s else s) s

/-- CAPSTAN_LOCK_LOST: the encoder edge at which the unlock run reaches 8 (R74, R76, R77). -/
def execCapstanLockLost (d : Dir) (s : State) : Host.Outcome State Fault Refusal :=
  whileRunning (fun s => if unlockFalls d s then encoderEdge d s else s) s

/-! ## The capstan step (R69, R73, R80) -/

/-- R69: one slew step of the applied varispeed. -/
def Capstan.slew (c : Capstan) : Capstan :=
  let t := c.vsTarget
  { c with vs := if mag (t - c.vs) ≤ c.rho then t else if c.vs < t then c.vs + c.rho else c.vs - c.rho }

/-- The rate window takes the step's edges (R73). -/
def Capstan.closeStep (c : Capstan) : Capstan :=
  if c.lock = .off then c else { c with rateWindow := (c.stepNet :: c.rateWindow).take 32, stepNet := 0 }

/-- R73: f_c is within 2 % of f_t. -/
def Capstan.atSpeed (c : Capstan) : Bool :=
  (mag (c.rateWindow.foldr (· + ·) 0 * 31250 - c.targetRate) : Int) * 100 ≤ 2 * c.targetRate

/-- R73: a complete spin-up. (DEDUCED, log entry 38.) -/
def Capstan.spinUp (c : Capstan) : Capstan :=
  if c.lock = .spinup ∧ c.atSpeed = true then
    if c.present then { c with lock := .unlocked }.aligned else { c with lock := .holdover, frozenBase := some c.base }
  else c

/-- R80: the quiet count of a step. -/
def Capstan.quietStep (c : Capstan) : Capstan :=
  if c.lock = .off then c else { c with quiet := if c.edgeSeen then 0 else c.quiet + 1, edgeSeen := false }

/-- The parts of one capstan step, in the order in which the model takes them: the slew of vs (R69), the rate window, the end of
SPINUP (R73), the advance in HOLDOVER (R71) and the quiet count (R80). (DESIGN CHOICE, log entry 56.) -/
def Capstan.step (c : Capstan) : Capstan := c.slew.closeStep.spinUp.advanceHold.quietStep

/-- R80: the stall. -/
def capstanStalls (s : State) : State := stopCapstan (takeCondition .capstanStall none s)

/-- R71: the drive code that the loop sends, of which the spec gives no law. (DESIGN CHOICE, log entry 11.) -/
def driveCapstan (s : State) : State :=
  if s.capstan.lock = .off then s
  else (s.onCapstan fun c => { c with driveCode := Config.capstanDrive s.freeIndex }).takeFree

/-- R69, R71, R73, R80. -/
def capstanStep (s : State) : State :=
  let s1 := s.onCapstan Capstan.step
  if s1.capstan.lock ≠ .off ∧ 200 ≤ s1.capstan.quiet then capstanStalls s1 else driveCapstan s1

/-- CAPSTAN_STEP: R69, R71, R73, R80. -/
def execCapstanStep (s : State) : Host.Outcome State Fault Refusal := whileRunning capstanStep s

/-- The step brings the quiet count to 200 (R80). (DESIGN CHOICE, log entry 3.) -/
def stallFalls (s : State) : Bool := s.capstan.lock != .off && 200 ≤ s.capstan.step.quiet

/-- CAPSTAN_STALL: the capstan step at which the quiet count reaches 200 (R80). -/
def execCapstanStall (s : State) : Host.Outcome State Fault Refusal :=
  whileRunning (fun s => if stallFalls s then capstanStep s else s) s

/-! ## Reference edges and status (R67, R68, R75) -/

/-- A period in range (R67). -/
def periodInRange (p : Nat) : Bool := 240 ≤ p && p ≤ 1500

/-- R67: a period enters S, and while PRESENT gives f_ref. -/
def Capstan.takePeriod (c : Capstan) (p : Nat) : Capstan :=
  if periodInRange p then
    let c1 := { c with periods := (p :: c.periods).take 64 }
    if c.present then { c1 with fRef := c1.measuredRef } else c1
  else c

/-- R75: what the return of the reference does in HOLDOVER. -/
def Capstan.holdoverReturn (c : Capstan) : Capstan :=
  let fits := decide ((mag ((c.freshBase : Int) - c.base) : Int) * 100 ≤ 2 * c.freshBase)
  let c1 := { c with frozenBase := none }
  if fits then { c1 with lock := .unlocked }.aligned else c1.started

def refNotice (cause : RefCause) (s : State) : State := postNotice (.ref cause s.capstan.source s.capstan.present) s

/-- R68, R75: ABSENT to PRESENT. -/
def referenceReturns (s : State) : State :=
  let s1 := s.onCapstan fun c => { c with present := true, presentRun := 0, fRef := c.measuredRef }
  (refNotice .returned s1).onCapstan fun c => if c.lock = .holdover then c.holdoverReturn else c

/-- R67, R68, R71: a reference edge of the source in force, with the counts since the last accepted edge. (DEDUCED, log entry 39.) -/
def referenceEdge (period : Nat) (s : State) : State :=
  if period < 240 then s
  else
    let s1 := s.onCapstan fun c => (c.takePeriod period).advanceRef
    if s.capstan.present then s1
    else
      let s2 := s1.onCapstan fun c => { c with presentRun := if periodInRange period then c.presentRun + 1 else 0 }
      if 64 ≤ s2.capstan.presentRun then referenceReturns s2 else s2

/-- REF_IN_EDGE: R67, R68, R71. Under source INTERNAL the edges do not act. -/
def execRefInEdge (period : Nat) (s : State) : Host.Outcome State Fault Refusal :=
  whileRunning (fun s => if s.capstan.source = .external then referenceEdge period s else s) s

/-- INTERNAL_REFERENCE_EDGE: R67. Every 1 000 counts while INTERNAL is in force. -/
def execInternalReferenceEdge (s : State) : Host.Outcome State Fault Refusal :=
  whileRunning (fun s => if s.capstan.source = .internal then referenceEdge 1000 s else s) s

/-- The edge brings the present run to 64 (R68); an internal edge has a period of 1 000. (DESIGN CHOICE, log entry 3.) -/
def returnFalls (period : Nat) (s : State) : Bool :=
  !s.capstan.present && s.capstan.presentRun == 63 && periodInRange period &&
    (s.capstan.source == .external || period == 1000)

/-- REFERENCE_RETURNED: the reference edge at which the present run reaches 64 (R68, R75). -/
def execReferenceReturned (period : Nat) (s : State) : Host.Outcome State Fault Refusal :=
  whileRunning (fun s => if returnFalls period s then referenceEdge period s else s) s

/-- R75: entry to HOLDOVER with b frozen. -/
def Capstan.holdoverEntry (c : Capstan) (b : Nat) : Capstan :=
  { c with lock := .holdover, frozenBase := some b, lockRun := 0, unlockRun := 0 }

/-- R68, R75: PRESENT to ABSENT. REF (LOST) is posted first and REFERENCE_LOSSES is fired after it (R164), so the notice stands before a
COUNTER_OVERFLOW notice of a counter of that event. (DESIGN CHOICE, log entry 74.) -/
def referenceLost (s : State) : State :=
  let s1 := s.onCapstan fun c => { c with present := false, presentRun := 0 }
  let s2 := monitorEvent .referenceLosses .capstan (refNotice .lost s1)
  s2.onCapstan fun c => if c.lock = .unlocked ∨ c.lock = .locked then c.holdoverEntry c.base else c

/-- REFERENCE_LOST: four expected periods without an accepted edge (R68, R75). EXTERNAL only. -/
def execReferenceLost (s : State) : Host.Outcome State Fault Refusal :=
  whileRunning (fun s => if s.capstan.source = .external ∧ s.capstan.present = true then referenceLost s else s) s

/-! ## SET_REFERENCE, SET_CAPSTAN, SET_VARISPEED, SET_LOCK_NOTICE -/

/-- R78: the status restarts in OFF and SPINUP. -/
def Capstan.restart (c : Capstan) : Capstan :=
  match c.source with
  | .internal => { c with present := true, presentRun := 0, periods := List.replicate 64 1000, fRef := 48000000 }
  | .external => { c with present := false, presentRun := 0 }

/-- R78: what an accepted change does, given the controller before it. A running capstan that goes to INTERNAL keeps S and f_ref until
64 internal edges have come. (DEDUCED, log entry 62.) -/
def Capstan.afterSelect (c old : Capstan) : Capstan :=
  match c.lock with
  | .off | .spinup => if c.source = old.source then c else c.restart
  | .holdover => { c with lockRun := 0, unlockRun := 0, present := false, presentRun := 0 }
  | _ => { c.holdoverEntry old.base with present := false, presentRun := 0 }

/-- R78: source, M and D are stored, REF SELECTED is posted, and the rest follows. (DEDUCED, log entry 39.) -/
def selectReference (source : RefSource) (m d : Nat) (s : State) : State :=
  let old := s.capstan
  (refNotice .selected (s.onCapstan fun c => { c with source := source, m := m, d := d })).onCapstan fun c => c.afterSelect old

def referenceReply (s : State) : List Byte :=
  let c := s.capstan
  outCode c.source.code ++ outU16 c.m ++ outU16 c.d ++ outCode (presentCode c.present) ++ outU32 c.targetRate

/-- R78. -/
def answerSetReference (source m d : Nat) (s : State) : Answer :=
  match RefSource.ofCode source with
  | none => refuse s .badValue
  | some src =>
    if !(1 ≤ m && m ≤ 4096 && 1 ≤ d && d ≤ 4096) then refuse s .badValue
    else if s.capstan.source = .external ∧ s.capstan.lock ≠ .off ∧ src = .external then refuse s .refInUse
    else
      let s1 := if src = s.capstan.source ∧ m = s.capstan.m ∧ d = s.capstan.d then s else selectReference src m d s
      accept s1 false (referenceReply s1)

def capstanReply (s : State) : List Byte :=
  let c := s.capstan
  outU32 c.ell ++ outU8 c.w ++ outU8 c.rho ++ outCode c.lock.code ++ outU16 (mmPerS c.vPlay)

/-- R79. -/
def answerSetCapstan (apply ell w rho : Nat) (s : State) : Answer :=
  if !flagSet apply then accept s false (capstanReply s)
  else if !(5000 ≤ ell && ell ≤ 200000) then refuse s .badValue
  else if ell ≠ s.capstan.ell ∧ s.capstan.lock ≠ .off then refuse s .lockedInMotion
  else
    let s1 := s.onCapstan fun c => { c with ell := ell, w := clampNat 1 64 w, rho := clampNat 1 100 rho }
    accept s1 (s1.capstan.w != w || s1.capstan.rho != rho) (capstanReply s1)

/-- R70. -/
def answerSetVarispeed (vsHost : Int) (s : State) : Answer :=
  let s1 := s.onCapstan fun c => { c with vsHost := clampInt (-1000) 1000 vsHost }
  let c := s1.capstan
  accept s1 (c.vsHost != vsHost) (outS16 c.vsHost ++ outS16 c.trim ++ outS16 c.vsTarget ++ outS16 c.vs ++ outU16 (mmPerS c.vPlay))

/-- R77. -/
def answerSetLockNotice (choice : Nat) (s : State) : Answer :=
  match LockChoice.ofCode choice with
  | none => refuse s .badValue
  | some x => accept (s.onCapstan fun c => { c with lockChoice := x }) false (outCode x.code)

end Sys2Proof.Machine
end

