-- ==== Sys2Proof/Machine/Packs.lean ====
section
/-! DEFINITION. Machine/Packs.lean: the Pack Estimator (sections 2.4 to 2.9): windows, prediction, acceptance, the area
test, and the requests SET_REEL and SET_TAPE. -/

namespace Sys2Proof.Machine

/-! ## Windows (R31, R32) -/

/-- The tape direction of a reel edge (R31). -/
def reelEdgeDir (r : Reel) (winding : Bool) : Dir :=
  match r, winding with
  | .takeup, true => .forward
  | .takeup, false => .reverse
  | .supply, true => .reverse
  | .supply, false => .forward

/-- An edge agrees with the window direction, or sets it (R31). -/
def Pack.agrees (k : Pack) (d : Dir) : Bool :=
  match k.winDir with
  | none => true
  | some w => w == d

/-- A reversal restarts the window; the edge itself is not counted (R31). -/
def Pack.reversed (k : Pack) (d : Dir) : Pack := { k with winDir := some d, wAcc := 0, lAcc := 0 }

/-- A roller edge reaches a record (R31). -/
def Pack.rollerEdge (k : Pack) (d : Dir) : Pack :=
  if k.status = .unknown then k
  else if k.agrees d then { k with winDir := some d, lAcc := min 16777215 (k.lAcc + 1) }
  else k.reversed d

/-- A roller edge reaches both records (R18, R31). -/
def packRollerEdge (d : Dir) (s : State) : State := s.onPacks fun x => { x with pack := x.pack.map fun k => k.rollerEdge d }

/-- R32: the radius in µm that a completed window measures. -/
def measuredRadius (l w : Nat) : Nat := (l * 3200000 + 6283 * w / 2) / (6283 * w)

/-! ## Prediction (R34) -/

/-- The radius in q-units one reel edge later. -/
def ReelProfile.predicted (q : ReelProfile) (t : Nat) (winding : Bool) (rq : Nat) : Nat :=
  clampNat (q.hub * 256) (q.flange * 256) (if winding then rq + t else rq - t)

/-- J of a record recomputed from its radius (R38). -/
def Packs.inertiaOf (x : Packs) (r : Reel) (k : Pack) : Int := inertiaAt (x.profile.get r) x.tape.kj (k.rq / 256)

/-- R34: what a reel edge does to a TRACKING record before the window. -/
def Packs.predict (x : Packs) (r : Reel) (winding : Bool) (k : Pack) : Pack :=
  if k.status = .tracking then
    let k1 := { k with rq := (x.profile.get r).predicted x.tape.t winding k.rq, predCount := k.predCount + 1 }
    if k1.predCount = 256 then { k1 with predCount := 0, j := x.inertiaOf r k1 } else k1
  else k

/-! ## Acceptance (R33, R35 to R37, R40) -/

/-- R40: the area test with both radii as they stand. -/
def areaTest (s : State) : State :=
  match s.packs.a0 with
  | none => s
  | some a0 =>
    let a := packArea s.packs
    let fails := decide (2 * a0 < (mag (a - a0) : Int) * 100)
    if fails == s.packs.mismatch then s
    else
      postNotice (.pack (if fails then .mismatch else .matched) none a a0) (s.onPacks fun x => { x with mismatch := fails })

/-- An accepted r_meas of a TRACKING record or a first one in PROBE: clamped, with a notice if that changed it (R37),
stored, and followed by J. -/
def acceptRadius (r : Reel) (rMeas : Nat) (s : State) : State :=
  let q := s.packs.profile.get r
  let kept := clampNat q.hub q.flange rMeas
  let s1 := s.onPacks fun x =>
    let k := { x.pack.get r with status := .tracking, rq := kept * 256, rejectRun := 0, predCount := 0 }
    { x with pack := x.pack.set r { k with j := x.inertiaOf r k } }
  if kept = rMeas then s1 else postNotice (.pack .clamped (some r) rMeas 0) s1

/-- R89: the planner counts the probe complete; at the second one LOAD completes. -/
def probeCounted (s : State) : State :=
  if s.planner.mode = .loading ∧ s.planner.sub = some .probeCreep ∧ s.packs.pack.supply.status = .tracking ∧
      s.packs.pack.takeup.status = .tracking then
    completeLoad s
  else s

/-- R33: the first window of a PROBE record. CLAMPED is posted before the notices of a load that it completes. (DEDUCED, log entry 80.) -/
def acceptProbe (r : Reel) (rMeas : Nat) (s : State) : State := probeCounted (recomputeLimits (acceptRadius r rMeas s))

/-- R35: a window within 3 % of the prediction. -/
def acceptWindow (r : Reel) (rMeas : Nat) (s : State) : State := recomputeLimits (areaTest (acceptRadius r rMeas s))

/-- R36: the third rejection in a row is accepted anyway. Where its area test also changes MISMATCH, PACK MISMATCH or MATCHED (R40) is
posted before PACK RESYNC, in the order in which R36 names the two. (DEDUCED, log entry 80.) -/
def resyncWindow (r : Reel) (rMeas rPred : Nat) (s : State) : State :=
  let s1 := acceptWindow r rMeas s
  postNotice (.pack .resync (some r) rPred (publishedRadius s1.packs r)) s1

/-- R35: the acceptance test. -/
def windowFits (rMeas rPred : Nat) : Bool := mag ((rMeas : Int) - rPred) * 100 ≤ 3 * rPred

/-- R35, R36: a completed window of a TRACKING record is judged. -/
def judgeWindow (r : Reel) (rMeas rPred : Nat) (s : State) : State :=
  if windowFits rMeas rPred then acceptWindow r rMeas s
  else
    let s1 := monitorEvent .packRejects (.reel r) (s.onPack r fun k => { k with rejectRun := k.rejectRun + 1 })
    if (s1.packs.pack.get r).rejectRun = 3 then resyncWindow r rMeas rPred s1 else s1

/-- R32: a window has completed. It restarts with its direction kept, PACK_WINDOWS fires, and r_meas is judged; of the two the
firing is taken first. (DESIGN CHOICE, log entry 55.) -/
def completeWindow (r : Reel) (s : State) : State :=
  let k := s.packs.pack.get r
  let rMeas := measuredRadius k.lAcc k.status.windowLen
  let s1 := monitorEvent .packWindows (.reel r) (s.onPack r fun k => { k with wAcc := 0, lAcc := 0 })
  if k.status = .probe then acceptProbe r rMeas s1 else judgeWindow r rMeas (k.rq / 256) s1

/-! ## Reel edges (R24, R31) -/

/-- The reel edge in its own record's window. -/
def packReelEdge (r : Reel) (d : Dir) (s : State) : State :=
  let k := s.packs.pack.get r
  if k.status = .unknown then s
  else if k.agrees d then
    let s1 := s.onPack r fun k => { k with winDir := some d, wAcc := k.wAcc + 1 }
    if k.status.windowLen ≤ k.wAcc + 1 then completeWindow r s1 else s1
  else s.onPack r fun k => k.reversed d

/-- R24, R31, R34: an edge of a reel tachometer. -/
def reelTachEdge (r : Reel) (winding : Bool) (s : State) : State :=
  let s1 := s.onReelTach r fun x => { x with edges := x.edges + 1 }
  let s2 := s1.onPacks fun x => { x with pack := x.pack.set r (x.predict r winding (x.pack.get r)) }
  packReelEdge r (reelEdgeDir r winding) s2

/-- The edge brings the prediction count to 256 (R34). (DESIGN CHOICE, log entry 3.) -/
def predictionFills (r : Reel) (s : State) : Bool :=
  (s.packs.pack.get r).status == .tracking && (s.packs.pack.get r).predCount == 255

/-- The edge brings W_acc to W (R32). (DESIGN CHOICE, log entry 3.) -/
def windowFills (r : Reel) (winding : Bool) (s : State) : Bool :=
  let k := s.packs.pack.get r
  k.status != .unknown && k.agrees (reelEdgeDir r winding) && k.status.windowLen == k.wAcc + 1

/-- The edge completes a window whose rejection is the third in a row (R36). (DESIGN CHOICE, log entry 3.) -/
def resyncFalls (r : Reel) (winding : Bool) (s : State) : Bool :=
  let k := s.packs.predict r winding (s.packs.pack.get r)
  windowFills r winding s && k.status == .tracking && k.rejectRun == 2 &&
    !(windowFits (measuredRadius k.lAcc k.status.windowLen) (k.rq / 256))

/-- REEL_TACH_EDGE: R24, R31, R34. -/
def execReelTachEdge (r : Reel) (winding : Bool) (s : State) : Host.Outcome State Fault Refusal :=
  whileRunning (reelTachEdge r winding) s

/-- PREDICTION_COUNT_FULL: the reel edge at which the prediction count reaches 256 and J is recomputed (R34, R38). -/
def execPredictionCountFull (r : Reel) (winding : Bool) (s : State) : Host.Outcome State Fault Refusal :=
  whileRunning (fun s => if predictionFills r s then reelTachEdge r winding s else s) s

/-- PACK_WINDOW_COMPLETE: the reel edge at which W_acc reaches W (R32, R33, R35). -/
def execPackWindowComplete (r : Reel) (winding : Bool) (s : State) : Host.Outcome State Fault Refusal :=
  whileRunning (fun s => if windowFills r winding s then reelTachEdge r winding s else s) s

/-- PACK_RESYNC: the reel edge at which the third rejection in a row falls (R36). -/
def execPackResync (r : Reel) (winding : Bool) (s : State) : Host.Outcome State Fault Refusal :=
  whileRunning (fun s => if resyncFalls r winding s then reelTachEdge r winding s else s) s

/-! ## SET_REEL and SET_TAPE -/

/-- R58: a standing code beyond the code of the reel's τ_lim_eff is set to that code, with its sign. -/
def reclampReel (r : Reel) (s : State) : State :=
  let bound := codeOf (tauLimEff s r) (s.packs.profile.get r).tauFs
  s.onReelServo r fun x => { x with code := clampInt (-bound) bound x.code }

def reelReply (r : Reel) (s : State) : List Byte :=
  let q := s.packs.profile.get r
  outU8 (reelCode r) ++ outU32 q.hub ++ outU32 q.flange ++ outU16 q.jf ++ outU16 q.f ++ outU16 q.tauLim ++ outU16 q.tauFs ++
  outCode (s.packs.pack.get r).status.code ++ outU32 ((knownRadius s.packs r).getD 0 : Nat) ++ outU32 (publishedInertia s.packs r)

/-- The reply for a side that is none. (DESIGN CHOICE, log entry 15.) -/
def unnamedReelReply (x : Nat) : List Byte :=
  undefinedCode x 0 2 ++ undefinedBytes x 1 16 ++ undefinedCode x 17 3 ++ undefinedBytes x 18 8

/-- R27, steps 3 and 4: the profile stored, and what a change acts on. (DEDUCED, log entry 26.) -/
def storeReel (r : Reel) (q : ReelProfile) (s : State) : State :=
  let old := s.packs.profile.get r
  let s1 := s.onPacks fun x => { x with profile := x.profile.set r q }
  let s2 := if s.servo.enabled ∧ (q.tauLim < old.tauLim ∨ q.tauFs ≠ old.tauFs) then reclampReel r s1 else s1
  if s.planner.mode ≠ .idle ∧ ¬(q.f = old.f ∧ q.tauLim = old.tauLim ∧ q.tauFs = old.tauFs) then recomputeLimits s2 else s2

/-- R27. -/
def answerSetReel (side apply hub flange jf f tauLim tauFs : Nat) (s : State) : Answer :=
  match flagSet apply, reelOfCode side with
  | false, some r => accept s false (reelReply r s)
  | false, none => accept s false (unnamedReelReply side)
  | true, none => refuse s .badValue
  | true, some r =>
    let old := s.packs.profile.get r
    if !(20000 ≤ hub && hub ≤ 100000 && 60000 ≤ flange && flange ≤ 185000 && jf ≤ 20000 && hub + 10000 < flange) then
      refuse s .badValue
    else if s.planner.mode ≠ .idle ∧ ¬(hub = old.hub ∧ flange = old.flange ∧ jf = old.jf) then refuse s .lockedInMotion
    else
      let fs := clampNat 1000 40000 tauFs
      let q : ReelProfile :=
        { hub := hub, flange := flange, jf := jf, f := clampNat 0 2000 f, tauLim := min fs (clampNat 500 40000 tauLim),
          tauFs := fs }
      let s1 := storeReel r q s
      accept s1 (q.f != f || q.tauLim != tauLim || q.tauFs != tauFs) (reelReply r s1)

def tapeReply (s : State) : List Byte :=
  let x := s.packs.tape
  outU8 x.t ++ outU32 x.kj ++ outU16 x.tMin ++ outU16 x.tNom ++ outU16 x.tMax ++ outU16 x.tThr ++ outU16 x.tSpan

/-- R28 step 4, R49, R102: the tape profile stored, and what the change acts on. -/
def storeTape (x : TapeProfile) (s : State) : State :=
  let s1 := s.onPacks fun y => { y with tape := x }
  let s2 := s1.onServo fun v => if v.enabled ∧ x.tMax < v.tEff then { v with tEff16 := x.tMax * 16 } else v
  if x.tNom = s.packs.tape.tNom then s2 else recomputeLimits s2

/-- R28. -/
def answerSetTape (apply t kj tMin tNom tMax tThr tSpan : Nat) (s : State) : Answer :=
  if !flagSet apply then accept s false (tapeReply s)
  else if !(10 ≤ t && t ≤ 60 && 1000 ≤ kj && kj ≤ 200000 && 20 ≤ tMin && tMin ≤ tNom && tNom ≤ tMax && tMax ≤ 600) then
    refuse s .badValue
  else if s.planner.mode ≠ .idle ∧ ¬(t = s.packs.tape.t ∧ kj = s.packs.tape.kj) then refuse s .lockedInMotion
  else
    let x : TapeProfile :=
      { t := t, kj := kj, tMin := tMin, tNom := tNom, tMax := tMax, tThr := clampNat 20 tMax tThr, tSpan := clampNat 10 600 tSpan }
    let s1 := storeTape x s
    accept s1 (x.tThr != tThr || x.tSpan != tSpan) (tapeReply s1)

end Sys2Proof.Machine
end

