-- ==== Sys2Proof/Machine/Position.lean ====
section
/-! DEFINITION. Machine/Position.lean: the Position and Tach Unit (sections 2.1 to 2.3), and what every change of
position or edit brings about: the zone re-evaluation (R114), cues reached (R123), and the checks of the planner and the
survey. -/

namespace Sys2Proof.Machine

/-! ## The zone in force (R114) -/

/-- R114: a ZONE notice with the current zone and position. -/
def zoneNotice (cause : ZoneCause) (dir : Option Dir) (block : Option (Nat × Dir)) (s : State) : State :=
  postNotice (.zone cause s.zones.index s.zones.current s.tach.position dir block) s

/-- R114 after a change of position. -/
def rezonePosition (dir : Option Dir) (s : State) : State :=
  let i := zoneAt s.zones s.tach.position
  if i = s.zones.index then s
  else
    let s1 := refreshInhibit (s.onZones fun z => { z with index := i })
    zoneNotice .entered dir none (monitorEvent .zoneEntries .whole s1)

/-- R114 after an edit, given the attributes that were in force before it; then R108. The ZONE notice EDITED is posted before those of
the stop that R108 demands. (DESIGN CHOICE, log entry 76.) -/
def rezoneEdit (before : ZoneAttrs) (s : State) : State :=
  let i := zoneAt s.zones s.tach.position
  let s1 := refreshInhibit (s.onZones fun z => { z with index := i })
  let s2 :=
    if i ≠ s.zones.index then zoneNotice .edited none none (monitorEvent .zoneEntries .whole s1)
    else if s1.zones.current = before then s1
    else zoneNotice .edited none none s1
  zoneDirectionRule s2

/-! ## Cues reached (R123) -/

/-- A cue is handed over as missed: its mark becomes MISSED and its id joins the missed set (R125). -/
def markMissed (id : Nat) (s : State) : State :=
  (s.onCues fun c => { c with list := c.list.map fun q => if q.id = id then { q with mark := .missed } else q }).onPlanner fun p =>
    { p with missed := p.missed ++ [id] }

/-- R105, R126: an AUTO_STOP drop point of a WIND is reached: the goal is capped at 0. A record already filled is kept. -/
def capWind (c : Cue) (s : State) : State :=
  let stop : PendingStop := { id := c.id, position := c.position, label := c.label }
  (s.onPlanner fun p => { p with autoStopCap := true }).onCues fun q =>
    { q with pendingStop := some (q.pendingStop.getD stop) }

/-- The planner has taken the cue up: one added while the tape moves is in force from the planner's next step (R120). -/
def cueInForce (p : Planner) (c : Cue) : Bool := p.inForce.contains c.key

/-- The cue is a drop point of a WIND in the direction of travel (R104, R120). -/
def windDropPoint (s : State) (d : Dir) (c : Cue) : Bool :=
  s.planner.mode == .wind && stopCueLive s.planner c && cueInForce s.planner c && s.planner.travel == some d

/-- The cue is a play stop point that a fix carries the tape over (R106, R120, R123). -/
def playStopPassed (s : State) (d : Dir) (c : Cue) : Bool :=
  s.planner.mode == .play && d == .forward && stopCueLive s.planner c && cueInForce s.planner c

/-- R123: one reaching. -/
def reachCue (byFix : Bool) (d : Dir) (c : Cue) (s : State) : State :=
  if s.cues.lastReached = some c.id then s
  else
    let missedNow := byFix && playStopPassed s d c
    let s1 := if missedNow then markMissed c.id s else s
    let passed := Notice.cuePassed c.id c.position c.kind d s.planner.mode (missedNow || c.mark == .missed) c.label
    let s2 := (postNotice passed s1).onCues fun q => { q with lastReached := some c.id }
    if windDropPoint s d c then capWind c s2 else s2

/-- The cues reached by a change from x0 to x1, in the order the tape passes them. -/
def cuesReached (d : Dir) (x0 x1 : Int) (l : List Cue) : List Cue :=
  match d with
  | .forward => l.filter fun c => x0 < c.position && c.position ≤ x1
  | .reverse => (l.filter fun c => x1 ≤ c.position && c.position < x0).reverse

/-- The last-reached memory is kept while the position is within 8 rc of its cue. -/
def Cues.remembers (c : Cues) (x : Int) : Bool :=
  match c.lastReached with
  | none => false
  | some i => c.list.any fun q => q.id == i && decide (mag (x - q.position) ≤ 8)

/-- R123 for a change of position from x0 to the present one: its reachings are judged with the memory as it stood, and then the
memory is emptied where the tape is more than 8 rc from its cue. (DESIGN CHOICE, log entry 64.) -/
def reachCues (byFix : Bool) (d : Dir) (x0 : Int) (s : State) : State :=
  let s1 := (cuesReached d x0 s.tach.position s.cues.list).foldl (fun t c => reachCue byFix d c t) s
  s1.onCues fun c => if c.remembers s.tach.position then c else { c with lastReached := none }

/-! ## The planner's and the survey's checks at a position change -/

/-- R89: a probe creep longer than 32 000 rc fails the load. -/
def loadDistance (s : State) : State :=
  if s.planner.mode = .loading ∧ s.planner.sub = some .probeCreep ∧ 32000 < mag (s.tach.position - s.planner.refPos) then
    failLoad .loadFailed s
  else s

/-- The survey direction (R170). -/
def SurveyRequest.dir (q : SurveyRequest) : Dir := if q.start < q.finish then .forward else .reverse

/-- The position has reached to (R175). -/
def SurveyRequest.reached (q : SurveyRequest) (x : Int) : Bool :=
  match q.dir with
  | .forward => q.finish ≤ x
  | .reverse => x ≤ q.finish

/-- An ending of the survey's own (R176). -/
def surveyOwnEnd (outcome : SurveyOutcome) (reason : Option AbortReason) (by_ : EndedBy) (s : State) : State :=
  restOrStop .survey (endSurvey outcome reason by_ s)

/-- R175: a RUNNING survey whose position has reached to. -/
def surveyRange (s : State) : State :=
  match s.survey.request with
  | some q =>
    if s.survey.state = .running ∧ q.reached s.tach.position = true then surveyOwnEnd .rangeEnd none .range s else s
  | none => s

/-- R18, R114, R123, R108, R89, R175: what a change of position from x0 brings about, in the order in which the model takes it: the
Zone Table, the Cue List, the planner's zone direction rule and load distance, the survey's range. (DESIGN CHOICE, log entry 53.) -/
def positionMoved (byFix : Bool) (d : Dir) (x0 : Int) (s : State) : State :=
  surveyRange (loadDistance (zoneDirectionRule (reachCues byFix d x0 (rezonePosition (some d) s))))

/-! ## Roller edges -/

/-- R18: the count alone, modulo 2^32. -/
def countEdge (d : Dir) (s : State) : State := s.onTach fun x => { x with position := wrapS32 (x.position + signedBy d 1) }

/-- R18, R22, R31: an edge of the timing roller. -/
def rollerEdge (d : Dir) (s : State) : State :=
  let s1 := (countEdge d s).onTach fun x => { x with rollerNet := x.rollerNet + signedBy d 1, rollerEdges := x.rollerEdges + 1 }
  positionMoved false d s.tach.position (packRollerEdge d s1)

/-- ROLLER_EDGE: R18. While the part is held in a reset the edge is counted and nothing else follows it (R19). -/
def execRollerEdge (d : Dir) (s : State) : Host.Outcome State Fault Refusal :=
  .next (if s.held.isSome then countEdge d s else rollerEdge d s)

/-! ## The speed sample (R22 to R26) -/

/-- n, the sum of the net counts of the 32 newest slots. -/
def netCount (h : List (Int × Nat)) : Int := (h.take 32).foldr (fun x n => x.1 + n) 0

/-- R23. -/
def measuredSpeed (n : Int) : Int := divTrunc (n * 3125) 2

/-- Edges of the newest slots of the roller history. -/
def rollerEdgesOver (slots : Nat) (x : Tach) : Nat := (x.rollerHist.take slots).foldr (fun y n => y.2 + n) 0

def ReelTach.edgeSum (x : ReelTach) : Nat := x.edgeHist.foldr (· + ·) 0

/-- R24, R26: a reel's slot closes; its quiet run and drive run follow. -/
def ReelTach.sample (x : ReelTach) (code : Int) : ReelTach :=
  { edgeHist := (x.edges :: x.edgeHist).take 400, edges := 0,
    quietRun := if x.edges = 0 then min 2000 (x.quietRun + 1) else 0,
    driveRun := if 8192 ≤ mag code then min 2000 (x.driveRun + 1) else 0 }

/-- R22, R23, R24, R26: the histories and v_meas after a speed sample. -/
def Tach.sample (x : Tach) (codeS codeT : Int) : Tach :=
  let hist := ((x.rollerNet, x.rollerEdges) :: x.rollerHist).take 2000
  { x with rollerHist := hist, rollerNet := 0, rollerEdges := 0, vMeas := measuredSpeed (netCount hist),
           reels := { supply := x.reels.supply.sample codeS, takeup := x.reels.takeup.sample codeT } }

/-- R25. -/
def rollerSilent (s : State) : Bool :=
  s.servo.enabled && s.planner.vRef != 0 && 16 ≤ s.tach.reels.supply.edgeSum && 16 ≤ s.tach.reels.takeup.edgeSum &&
    rollerEdgesOver 400 s.tach == 0

/-- R26. -/
def tachSilent (r : Reel) (s : State) : Bool :=
  (s.tach.reels.get r).driveRun == 2000 && (s.tach.reels.get r).quietRun == 2000 && 800 ≤ rollerEdgesOver 2000 s.tach

def conditionIf (given : Bool) (kind : FaultKind) (reel : Option Reel) (s : State) : State :=
  if given then takeCondition kind reel s else s

/-- R22 to R26. The three conditions are judged on the sample and then given in the order of their rules. (DEDUCED, log entry 35.) -/
def speedSample (s : State) : State :=
  let s1 := s.onTach fun x => x.sample s.servo.reels.supply.code s.servo.reels.takeup.code
  conditionIf (tachSilent .takeup s1) .tachSilent (some .takeup)
    (conditionIf (tachSilent .supply s1) .tachSilent (some .supply) (conditionIf (rollerSilent s1) .rollerSilent none s1))

/-- SPEED_SAMPLE: R22 to R26. -/
def execSpeedSample (s : State) : Host.Outcome State Fault Refusal := whileRunning speedSample s

/-! ## PRESET_POSITION and POSITION_FIX -/

/-- R123: the cue nearest the position, the first in the list where two are equally near. (DESIGN CHOICE, log entry 40.) -/
def nearestCue (x : Int) : List Cue → Option Cue
  | [] => none
  | c :: rest =>
    match nearestCue x rest with
    | none => some c
    | some e => if mag (c.position - x) ≤ mag (e.position - x) then some c else some e

/-- R123: the last-reached memory after a preset. -/
def memoryAt (x : Int) (l : List Cue) : Option Nat :=
  match nearestCue x l with
  | some c => if mag (c.position - x) ≤ 8 then some c.id else none
  | none => none

/-- R20, R114, R123: the position is set outright. -/
def presetTo (value : Int) (s : State) : State :=
  let s1 := s.onTach fun x => { x with position := value, referenced := true }
  (rezonePosition none s1).onCues fun c => { c with lastReached := memoryAt value c.list }

/-- R20. -/
def answerPresetPosition (value : Int) (s : State) : Answer :=
  if s.planner.mode ≠ .idle ∧ s.planner.mode ≠ .hold ∧ s.planner.mode ≠ .braked then refuse s .wrongMode
  else if !positionOk value then refuse s .badValue
  else
    let s1 := presetTo value s
    accept s1 false (outS32 s1.tach.position)

/-- The modes and chase states that take a fix (R21). -/
def fixTaken (s : State) : Bool :=
  s.planner.mode == .play || (s.planner.mode == .chase && (s.chase.state == .matching || s.chase.state == .locked))

/-- R21: the position is set by a fix, a change of position under R18. -/
def fixTo (value : Int) (s : State) : State :=
  let x0 := s.tach.position
  let s1 := s.onTach fun x => { x with position := value }
  match dirTo x0 value with
  | some d => positionMoved true d x0 s1
  | none => s1

/-- R21; d is carried with every code of the planner's checks (R195). -/
def answerPositionFix (value : Int) (window : Nat) (s : State) : Answer :=
  if !fixTaken s then { state := s, code := .wrongMode, body := outS32 0 }
  else if !positionOk value then { state := s, code := .badValue, body := outS32 0 }
  else
    let w := if window = 0 then s.tach.fixWindow else clampNat 8 8000 window
    let d := value - s.tach.position
    if w < mag d then { state := s, code := .fixTooLarge, body := outS32 d }
    else accept (fixTo value (s.onTach fun x => { x with fixWindow := w })) (window != 0 && w != window) (outS32 d)

end Sys2Proof.Machine
end

