-- ==== Sys2Proof/Machine/Profile.lean ====
section
/-! DEFINITION. Machine/Profile.lean: the speed profile and the look-ahead (sections 5.8 to 5.10): drop points, v_goal_eff,
the rate of a decelerating step, one step of v_ref, and the play stop points. -/

namespace Sys2Proof.Machine

/-! ## Drop points (R104) -/

/-- The zone boundaries ahead, each with the speed that must hold beyond it. -/
def zonePoints (s : State) (d : Dir) : List DropPoint :=
  (boundariesAhead s.zones d s.tach.position).map fun b =>
    { pos := b, limit := if (attrsAt s.zones b).dirs.allows d then (attrsAt s.zones b).limit else 0, guard := s.planner.guard }

/-- The AUTO_STOP cues that are drop points: in WIND, those ahead that are not in the missed set. -/
def cuePoints (s : State) (d : Dir) : List Cue :=
  if s.planner.mode = .wind then stopCuesAhead s d s.tach.position else []

/-- The owning unit's drop points, while they lie ahead (R130). -/
def unitPointsAhead (s : State) (d : Dir) : List DropPoint :=
  s.planner.unitPoints.filter fun q => aheadOf d s.tach.position q.pos

/-- Every drop point in force. -/
def dropPoints (s : State) (d : Dir) : List DropPoint :=
  zonePoints s d ++ (cuePoints s d).map (fun c => { pos := c.position, limit := 0, guard := 0 }) ++ unitPointsAhead s d

/-- |v_ref| in mm/s, rounded toward zero (R105, R106). -/
def Planner.speed (p : Planner) : Nat := mag p.vRef / 1000

/-- R105: a point is in reach at a rate. -/
def inReach (s : State) (a : Int) (q : DropPoint) : Bool :=
  neededDistance s.planner.speed q.limit a ≤ distanceTo s.tach.position q.pos q.guard

/-- R105: the AUTO_STOP cues out of reach even at the torque-available limit are put in the missed set and handed over. (DEDUCED,
log entry 34.) -/
def dropMissedCues (s : State) : State :=
  match s.planner.travel with
  | none => s
  | some d =>
    let lost := (cuePoints s d).filter fun c => !(inReach s (s.planner.torque.dec d) { pos := c.position, limit := 0, guard := 0 })
    lost.foldl (fun t c => markMissed c.id t) s

/-- R105: the rate of a decelerating step: a_dec_eff, or the torque-available limit if a point is out of reach at it. -/
def lookAheadRate (s : State) : Int :=
  match s.planner.travel with
  | none => 0
  | some d => if (dropPoints s d).all (inReach s (aDecEff s d)) then aDecEff s d else s.planner.torque.dec d

/-- R104: |v_goal_eff| in the look-ahead modes. A reached AUTO_STOP drop point holds it at 0 (R105). -/
def cappedGoal (s : State) : Nat :=
  if s.planner.autoStopCap then 0
  else
    let base := min (min (mag s.planner.goal) (vMaxEff s)) s.zones.current.limit
    match s.planner.travel with
    | none => base
    | some d =>
      (dropPoints s d).foldr
        (fun q n => min (vAllow q.limit (aDecEff s d) (distanceTo s.tach.position q.pos q.guard)) n) base

/-- The modes in which look-ahead acts, the pinch being open (R104). -/
def Mode.looksAhead (m : Mode) : Bool := m == .wind || m == .locate || m == .survey || m == .chase

/-- R104: v_goal_eff in mm/s, with the sign of the goal. -/
def goalEff (s : State) : Int :=
  if s.planner.mode.looksAhead then (if s.planner.goal < 0 then -(cappedGoal s : Int) else cappedGoal s)
  else if s.planner.mode = .stopping then 0
  else s.planner.goal

/-- The deceleration limit for the direction of travel. -/
def travelDec (s : State) : Int :=
  match s.planner.travel with
  | none => 0
  | some d => aDecEff s d

/-- R99, R101, R105: a_lim of a decelerating step. -/
def decelRate (s : State) : Int :=
  if s.planner.mode.looksAhead then lookAheadRate s
  else if s.planner.mode = .stopping ∧ s.planner.stopInForce = some .fast then
    match s.planner.travel with
    | none => 0
    | some d => s.planner.torque.dec d
  else travelDec s

/-- a_lim of an accelerating step (R101). -/
def accelRate (s : State) : Int :=
  match s.planner.travel with
  | none => 0
  | some d => aAccEff s d

/-! ## One step of the profile (R101) -/

/-- v moves toward a target by at most a step. -/
def moveToward (v target step : Int) : Int :=
  if (mag (target - v) : Int) ≤ step then target else if v < target then v + step else v - step

/-- v_ref and a_ref after one step from v toward a target, both in µm/s, given the two rates in mm/s². -/
def profileStep (v target acc dec : Int) : Int × Int :=
  if 0 ≤ v * target ∧ mag v < mag target then
    let v1 := moveToward v target (divFloor acc 4)
    (v1, if v1 = v then 0 else if v < v1 then acc else -acc)
  else
    let v1 := moveToward v (if v * target < 0 then 0 else target) (divFloor dec 4)
    (v1, if v1 = v then 0 else if v < v1 then dec else -dec)

/-- v_ref and a_ref are published. -/
def publishRef (v a : Int) (s : State) : State := s.onPlanner fun p => { p with vRef := v, aRef := a }

/-- R101: one profile step toward v_goal_eff. -/
def runProfile (s : State) : State :=
  let s1 := if s.planner.mode.looksAhead then dropMissedCues s else s
  let r := profileStep s1.planner.vRef (goalEff s1 * 1000) (accelRate s1) (decelRate s1)
  publishRef r.1 r.2 s1

/-- v_ref is held with a_ref 0 (R92, R99). -/
def holdRef (s : State) : State := s.onPlanner fun p => { p with aRef := 0 }

/-- v_ref is v_play with a_ref 0 (R94, R95). -/
def followCapstan (s : State) : State := publishRef s.capstan.vPlay 0 s

/-- A profile mode's v_ref by pinch state: the profile runs with it OPEN, v_ref is held while it opens, and the capstan
sets the speed while it is commanded closed. -/
def refByPinch (s : State) : State :=
  match s.planner.pinch with
  | .opened => runProfile s
  | .opening => holdRef s
  | .closing | .closed => followCapstan s

/-! ## Play stop points (R106) -/

/-- d_pin, in rc. -/
def pinchDistance (s : State) : Int := if s.planner.pinch.commandedClosed then divCeil (s.planner.speed * 16) 5 else 0

/-- The distance run from |v_ref| to 0 at a rate. -/
def stopDistance (s : State) (a : Int) : Int := divCeil ((s.planner.speed : Int) ^ 2 * 40) a

/-- The points of the forward direction that forbid forward, with their guard: found by the planner in ENGAGING and PLAY,
given by the unit in CHASE from RUNUP on with the pinch commanded closed (R142). -/
def forbiddenPoints (s : State) : List Nat :=
  match s.planner.mode with
  | .engaging | .play =>
    (forbiddingAhead s.zones .forward s.tach.position).map fun b => distanceTo s.tach.position b s.planner.guard
  | .chase =>
    if s.planner.pinch.commandedClosed then
      (unitPointsAhead s .forward).map fun q => distanceTo s.tach.position q.pos q.guard
    else []
  | _ => []

/-- The AUTO_STOP cues that are play stop points: in PLAY, those ahead not in the missed set. -/
def playCues (s : State) : List Cue := if s.planner.mode = .play then stopCuesAhead s .forward s.tach.position else []

/-- R106, R125: a cue is first seen at this step, closer than the fast stopping distance. (DEDUCED, log entry 52.) -/
def seenTooLate (s : State) (c : Cue) : Bool :=
  !(s.planner.seen.contains c.key) &&
    decide ((distanceTo s.tach.position c.position 0 : Int) < pinchDistance s + stopDistance s s.planner.torque.fwdDec)

/-- R106: the cues first seen too late are handed over as missed. -/
def dropPlayCues (s : State) : State := ((playCues s).filter (seenTooLate s)).foldl (fun t c => markMissed c.id t) s

/-- R106: the play stop points of one step. (DEDUCED, log entry 33.) The rate of d_dec is that of the forward direction, in which the
points lie, also while v_ref is still negative in ENGAGING. (DEDUCED, log entry 72.) -/
def checkPlayStops (s : State) : State :=
  let s1 := dropPlayCues s
  let d := pinchDistance s1 + stopDistance s1 (aDecEff s1 .forward)
  if (forbiddenPoints s1).any fun n => (n : Int) ≤ d then stopDemand .controlled .zone s1
  else if (playCues s1).any fun c => (distanceTo s1.tach.position c.position 0 : Int) ≤ d then
    stopDemand .controlled .autoStop s1
  else s1

end Sys2Proof.Machine
end

