-- ==== Sys2Proof/Machine/Locate.lean ====
section
/-! DEFINITION. Machine/Locate.lean: the locate record (section 7.1): its start, its goals and drop points (Table 7-3), its
re-approaches, and the request LOCATE. Its unit step, which hands outcomes to the chase and the survey, is in Chase.lean. -/

namespace Sys2Proof.Machine

/-! ## Start (R129) -/

/-- The phase chosen from D at acceptance. -/
def startPhase (q : LocateParams) (d : Nat) : LocatePhase :=
  if q.approachDist < d then .travel else if 1600 < d then .approach else if q.tolerance < d then .creep else .settle

/-- The direction toward the aim; the approach direction where the tape stands on it. -/
def LocateRec.toward (l : LocateRec) (x : Int) : Dir := (dirTo x l.aim).getD l.dir

/-- R131: the creep goal. -/
def creepGoal (s : State) (l : LocateRec) : Int :=
  let x := s.tach.position
  let d := l.toward x
  signedBy d (min 50 (isqrt (divFloor (aDecEff s d * mag (l.aim - x)) 40).toNat) : Nat)

/-- Table 7-3: the goal of a phase. -/
def locateGoal (s : State) (l : LocateRec) : Int :=
  match l.phase with
  | .travel => signedBy (l.toward s.tach.position) (vMaxEff s)
  | .approach => signedBy (l.toward s.tach.position) s.params.approachSpeed
  | .creep => creepGoal s l
  | .settle => 0

/-- Table 7-3: the drop point of a phase; "less" is measured against the approach direction. -/
def locatePoints (s : State) (l : LocateRec) : List DropPoint :=
  match l.phase with
  | .travel => [{ pos := l.aim - signedBy l.dir s.params.approachDist, limit := s.params.approachSpeed, guard := 0 }]
  | .approach => [{ pos := l.aim - signedBy l.dir 1600, limit := 50, guard := 0 }]
  | .creep | .settle => []

/-- The record with its goal and drop point published to the planner (R130). -/
def publishLocate (l : LocateRec) (s : State) : State :=
  (s.onLocate fun _ => some l).onPlanner fun p => { p with goal := locateGoal s l, unitPoints := locatePoints s l }

/-- R129: a locate to an aim begins, or is retargeted to it. -/
def beginLocate (owner : LocateOwner) (target : Int) (cueId : Option Nat) (thenPlay : Bool) (preroll : Nat) (aim : Int)
    (s : State) : State :=
  let x := s.tach.position
  publishLocate
    { owner := owner, target := target, cueId := cueId, thenPlay := thenPlay, preroll := preroll, aim := aim,
      dir := if x < aim then .forward else .reverse, phase := startPhase s.params (mag (aim - x)), attempts := 0, settleRun := 0 } s

/-! ## Re-approach and endings (R132 to R134) -/

/-- R134: a boundary between the position and the aim leads into a zone that forbids the direction. -/
def locateBarred (s : State) (l : LocateRec) : Bool :=
  match dirTo s.tach.position l.aim with
  | none => false
  | some d => pathBarred s.zones d s.tach.position l.aim

/-- What one unit step of a locate comes to: the locate goes on, or it ends with an outcome. -/
inductive LocateResult where
  | goesOn (s : State)
  | ends (outcome : LocateOutcome) (s : State)
  deriving DecidableEq, Repr

/-- R132. The rule does not name the settle run, which keeps its value until the next entry to SETTLE. (DESIGN CHOICE, log entry 78.) A
barred one ends the locate BLOCKED. (DEDUCED, log entry 28.) -/
def reapproach (l : LocateRec) (s : State) : LocateResult :=
  if 3 ≤ l.attempts then .ends .missed s
  else
    let d := l.toward s.tach.position
    if forbidden s d then .ends .blocked s
    else
      .goesOn (publishLocate { l with attempts := l.attempts + 1, dir := d, phase := .creep }
        (monitorEvent .locateApproaches .whole s))

/-- D, the distance to the aim. -/
def LocateRec.distance (l : LocateRec) (x : Int) : Nat := mag (l.aim - x)

/-- R130: the phase that a step in TRAVEL or APPROACH reaches. -/
def advancePhase (q : LocateParams) (l : LocateRec) (x : Int) : LocatePhase :=
  if l.distance x ≤ 1600 then .creep
  else if l.phase = .travel ∧ l.distance x ≤ q.approachDist then .approach
  else l.phase

/-- The tape lies beyond the aim in the approach direction (R131). -/
def LocateRec.passed (l : LocateRec) (x : Int) : Bool := aheadOf l.dir l.aim x

/-- R131: one step in CREEP. -/
def creepStep (l : LocateRec) (s : State) : LocateResult :=
  let x := s.tach.position
  if l.distance x ≤ s.params.tolerance then .goesOn (publishLocate { l with phase := .settle, settleRun := 0 } s)
  else if l.passed x then reapproach l s
  else .goesOn (publishLocate l s)

/-- The settle run after a step (R133). -/
def settleNext (l : LocateRec) (s : State) : Nat := if mag s.tach.vMeas < 2000 then l.settleRun + 1 else 0

/-- R133: one step in SETTLE. -/
def settleStep (l : LocateRec) (s : State) : LocateResult :=
  let l1 := { l with settleRun := settleNext l s }
  if 40 ≤ l1.settleRun then
    if l.distance s.tach.position ≤ s.params.tolerance then .ends .done (publishLocate l1 s) else reapproach l1 s
  else .goesOn (publishLocate l1 s)

/-- R130 to R134: one unit step of an active locate. In CREEP the barred path of R134 is looked for before the checks of R131. (DESIGN
CHOICE, log entry 57.) -/
def locateStep (l : LocateRec) (s : State) : LocateResult :=
  if l.phase ≠ .settle ∧ s.planner.vRef = 0 ∧ locateBarred s l = true then .ends .blocked s
  else
    match l.phase with
    | .travel | .approach =>
      .goesOn (publishLocate { l with phase := advancePhase s.params l s.tach.position } s)
    | .creep => creepStep l s
    | .settle => settleStep l s

/-- The ending of a host's locate (R132 to R134, R136): the notice, then the mode. -/
def hostLocateEnds (outcome : LocateOutcome) (s : State) : State :=
  match outcome, s.locate with
  | .done, some l =>
    if l.thenPlay && !forbidden s .forward then enterEngaging .locate (finishLocate .done true s)
    else enterHold .locate (finishLocate .done false s)
  | o, _ => restOrStop .locate (finishLocate o false s)

/-! ## LOCATE (R128) -/

/-- The modes that take LOCATE. -/
def Mode.takesLocate (m : Mode) : Bool :=
  match m with
  | .hold | .wind | .play | .locate | .chase => true
  | _ => false

/-- A parameter field of 0 stands for the stored value; another is clamped to its range. -/
def paramField (lo hi stored field : Nat) : Nat := if field = 0 then stored else clampNat lo hi field

/-- Whether a parameter field was clamped. -/
def paramClamped (lo hi field : Nat) : Bool := field != 0 && clampNat lo hi field != field

/-- The parameters that an accepted LOCATE stores (Table 7-2). -/
def locateParams (q : LocateParams) (approachDist approachSpeed tolerance : Nat) : LocateParams :=
  { q with approachDist := paramField 1600 800000 q.approachDist approachDist,
           approachSpeed := paramField 50 2000 q.approachSpeed approachSpeed,
           tolerance := paramField 1 800 q.tolerance tolerance }

/-- The target of a request: a position, or the position of the cue with an id; none if no cue has it (R128). -/
def locateTarget (s : State) (byCue : Bool) (position : Int) (cueId : Nat) : Option Int :=
  if byCue then (s.cues.list.find? fun c => c.id == cueId).map (·.position) else some position

/-- The direction from the position to a place is forbidden by a block or by the zone in force; a place equal to the position
checks no direction. -/
def wayForbidden (s : State) (place : Int) : Bool :=
  match dirTo s.tach.position place with
  | none => false
  | some d => forbidden s d

/-- R129, R135: the locate of the host begins. A running locate is retargeted without a notice; a chase ends. (DEDUCED, log entry
29.) -/
def startLocate (q : LocateParams) (target : Int) (cueId : Option Nat) (thenPlay : Bool) (preroll : Nat) (aim : Int)
    (s : State) : State :=
  let s1 := if s.planner.mode = .chase then endChase .request s else s
  let s2 := (openPinch (startMotion s1)).onPlanner fun p => { p with matchRun := 0, matchTimer := none }
  let s3 := setMode .locate none .request (s2.onParams fun _ => q)
  beginLocate .host target cueId thenPlay preroll aim s3

def locateReply (aim : Int) (s : State) : List Byte :=
  outS32 aim ++ outOpt (s.locate.map (·.phase.code)) ++ outU32 s.params.approachDist ++ outU16 s.params.approachSpeed ++
  outU16 s.params.tolerance

/-- Target kinds (Table 11-3): POSITION, CUE. -/
def targetByCue : Nat → Option Bool
  | 0 => some false | 1 => some true | _ => none

/-- Check 3 of R128: of the position and the cue id, the one that the target kind uses. (DEDUCED, log entry 27.) -/
def locateFieldsOk (byCue : Bool) (position : Int) (cueId thenPlay : Nat) : Bool :=
  flagOk thenPlay && (if byCue then 1 ≤ cueId && cueId ≤ 250 else positionOk position)

/-- R128. -/
def answerLocate (targetKind : Nat) (position : Int) (cueId thenPlay preroll approachDist approachSpeed tolerance : Nat)
    (s : State) : Answer :=
  if !s.planner.mode.takesLocate then refuse s .wrongMode
  else if s.fault.latched then refuse s .faultLatched
  else
    match targetByCue targetKind with
    | none => refuse s .badValue
    | some byCue =>
      if !locateFieldsOk byCue position cueId thenPlay then refuse s .badValue
      else
        match locateTarget s byCue position cueId with
        | none => refuse s .notFound
        | some target =>
          let pre := clampNat 0 800000 preroll
          let aim := if flagSet thenPlay then target - pre else target
          if (attrsAt s.zones aim).dirs = .none then refuse s .targetForbidden
          else if wayForbidden s aim then refuse s .directionBlocked
          else
            let clamped := pre != preroll || paramClamped 1600 800000 approachDist || paramClamped 50 2000 approachSpeed ||
              paramClamped 1 800 tolerance
            let q := locateParams s.params approachDist approachSpeed tolerance
            let s1 := startLocate q target (if byCue then some cueId else none) (flagSet thenPlay) pre aim s
            accept s1 clamped (locateReply aim s1)

end Sys2Proof.Machine
end

