-- ==== Sys2Proof/Machine/Monitor.lean ====
section
/-! DEFINITION. Machine/Monitor.lean: the Transport Monitor (sections 9.1 and 9.2): the monitor sample and its requests. -/

namespace Sys2Proof.Machine

/-! ## The monitor sample (R162, R163) -/

/-- What a servo sample used and published. -/
structure SampleView where
  p : PerReel Int
  saturated : PerReel Bool
  vMeas : Int
  deriving DecidableEq, Repr

/-- A per-reel condition holds for at least one reel in the qualifier. -/
def Qualifier.anyReel (q : Qualifier) (f : Reel → Bool) : Bool := (q.supply && f .supply) || (q.takeup && f .takeup)

/-- R162: the condition of a sample event before inversion; none for an event of another kind. -/
def Counter.rawCondition (c : Counter) (v : SampleView) : Option Bool :=
  match c.event with
  | .servoSamples => some !c.qualifier.empty
  | .movingSamples => some (!c.qualifier.empty && 5000 ≤ mag v.vMeas)
  | .slackSamples => some (c.qualifier.anyReel fun r => v.p.get r ≤ -(c.threshold : Int))
  | .highSamples => some (c.qualifier.anyReel fun r => (c.threshold : Int) ≤ v.p.get r)
  | .saturatedSamples => some (c.qualifier.anyReel fun r => v.saturated.get r)
  | _ => none

/-- R162: the condition, negated with invert on. -/
def Counter.condition (c : Counter) (v : SampleView) : Option Bool := (c.rawCondition v).map fun b => b != c.invert

/-- R163: what one reel adds to an EXCURSION counter. -/
def excess (threshold : Nat) (p : Int) : Nat := mag p - threshold

/-- R162, R163: what a monitor sample adds to a counter. -/
def Counter.sampleGain (c : Counter) (v : SampleView) : Nat :=
  if c.enable then
    match c.event, c.condition v with
    | .excursion, _ =>
      (if c.qualifier.supply then excess c.threshold v.p.supply else 0) + (if c.qualifier.takeup then excess c.threshold v.p.takeup else 0)
    | _, some b => if b && !(c.edge && c.edgeMem) then 1 else 0
    | _, none => 0
  else 0

/-- R162: the edge memory takes the condition. -/
def Counter.remember (c : Counter) (v : SampleView) : Counter :=
  if c.enable then { c with edgeMem := (c.condition v).getD c.edgeMem } else c

/-- R162, R165: the monitor sample. While FROZEN it updates the edge memories and adds nothing. -/
def monitorSample (v : SampleView) (s : State) : State :=
  addCounts (s.monitor.counters.map fun c => c.sampleGain v)
    (s.onMonitor fun m => { m with counters := m.counters.map fun c => c.remember v })

/-! ## Requests (R166 to R168) -/

/-- The counters are held by a running survey (R171). -/
def heldBySurvey (s : State) (n : Nat) : Bool := surveyRuns s.survey && (n == 2 || n == 3)

/-- R166. -/
def answerSetCounter (n apply event qualifier edge invert threshold ovfNotice enable : Nat) (s : State) : Answer :=
  if !flagSet apply then
    accept s false (if n < 4 then counterBytes n (s.monitor.counters.get n) else unnamedCounterBytes n)
  else
    match MonEvent.ofCode event, Qualifier.ofBits qualifier with
    | some ev, some q =>
      if !(n < 4 && flagOk edge && flagOk invert && flagOk ovfNotice && flagOk enable) || (ev == .excursion && n < 2) then
        refuse s .badValue
      else if heldBySurvey s n then refuse s .resourceHeld
      else
        let old := s.monitor.counters.get n
        let c : Counter :=
          { old with event := ev, qualifier := q, edge := flagSet edge, invert := flagSet invert,
                     threshold := clampNat 0 1000 threshold, ovfNotice := flagSet ovfNotice, enable := flagSet enable,
                     holder := .host, edgeMem := false }
        accept (s.onMonitor fun m => { m with counters := m.counters.set n c }) (c.threshold != threshold) (counterBytes n c)
    | _, _ => refuse s .badValue

/-- A counter's value and overflow flag are cleared (R167). -/
def Counter.zeroed (c : Counter) : Counter := { c with value := 0, overflow := false }

/-- R167, R171: RESET_COUNTERS and a clearing read, which leave counters 2 and 3 as they are while a survey runs. -/
def zeroCounters (s : State) : State :=
  s.onMonitor fun m =>
    let keep := surveyRuns s.survey
    { m with counters := { c0 := m.counters.c0.zeroed, c1 := m.counters.c1.zeroed,
                           c2 := if keep then m.counters.c2 else m.counters.c2.zeroed,
                           c3 := if keep then m.counters.c3 else m.counters.c3.zeroed } }

def overflowBits (m : Monitor) : Nat := (m.counters.map (·.overflow)).bits

/-- The freeze state and the overflow flags (R167). -/
def freezeReply (s : State) : List Byte := outFlag s.monitor.frozen ++ outU8 (overflowBits s.monitor)

/-- R167. -/
def answerFreeze (s : State) : Answer :=
  let s1 := s.onMonitor fun m => { m with frozen := true }
  accept s1 false (freezeReply s1)

/-- R167; a refusal carries the whole payload (R195). -/
def answerUnfreeze (s : State) : Answer :=
  if (s.monitor.counters.map fun c => c.overflow && c.ovfNotice).any then { state := s, code := .busy, body := freezeReply s }
  else
    let s1 := s.onMonitor fun m => { m with frozen := false }
    accept s1 false (freezeReply s1)

/-- R167. -/
def answerResetCounters (s : State) : Answer :=
  let s1 := zeroCounters s
  accept s1 false (freezeReply s1)

/-- The enable and holder byte (R193). -/
def Counter.holderBits (c : Counter) : Nat := bitOf c.enable 1 + 2 * c.holder.code

/-- R168: the snapshot. -/
def countersReply (m : Monitor) : List Byte :=
  let c := m.counters
  outU32 c.c0.value ++ outU32 c.c1.value ++ outU32 c.c2.value ++ outU32 c.c3.value ++ outU8 (overflowBits m) ++ outFlag m.frozen ++
  outU8 c.c0.holderBits ++ outU8 c.c1.holderBits ++ outU8 c.c2.holderBits ++ outU8 c.c3.holderBits

/-- R168. -/
def answerReadCounters (clear : Nat) (s : State) : Answer :=
  if !flagOk clear then refuse s .badValue
  else accept (if flagSet clear then zeroCounters s else s) false (countersReply s.monitor)

end Sys2Proof.Machine
end

