-- ==== Sys2Proof/Machine/Survey.lean ====
section
/-! DEFINITION. Machine/Survey.lean: the Tension Survey (section 9.3): its start, its positioning, the survey sample, its
steps, and the requests SURVEY_START, SURVEY_ABORT and GET_SURVEY. -/

namespace Sys2Proof.Machine

/-! ## Starting (R170, R171) -/

/-- The fast threshold, in slack samples (R170). -/
def SurveyRequest.fastThreshold (q : SurveyRequest) : Nat := (q.thres + 1) * 2 ^ q.shift

/-- Check 3 of R170: what Table 9-3 refuses. -/
def surveyFieldsOk (start finish step : Int) (stepCount limitSource limitValue fastFlag thres shift : Nat) : Bool :=
  positionOk start && positionOk finish && start != finish && step != 0 && 1 ≤ stepCount && stepCount ≤ 32 &&
    (LimitSource.ofCode limitSource).isSome && (limitSource == 0 || limitValue != 0) && flagOk fastFlag && thres ≤ 7 && shift ≤ 15

/-- Table 9-3: the request as stored, with its clamps. -/
def surveyRequest (start finish : Int) (speed tension : Nat) (step : Int)
    (stepCount dwell limitSource limitValue slackThr excThr fastFlag thres shift : Nat) : SurveyRequest :=
  { start := start, finish := finish, speed := clampNat 100 2000 speed, tension := clampNat 20 600 tension,
    step := clampInt (-100) 100 step, stepCount := stepCount, dwell := clampNat 100 65535 dwell,
    limitSource := (LimitSource.ofCode limitSource).getD .dwell, limitValue := limitValue, slackThr := clampNat 0 1000 slackThr,
    excThr := clampNat 0 1000 excThr, fast := flagSet fastFlag, thres := thres, shift := shift }

/-- Check 4 of R170. -/
def counterBusy (c : Counter) : Bool := c.enable && c.holder == .host

/-- Check 6 of R170. -/
def surveyForbidden (s : State) (q : SurveyRequest) : Bool :=
  (attrsAt s.zones q.start).dirs == .none || pathBarred s.zones q.dir q.start q.finish ||
    !((attrsAt s.zones q.start).dirs.allows q.dir)

/-- Check 7 of R170: direction blocks. -/
def surveyBlocked (s : State) (q : SurveyRequest) : Bool :=
  s.planner.blocked q.dir ||
    match dirTo s.tach.position q.start with
    | none => false
    | some d => s.planner.blocked d

/-- R171: a counter taken by the survey; its value and overflow flag are kept. -/
def Counter.takenFor (c : Counter) (ev : MonEvent) (threshold : Nat) : Counter :=
  { c with event := ev, qualifier := { supply := true, takeup := true, capstan := false }, edge := false, invert := false,
           threshold := threshold, ovfNotice := false, enable := true, holder := .survey, edgeMem := false }

/-- R171. k, the phase count, the base values and "frozen seen" start at 0 and no, before step 0 sets them. (DESIGN CHOICE, log entry
66.) -/
def startSurvey (q : SurveyRequest) (s : State) : State :=
  let s1 := s.onSurvey fun _ => { Survey.cold with request := some q, state := .positioning }
  let s2 := s1.onMonitor fun m =>
    { m with counters := { m.counters with c2 := m.counters.c2.takenFor .slackSamples q.slackThr,
                                            c3 := m.counters.c3.takenFor .excursion q.excThr } }
  let s3 := setMode .survey none .request (startMotion s2)
  beginLocate .survey q.start none false 0 q.start s3

def requestBytes (q : SurveyRequest) : List Byte :=
  outS32 q.start ++ outS32 q.finish ++ outU16 q.speed ++ outU16 q.tension ++ outS8 q.step ++ outU8 q.stepCount ++ outU16 q.dwell ++
  outCode q.limitSource.code ++ outU32 q.limitValue ++ outU16 q.slackThr ++ outU16 q.excThr ++ outFlag q.fast ++ outU8 q.thres ++
  outU8 q.shift

/-- R170. -/
def answerSurveyStart (start finish : Int) (speed tension : Nat) (step : Int)
    (stepCount dwell limitSource limitValue slackThr excThr fastFlag thres shift : Nat) (s : State) : Answer :=
  let q := surveyRequest start finish speed tension step stepCount dwell limitSource limitValue slackThr excThr fastFlag thres shift
  if s.planner.mode ≠ .hold then refuse s .wrongMode
  else if s.fault.latched then refuse s .faultLatched
  else if !surveyFieldsOk start finish step stepCount limitSource limitValue fastFlag thres shift then refuse s .badValue
  else if counterBusy s.monitor.counters.c2 || counterBusy s.monitor.counters.c3 then refuse s .resourceHeld
  else if s.monitor.frozen then refuse s .busy
  else if surveyForbidden s q then refuse s .targetForbidden
  else if surveyBlocked s q then refuse s .directionBlocked
  else
    let clamped := q.speed != speed || q.tension != tension || q.step != step || q.dwell != dwell || q.slackThr != slackThr ||
      q.excThr != excThr
    accept (startSurvey q s) clamped (requestBytes q ++ outCode (dirCode q.dir) ++ outU32 q.fastThreshold)

/-! ## Positioning (R172) -/

/-- The outcome of the survey's locate is handed over. -/
def surveyPositioned (outcome : LocateOutcome) (s : State) : State :=
  let s1 := dropLocateOf .survey s
  match outcome, s.survey.request with
  | .done, some q =>
    (s1.onSurvey fun x => { x with state := .running, phase := some .ramp }).onPlanner fun p =>
      { p with goal := signedBy q.dir q.speed, unitPoints := [] }
  | .missed, _ => surveyOwnEnd .aborted (some .locateMissed) .abort s1
  | _, _ => surveyOwnEnd .aborted (some .locateBlocked) .abort s1

/-! ## The run (R173, R174) -/

/-- R173: step k begins. -/
def beginStep (q : SurveyRequest) (k : Nat) (s : State) : State :=
  let asked := q.tension + k * q.step
  let t := clampInt 20 s.packs.tape.tMax asked
  let e : StepEntry :=
    { tension := t, clamped := t != asked, samples := 0, slack := 0, excursion := 0, endedBy := none, frozen := false }
  s.onSurvey fun x =>
    { x with k := k, phase := some .settle, phaseCount := 0, stepTension := some t, table := x.table ++ [e] }

/-- A counter's gain over its base, modulo 2^32. -/
def gainOver (c : Counter) (base : Nat) : Nat := (c.value + (4294967296 - base % 4294967296)) % 4294967296

/-- The entry in progress, the last of the table, is replaced. -/
def setLast (e : StepEntry) (t : List StepEntry) : List StepEntry := t.dropLast ++ [e]

/-- R173: how a step ends at a sample of COUNT, if it does. -/
def stepEnding (q : SurveyRequest) (e : StepEntry) : Option EndedBy :=
  let reached :=
    match q.limitSource with
    | .dwell => false
    | .slack => q.limitValue ≤ e.slack
    | .excursion => q.limitValue ≤ e.excursion
  if reached then some .limit else if q.dwell ≤ e.samples then some .dwell else none

/-- R174: the step in progress ends. -/
def endStep (q : SurveyRequest) (e : StepEntry) (by_ : EndedBy) (s : State) : State :=
  let done := { e with endedBy := some by_ }
  let s1 := postNotice (.surveyStep s.survey.k done) (s.onSurvey fun x => { x with table := setLast done x.table })
  if q.fast && q.fastThreshold ≤ e.slack then surveyOwnEnd .fastEnd none .abort s1
  else if s.survey.k + 1 = q.stepCount then surveyOwnEnd .complete none .abort s1
  else beginStep q (s.survey.k + 1) s1

/-- The entry in progress with the counts of one more sample of COUNT. -/
def countedEntry (s : State) (e : StepEntry) : StepEntry :=
  { e with samples := s.survey.phaseCount + 1, slack := gainOver s.monitor.counters.c2 s.survey.base2,
           excursion := gainOver s.monitor.counters.c3 s.survey.base3, frozen := s.survey.frozenSeen || s.monitor.frozen }

/-- R173: a sample of COUNT. -/
def countStep (q : SurveyRequest) (s : State) : State :=
  match s.survey.table.getLast? with
  | none => s
  | some e =>
    let e1 := countedEntry s e
    let s1 := s.onSurvey fun x =>
      { x with phaseCount := x.phaseCount + 1, frozenSeen := e1.frozen, table := setLast e1 x.table }
    match stepEnding q e1 with
    | some by_ => endStep q e1 by_ s1
    | none => s1

/-- R173: a sample of SETTLE. -/
def settleSample (s : State) : State :=
  s.onSurvey fun x =>
    if 100 ≤ x.phaseCount + 1 then
      { x with phase := some .count, phaseCount := 0, base2 := s.monitor.counters.c2.value, base3 := s.monitor.counters.c3.value,
               frozenSeen := false }
    else { x with phaseCount := x.phaseCount + 1 }

/-- R173: a sample of RAMP. (DEDUCED, log entry 30.) -/
def rampSample (q : SurveyRequest) (s : State) : State := if s.planner.vRef = goalEff s * 1000 then beginStep q 0 s else s

/-- R172, R173, R175: the survey sample. (DEDUCED, log entry 31.) -/
def surveySample (s : State) : State :=
  match s.survey.state, s.survey.request with
  | .running, some q =>
    if pathBarred s.zones q.dir s.tach.position q.finish then surveyOwnEnd .aborted (some .zone) .abort s
    else
      match s.survey.phase with
      | some .ramp => rampSample q s
      | some .settle => settleSample s
      | some .count => countStep q s
      | none => s
  | _, _ => s

/-! ## SURVEY_ABORT and GET_SURVEY -/

/-- R176. -/
def answerSurveyAbort (s : State) : Answer :=
  if surveyRuns s.survey then accept (restOrStop .request (endSurvey .aborted (some .request) .abort s)) false []
  else accept s false []

/-- R178. -/
def answerGetSurvey (start count : Nat) (s : State) : Answer :=
  if 6 < count then refuse s .badValue
  else
    let x := s.survey
    let page := (x.table.drop start).take count
    accept s false (outCode x.state.code ++ outOpt (x.phase.map (·.code)) ++ outU8 x.k ++ outCode (outcomeCode x.outcome) ++
      outCode (reasonCode x.reason) ++ outU16 (x.floor.getD 0) ++ outU8 x.table.length ++ outU8 page.length ++
      page.flatMap stepBytes)

end Sys2Proof.Machine
end

