-- ==== Sys2Proof/Machine/Chase.lean ====
section
/-! DEFINITION. Machine/Chase.lean: the chase (section 7.2), and the unit step of the Locate and Chase Unit (R130), which
advances the locate of the host, the chase or the survey and hands its outcome over. -/

namespace Sys2Proof.Machine

/-! ## Master prediction and plans (R138, R139) -/

/-- R138: master_pred. Elapsed is whole ms, counted by unit steps of 250 µs. -/
def MasterRec.predicted (m : MasterRec) : Int := m.position + divTrunc (m.speed * 80 * (m.age / 4 : Nat)) 1000

/-- The master is running when the latest record's speed is above 0 (R138). -/
def MasterRec.running (m : MasterRec) : Bool := 0 < m.speed

def MasterRec.plan (m : MasterRec) : ChasePlan := if m.running then .running else .stopped

/-- R139: P_park of a plan made at this moment. -/
def parkPosition (c : Chase) (m : MasterRec) : Int :=
  let ahead : Int := if m.running then divTrunc (m.speed * 80 * c.lead) 1000 else 0
  m.predicted + c.offset + ahead

/-- An ending of the unit's own (R146). -/
def chaseOwnEnd (cause : ChaseCause) (s : State) : State := restOrStop .chase (endChase cause s)

/-- R139: a plan is made from the master record: its locate starts, or is retargeted; or the chase ends. (DEDUCED, log entry 42.) -/
def makePlan (m : MasterRec) (s : State) : State :=
  let x := parkPosition s.chase m
  let s1 := s.onChase fun c => { c with plan := some m.plan, pPark := x, halting := false }
  if !positionOk x then chaseOwnEnd .failed s1
  else if (attrsAt s.zones x).dirs = .none || wayForbidden s x then chaseOwnEnd .blocked s1
  else beginLocate .chase x none false 0 x s1

/-- R144, R139: the chase returns to SEEK and halts. The rule names no plan, and the model empties it until the next is made. (DESIGN
CHOICE, log entry 77.) The CHASE notice shows the trim of 0 that the entry sets. (DEDUCED, log entry 79.) -/
def haltChase (cause : ChaseCause) (s : State) : State :=
  let s1 := (openPinch s).onCapstan fun c => { c with trim := 0 }
  let s2 := s1.onPlanner fun p => { p with goal := 0, unitPoints := [], matchRun := 0, matchTimer := none }
  setChaseState .seek cause (s2.onChase fun c => { c with halting := true, plan := none, inRun := 0, outRun := 0 })

/-! ## Parking and run-up (R140, R141) -/

/-- remaining = P_park − (master_pred + offset). -/
def remainingTo (c : Chase) (m : MasterRec) : Int := c.pPark - (m.predicted + c.offset)

/-- d_run, with v_play in mm/s and the forward limit. -/
def runDistance (s : State) : Int := divCeil (mmPerS s.capstan.vPlay ^ 2 * 40) (aAccEff s .forward)

/-- R140: the tape is held with goal 0. -/
def park (s : State) : State := setChaseState .parked .acquire (s.onPlanner fun p => { p with goal := 0, unitPoints := [] })

/-- R140: the master has come too close. -/
def doubleLead (m : MasterRec) (s : State) : State :=
  if s.chase.doublings < 4 then
    makePlan m (setChaseState .seek .leadDoubled (s.onChase fun c => { c with lead := c.lead * 2, doublings := c.doublings + 1 }))
  else chaseOwnEnd .failed s

/-- R140: the chase acts on the outcome of its locate. -/
def chaseLocateEnds (outcome : LocateOutcome) (s : State) : State :=
  let s1 := dropLocateOf .chase s
  match outcome, s.chase.plan, s.chase.master with
  | .done, some .running, some m => if remainingTo s.chase m < runDistance s then doubleLead m s1 else park s1
  | .done, _, _ => park s1
  | .missed, _, _ => chaseOwnEnd .failed s1
  | _, _, _ => chaseOwnEnd .blocked s1

/-- R141, R142: PARKED gives way to RUNUP. (DEDUCED, log entry 24.) The plan stays RUNNING. (DESIGN CHOICE, log entry 77.) -/
def startRunup (s : State) : State :=
  setChaseState .runup .acquire
    (s.onPlanner fun p => { p with goal := playGoal s, matchRun := 0, matchTimer := none })

/-- R141: a unit step in PARKED. -/
def parkedStep (s : State) : State :=
  match s.chase.plan, s.chase.master with
  | some .running, some m => if remainingTo s.chase m ≤ runDistance s then startRunup s else s
  | _, _ => s

/-- R139: a unit step in SEEK without a locate: with the tape at rest, the pinch OPEN and a record present, a halting chase
makes its plan. -/
def seekStep (s : State) : State :=
  match s.chase.master with
  | some m =>
    if s.chase.halting ∧ s.planner.vRef = 0 ∧ s.planner.pinch = .opened then makePlan m s
    else s.onPlanner fun p => { p with goal := 0 }
  | none => s.onPlanner fun p => { p with goal := 0 }

/-- R142: the goal of RUNUP and later, and the drop points while the pinch is commanded closed. -/
def followStep (s : State) : State :=
  let points :=
    if s.planner.pinch.commandedClosed then
      (forbiddingAhead s.zones .forward s.tach.position).map fun b => ({ pos := b, limit := 0, guard := s.planner.guard } : DropPoint)
    else []
  s.onPlanner fun p => { p with goal := playGoal s, unitPoints := points }

/-! ## Silence (R145) -/

/-- R145: FREEWHEEL is entered; the trim is held. -/
def freewheel (s : State) : State :=
  setChaseState .freewheel .silence (s.onChase fun c => { c with inRun := 0, outRun := 0 })

/-- The chase states of R143: MATCH and LOCKED. -/
def ChaseState.matched (x : ChaseState) : Bool := x == .matching || x == .locked

/-- R138, R145: one unit step of the record's age and of the silence timer. (DEDUCED, log entry 36.) FREEWHEEL is entered at the step at
which the timer reaches 200 ms, so a MATCH entered later than that waits for the limit. (DEDUCED, log entry 65.) -/
def silenceStep (s : State) : State :=
  let s1 := s.onChase fun c =>
    { c with master := c.master.map fun m => { m with age := m.age + 1 }, silence := c.silence.map (· + 1) }
  match s1.chase.silence with
  | some n =>
    if 4 * s.params.freewheel ≤ n then chaseOwnEnd .masterLost s1
    else if n = 800 ∧ s.chase.state.matched = true then freewheel s1
    else s1
  | none => s1

/-! ## The unit step (R130) -/

/-- The locate's outcome goes to its owner (R136). -/
def locateEnds (owner : LocateOwner) (outcome : LocateOutcome) (s : State) : State :=
  match owner with
  | .host => hostLocateEnds outcome s
  | .chase => chaseLocateEnds outcome s
  | .survey => surveyPositioned outcome s

/-- One unit step of the active locate. -/
def stepLocate (l : LocateRec) (s : State) : State :=
  match locateStep l s with
  | .goesOn s1 => s1
  | .ends outcome s1 => locateEnds l.owner outcome s1

/-- One unit step of a chase that has no locate running. -/
def stepChase (s : State) : State :=
  match s.chase.state with
  | .off => s
  | .seek => seekStep s
  | .parked => parkedStep s
  | .runup | .matching | .locked | .freewheel => followStep s

/-- R130, R138, R139, R141, R145: the silence timer first, then the locate, or else the chase. (DESIGN CHOICE, log entry 59.) -/
def unitStep (s : State) : State :=
  let s1 := if s.chase.state = .off then s else silenceStep s
  match s1.locate with
  | some l => stepLocate l s1
  | none => stepChase s1

/-- LOCATE_UNIT_STEP: R130. -/
def execLocateUnitStep (s : State) : Host.Outcome State Fault Refusal := whileRunning unitStep s

/-- The step brings the settle run to 40 (R133). (DESIGN CHOICE, log entry 3.) -/
def settleFalls (s : State) : Bool :=
  match s.locate with
  | some l => l.phase == .settle && 40 ≤ settleNext l s
  | none => false

/-- LOCATE_SETTLED: the unit step at which the settle run reaches 40 (R133). -/
def execLocateSettled (s : State) : Host.Outcome State Fault Refusal :=
  whileRunning (fun s => if settleFalls s then unitStep s else s) s

/-- CHASE_SILENCE: the silence timer reaches 200 ms in MATCH or LOCKED (R145); with a limit of 200 ms FREEWHEEL is not
entered. (DESIGN CHOICE, log entry 6.) -/
def execChaseSilence (s : State) : Host.Outcome State Fault Refusal :=
  whileRunning (fun s =>
    if s.chase.state.matched = true ∧ 200 < s.params.freewheel then
      freewheel (s.onChase fun c => { c with silence := some (max 800 (c.silence.getD 0)) })
    else s) s

/-- CHASE_MASTER_LOST: the silence timer reaches the freewheel limit (R145). -/
def execChaseMasterLost (s : State) : Host.Outcome State Fault Refusal :=
  whileRunning (fun s => if s.chase.state = .off then s else chaseOwnEnd .masterLost s) s

/-! ## CHASE_START and CHASE_STOP (R137, R146) -/

/-- The parameters that an accepted CHASE_START stores. -/
def chaseParams (q : LocateParams) (window lead : Nat) (flag : Bool) (gain reseek freewheel : Nat) : LocateParams :=
  { q with window := paramField 1 800 q.window window, lead := paramField 500 10000 q.lead lead,
           gain := if flag then clampNat 0 1000 gain else q.gain,
           reseek := if flag then clampNat 1600 1000000 reseek else q.reseek,
           freewheel := if flag then clampNat 200 10000 freewheel else q.freewheel }

/-- R137: the chase record at acceptance. -/
def startChase (q : LocateParams) (offset : Int) (s : State) : State :=
  let s1 := ((startMotion s).onParams fun _ => q).onCapstan fun c => { c with trim := 0 }
  let s2 := s1.onChase fun c =>
    { c with offset := offset, plan := none, halting := false, lead := q.lead, doublings := 0, inRun := 0, outRun := 0, e := none,
             silence := some 0, master := none }
  let s3 := setMode .chase none .request (s2.onPlanner fun p => { p with goal := 0, matchRun := 0, matchTimer := none })
  setChaseState .seek .request s3

def chaseReply (q : LocateParams) : List Byte :=
  outU16 q.window ++ outU16 q.lead ++ outU16 q.gain ++ outU32 q.reseek ++ outU16 q.freewheel

/-- R137. -/
def answerChaseStart (offset : Int) (window lead paramFlag gain reseek freewheel : Nat) (s : State) : Answer :=
  if s.planner.mode ≠ .hold ∨ s.capstan.lock = .off then refuse s .wrongMode
  else if s.fault.latched then refuse s .faultLatched
  else if !positionOk offset || !flagOk paramFlag then refuse s .badValue
  else if forbidden s .forward then refuse s .directionBlocked
  else
    let flag := flagSet paramFlag
    let q := chaseParams s.params window lead flag gain reseek freewheel
    let clamped := paramClamped 1 800 window || paramClamped 500 10000 lead ||
      (flag && (q.gain != gain || q.reseek != reseek || q.freewheel != freewheel))
    accept (startChase q offset s) clamped (chaseReply q)

/-- R146. -/
def answerChaseStop (s : State) : Answer :=
  accept (if s.planner.mode = .chase then stopDemand .controlled .request s else s) false []

/-! ## MASTER_POSITION (R138 to R145) -/

/-- R143: the trim that an error gives. -/
def trimOf (e : Int) (gain : Nat) : Int := clampInt (-200) 200 (divTrunc (e * gain) 256)

/-- R143: a record in MATCH. -/
def matchRecord (inside : Bool) (s : State) : State :=
  let run := if inside then s.chase.inRun + 1 else 0
  if 10 ≤ run then setChaseState .locked .acquire (s.onChase fun c => { c with inRun := 0, outRun := 0 })
  else s.onChase fun c => { c with inRun := run }

/-- R143: a record in LOCKED. A loss of lock posts the CHASE notice first and then counts CHASE_LOSSES (R164), so the notice stands
before a COUNTER_OVERFLOW notice of that counter. (DESIGN CHOICE, log entry 71.) -/
def lockedRecord (inside : Bool) (s : State) : State :=
  let run := if inside then 0 else s.chase.outRun + 1
  if 4 ≤ run then
    monitorEvent .chaseLosses .whole (setChaseState .matching .loss (s.onChase fun c => { c with inRun := 0, outRun := 0 }))
  else s.onChase fun c => { c with outRun := run }

/-- R143: the trim and the runs of a record in MATCH or LOCKED. -/
def trimRecord (e : Int) (s : State) : State :=
  let s1 := s.onCapstan fun c => { c with trim := trimOf e s.params.gain }
  let inside : Bool := mag e ≤ s.params.window
  if s.chase.state = .locked then lockedRecord inside s1 else matchRecord inside s1

/-- R144, then R143: a record in RUNUP, MATCH or LOCKED. (DEDUCED, log entry 42.) A record of a stopped master that is also beyond the
reseek threshold has cause RESEEK. (DESIGN CHOICE, log entry 58.) -/
def followRecord (m : MasterRec) (e : Int) (s : State) : State :=
  if s.params.reseek < mag e then haltChase .reseek s
  else if !m.running then haltChase .masterStopped s
  else if s.chase.state = .runup then s
  else trimRecord e s

/-- The place where a stopped master asks the tape to stand differs from a place by more than the window (R139, R141). -/
def parkMoved (s : State) (m : MasterRec) (place : Int) : Bool := s.params.window < mag (m.predicted + s.chase.offset - place)

/-- R139: a record in SEEK. -/
def seekRecord (m : MasterRec) (s : State) : State :=
  if s.chase.halting then s
  else
    match s.chase.plan, s.locate with
    | none, _ => makePlan m s
    | some .running, some _ => if m.running then s else makePlan m s
    | some .stopped, some l => if m.running || parkMoved s m l.aim then makePlan m s else s
    | some _, none => s

/-- R141: the chase leaves PARKED for SEEK with a new plan. -/
def reseekFrom (cause : ChaseCause) (m : MasterRec) (s : State) : State := makePlan m (setChaseState .seek cause s)

/-- R141: a record in PARKED. -/
def parkedRecord (m : MasterRec) (s : State) : State :=
  match s.chase.plan with
  | some .running => if m.running then s else reseekFrom .masterStopped m s
  | _ =>
    if m.running then reseekFrom .masterStarted m s
    else if parkMoved s m s.chase.pPark then reseekFrom .masterMoved m s
    else s

/-- R138: the record is stored, and the chase state acts on it. -/
def takeMaster (position speed : Int) (s : State) : State :=
  let m : MasterRec := { position := position, speed := speed, age := 0 }
  let e := position + s.chase.offset - s.tach.position
  let s1 := s.onChase fun c => { c with master := some m, silence := some 0, e := some e }
  match s.chase.state with
  | .off => s1
  | .seek => seekRecord m s1
  | .parked => parkedRecord m s1
  | .runup | .matching | .locked => followRecord m e s1
  | .freewheel => followRecord m e (setChaseState .matching .resumed s1)

/-- R138. -/
def answerMasterPosition (position speed : Int) (s : State) : Answer :=
  if s.planner.mode ≠ .chase then refuse s .wrongMode
  else if !positionOk position then refuse s .badValue
  else
    let v := clampInt (-12000) 12000 speed
    let s1 := takeMaster position v s
    accept s1 (v != speed) (outCode s1.chase.state.code ++ outError s1.chase.e)

/-- The record brings the in-run to 10 (R143). (DESIGN CHOICE, log entry 3.) -/
def lockRecordFalls (position speed : Int) (s : State) : Bool :=
  s.chase.state == .matching && (answerMasterPosition position speed s).state.chase.state == .locked

/-- The record brings the out-run to 4 (R143). (DESIGN CHOICE, log entry 3.) -/
def lossRecordFalls (position speed : Int) (s : State) : Bool :=
  s.chase.state == .locked && (answerMasterPosition position speed s).state.chase.state == .matching

end Sys2Proof.Machine
end

