-- ==== Sys2Proof/Machine/Faults.lean ====
section
/-! DEFINITION. Machine/Faults.lean: the requests of the Fault Unit and its lines and timer (chapter 8). The taking of a
condition (R149, R150) is in Stops.lean. -/

namespace Sys2Proof.Machine

/-! ## GET_FAULT and CLEAR_FAULT -/

/-- R154. -/
def answerGetFault (s : State) : Answer :=
  accept s false (outFlag s.fault.latched ++ faultRecordBytes s.fault ++ outCode s.planner.mode.code ++
    outCode (stopCode s.planner.stopInForce) ++ outFlag s.lines.powerFail ++ outFlag s.lines.supplyLow)

/-- R153: the record is cleared; a POWER_FAIL that stands asserted is taken at once. -/
def clearFault (s : State) : State :=
  let s1 := s.onFault fun f => { f with record := none, powerFailTaken := false }
  if s.lines.powerFail then takePowerFail s1 else s1

/-- R153; the reply carries the record as it stood before the clear. -/
def answerClearFault (s : State) : Answer :=
  let before := outFlag s.fault.latched ++ faultRecordBytes s.fault
  if !s.fault.latched then accept s false before
  else if s.planner.stopInForce ≠ none then refuse s .busy
  else accept (clearFault s) false before

/-! ## The link timer (R157 to R159) -/

/-- R157: a valid frame starts the timer at 0 where it counts. -/
def restartLinkTimer (s : State) : State :=
  if linkTimerCounts s then s.onFault fun f => { f with linkTimer := some 0 } else s

/-- R159. -/
def answerSetLinkTimeout (timeout : Nat) (s : State) : Answer :=
  let t := if timeout = 0 then 0 else clampNat 100 10000 timeout
  let s1 := s.onFault fun f =>
    { f with linkTimeout := t, linkTimer := if t = 0 then none else if s.planner.mode.quiet then f.linkTimer else some 0 }
  accept s1 (t != timeout) (outU16 t ++ outFlag s1.fault.linkTimer.isSome)

/-- R158: the timer stops and LINK_SILENCE is taken. (DESIGN CHOICE, log entry 6.) -/
def linkExpires (s : State) : State :=
  if s.fault.linkTimer.isSome then takeCondition .linkSilence none (s.onFault fun f => { f with linkTimer := none }) else s

/-- LINK_SILENCE: R158, while the timer runs. -/
def execLinkSilence (s : State) : Host.Outcome State Fault Refusal := whileRunning linkExpires s

/-! ## POWER_FAIL (R155) -/

/-- POWER_FAIL_ASSERT: R155. While the part is held in a reset the line's level is all that changes (R160). (DEDUCED, log entries 5 and 44.) -/
def execPowerFailAssert (s : State) : Host.Outcome State Fault Refusal :=
  let s1 := s.onLines fun l => { l with powerFail := true }
  .next (if s.held.isSome then s1 else takePowerFail s1)

/-- POWER_FAIL_DEASSERT: R155. It changes nothing in the Fault Unit. -/
def execPowerFailDeassert (s : State) : Host.Outcome State Fault Refusal :=
  .next (s.onLines fun l => { l with powerFail := false })

end Sys2Proof.Machine
end

