-- ==== Sys2Proof/Machine/PlannerStep.lean ====
section
/-! DEFINITION. Machine/PlannerStep.lean: the planner step of each mode (R82, R88, R90, R94, R95, R99 to R101), and the
completions of the brakes (R83) and the pinch roller (R84). A step first takes the events that fall at it (stop points,
runs, timers), and then moves v_ref in the mode that they leave. -/

namespace Sys2Proof.Machine

/-- 3 000 ms in planner steps of 250 µs. -/
def stageLimit : Nat := 12000

/-! ## LOADING (R88) -/

/-- Both arms lie within ±200. -/
def armsSteady (s : State) : Bool := mag s.sense.arms.supply.p ≤ 200 && mag s.sense.arms.takeup.p ≤ 200

/-- The arm run after a step. -/
def armRunNext (s : State) : Nat := if armsSteady s then s.planner.armRun + 1 else 0

/-- R88, R29: the probe creep begins. -/
def startProbe (s : State) : State :=
  let s1 := s.onPlanner fun p =>
    { p with armRun := 40, stageTimer := none, refPos := s.tach.position, goal := signedBy p.creep 100 }
  setMode .loading (some .probeCreep) .complete
    (s1.onPacks fun x => { x with pack := .both { Pack.unknown with status := .probe } })

/-- R88: one step of TAKE_UP. An arm run that reaches 40 together with the timer's expiry is taken first. -/
def takeUpStep (s : State) : State :=
  let run := armRunNext s
  let time := s.planner.stageTimer.map (· + 1)
  if 40 ≤ run then startProbe s
  else if time.any (stageLimit ≤ ·) then failLoad .loadFailed s
  else s.onPlanner fun p => { p with armRun := run, stageTimer := time }

/-! ## The speed match (R94) -/

/-- |v_meas − v_play| ≤ v_play / 100. -/
def speedMatched (s : State) : Bool :=
  (mag (s.tach.vMeas - s.capstan.vPlay) : Int) ≤ divFloor s.capstan.vPlay 100

def matchRunNext (s : State) : Nat := if speedMatched s then min 40 (s.planner.matchRun + 1) else 0

/-- The match timer after a step: it starts at 0 when the run first reaches 40. (DEDUCED, log entry 36.) -/
def matchTimerNext (s : State) : Option Nat :=
  match s.planner.matchTimer with
  | some n => some (n + 1)
  | none => if matchRunNext s = 40 then some 0 else none

/-- The pinch is to be commanded closed at this step. -/
def closesNow (s : State) : Bool := matchRunNext s == 40 && s.capstan.lock.fit

/-- R94: one step of the match. A closing command that falls together with the timer's expiry is taken first. -/
def matchStep (s : State) : State :=
  if closesNow s then closePinch (s.onPlanner fun p => { p with matchRun := 40, matchTimer := none })
  else if (matchTimerNext s).any (stageLimit ≤ ·) then
    stopDemand .controlled .engageFailed (s.onPlanner fun p => { p with matchTimer := none })
  else s.onPlanner fun p => { p with matchRun := matchRunNext s, matchTimer := matchTimerNext s }

/-- Where the match runs: ENGAGING, and the run-up of a chase (R142), with the pinch OPEN. -/
def matching (s : State) : Bool :=
  (s.planner.mode == .engaging || (s.planner.mode == .chase && s.chase.state == .runup)) && s.planner.pinch == .opened

/-! ## UNLOADING and BRAKING (R90, R100) -/

/-- R90: RAMP_DOWN ends when the setpoint is settled. -/
def rampDownStep (s : State) : State :=
  if s.servo.settled then setMode .unloading (some .brakeSet) .complete (applyBrakes s) else s

def standRunNext (s : State) : Nat :=
  if s.planner.brake = .applied ∧ mag s.tach.vMeas < 5000 then s.planner.standRun + 1 else 0

/-- R100: BRAKED is entered, with no stop in force, no stop cause and the standstill run at 40. (DESIGN CHOICE, log entry 86.) -/
def enterBraked (s : State) : State :=
  let cause := (s.planner.stopCause.map modeCauseOf).getD .fault
  setMode .braked none cause (s.onPlanner fun p => { p with standRun := 40, stopInForce := none, stopCause := none })

/-- R100: one step of BRAKING. -/
def brakingStep (s : State) : State :=
  if 40 ≤ standRunNext s then enterBraked s else s.onPlanner fun p => { p with standRun := standRunNext s }

/-! ## The end of a stop (R99, R117, R126) -/

/-- R126: AUTO_STOP is posted from the pending record, which is emptied. -/
def postAutoStop (s : State) : State :=
  match s.cues.pendingStop with
  | none => s
  | some r =>
    let x := s.tach.position
    postNotice (.autoStop r.id r.position x (x - r.position) r.label) (s.onCues fun c => { c with pendingStop := none })

/-- R117: ZONE BLOCKED is posted from the pending block record, which is emptied. -/
def postZoneBlocked (s : State) : State :=
  match s.zones.pendingBlock with
  | none => s
  | some b => (zoneNotice .blocked none (some b) s).onZones fun z => { z with pendingBlock := none }

/-- R99: the tape has come to rest in STOPPING. The MODE notice of HOLD is posted before AUTO_STOP (R126) or ZONE BLOCKED (R117).
(DESIGN CHOICE, log entry 75.) -/
def endStop (s : State) : State :=
  let s1 := enterHold ((s.planner.stopCause.map modeCauseOf).getD .request) s
  match s.planner.stopCause with
  | some .autoStop => postAutoStop s1
  | some .zone => postZoneBlocked s1
  | _ => s1

/-! ## The step (R82, R101) -/

/-- What falls at a step before v_ref moves. -/
def plannerEvents (s : State) : State :=
  match s.planner.mode with
  | .loading => if s.planner.sub = some .takeUp then takeUpStep s else s
  | .engaging | .play | .chase =>
    let s1 := checkPlayStops s
    if matching s1 then matchStep s1 else s1
  | .unloading => if s.planner.sub = some .rampDown then rampDownStep s else s
  | .braking => brakingStep s
  | _ => s

/-- R105, R126: a WIND capped by a reached AUTO_STOP cue ends in HOLD at the step at which v_ref reaches 0. MODE is posted before
AUTO_STOP. (DESIGN CHOICE, log entry 75.) -/
def windEnd (s : State) : State :=
  if s.planner.mode = .wind ∧ s.planner.autoStopCap = true ∧ s.planner.vRef = 0 then postAutoStop (enterHold .autoStop s) else s

/-- v_ref of a step by mode (Table 5-2). The look-ahead of R104 and the judging of reach of R105 and R125 run with the pinch OPEN in all
four of their modes, so a step in WIND whose pinch is still OPENING judges no cue. (DEDUCED, log entry 70.) The goal follows v_play in
ENGAGING (R93) and stays as it is in PLAY. (DESIGN CHOICE, log entry 83.) -/
def moveRef (s : State) : State :=
  match s.planner.mode with
  | .idle | .hold | .unloading | .braking | .braked => publishRef 0 0 s
  | .loading => if s.planner.sub = some .probeCreep then runProfile s else publishRef 0 0 s
  | .play => followCapstan s
  | .engaging => refByPinch (s.onPlanner fun p => { p with goal := playGoal s })
  | .wind => if s.planner.pinch = .opened then windEnd (runProfile s) else refByPinch s
  | .locate | .survey | .chase => refByPinch s
  | .stopping =>
    if s.planner.pinch = .opened then
      let s1 := runProfile s
      if s1.planner.vRef = 0 then endStop s1 else s1
    else holdRef s

/-- R120, R106: a step in WIND, ENGAGING or PLAY takes up the AUTO_STOP cues of the list, and in PLAY has seen those ahead. (DEDUCED,
log entry 52.) -/
def noteCues (s : State) : State :=
  if s.planner.mode = .wind ∨ s.planner.mode = .engaging ∨ s.planner.mode = .play then
    s.onPlanner fun p => { p with inForce := autoStops s.cues.list, seen := (playCues s).map Cue.key }
  else s

/-- R82, R101. -/
def plannerStep (s : State) : State := noteCues (moveRef (plannerEvents s))

/-- PLANNER_STEP: R82, R101 and the rules of the mode. -/
def execPlannerStep (s : State) : Host.Outcome State Fault Refusal := whileRunning plannerStep s

/-- The step brings the arm run to 40 in TAKE_UP (R88). (DESIGN CHOICE, log entry 3.) -/
def takeUpFalls (s : State) : Bool :=
  s.planner.mode == .loading && s.planner.sub == some .takeUp && 40 ≤ armRunNext s

/-- LOAD_TAKE_UP_DONE: the planner step at which the arm run reaches 40 (R88). -/
def execLoadTakeUpDone (s : State) : Host.Outcome State Fault Refusal :=
  whileRunning (fun s => if takeUpFalls s then plannerStep s else s) s

/-- LOAD_TIMEOUT: the stage timer of TAKE_UP reaches 3 000 ms and the load fails (R88, R89). (DESIGN CHOICE, log entry 6.) -/
def execLoadTimeout (s : State) : Host.Outcome State Fault Refusal :=
  whileRunning (fun s => if s.planner.mode = .loading ∧ s.planner.sub = some .takeUp then failLoad .loadFailed s else s) s

/-- The step is the first at which the match run reaches 40 (R94). (DESIGN CHOICE, log entry 3.) -/
def matchFalls (s : State) : Bool := matching s && s.planner.matchTimer == none && matchRunNext s == 40

/-- ENGAGE_MATCH: the planner step at which the match run first reaches 40 (R94). -/
def execEngageMatch (s : State) : Host.Outcome State Fault Refusal :=
  whileRunning (fun s => if matchFalls s then plannerStep s else s) s

/-- PINCH_CLOSE_COMMAND: the planner step at which the pinch is commanded closed (R94). (DESIGN CHOICE, log entry 3.) -/
def execPinchCloseCommand (s : State) : Host.Outcome State Fault Refusal :=
  whileRunning (fun s => if matching s && closesNow s then plannerStep s else s) s

/-- ENGAGE_TIMEOUT: the match timer reaches 3 000 ms before the pinch is commanded closed (R94, R142). (DESIGN CHOICE, log entry 6.) -/
def execEngageTimeout (s : State) : Host.Outcome State Fault Refusal :=
  whileRunning (fun s =>
    if matching s && s.planner.matchTimer.isSome then
      stopDemand .controlled .engageFailed (s.onPlanner fun p => { p with matchTimer := none })
    else s) s

/-- The step brings the standstill run to 40 (R100). (DESIGN CHOICE, log entry 3.) -/
def standstillFalls (s : State) : Bool := s.planner.mode == .braking && 40 ≤ standRunNext s

/-- BRAKING_STANDSTILL: the planner step at which the standstill run reaches 40 (R100). -/
def execBrakingStandstill (s : State) : Host.Outcome State Fault Refusal :=
  whileRunning (fun s => if standstillFalls s then plannerStep s else s) s

/-! ## Brake and pinch completions -/

/-- R87: RELEASE ends: TAKE_UP begins and the drives are commanded ENABLED. MODE is posted before what the enabling brings about.
(DEDUCED, log entry 35.) -/
def startTakeUp (s : State) : State :=
  let s1 := s.onPlanner fun p => { p with armRun := 0, stageTimer := some 0 }
  enableDrives (setMode .loading (some .takeUp) .complete s1)

/-- R83: the transition in progress ends. -/
def brakeComplete (s : State) : State :=
  match s.planner.brake with
  | .releasing =>
    let s1 := s.onPlanner fun p => { p with brake := .released }
    if s.planner.mode = .loading ∧ s.planner.sub = some .release then startTakeUp s1 else s1
  | .applying =>
    let s1 := s.onPlanner fun p => { p with brake := .applied }
    if s.planner.mode = .unloading ∧ s.planner.sub = some .brakeSet then enterIdle .complete s1 else s1
  | _ => s

/-- BRAKE_COMPLETE: 30 ms after a brake command (R83, R87, R90). (DESIGN CHOICE, log entry 6.) -/
def execBrakeComplete (s : State) : Host.Outcome State Fault Refusal := whileRunning brakeComplete s

/-- R142: the pinch closes in RUNUP. The rule names no plan, and the model keeps it. (DESIGN CHOICE, log entry 77.) The CHASE notice
shows the lead and the doublings to which the rule returns them. (DEDUCED, log entry 79.) -/
def enterMatch (s : State) : State :=
  setChaseState .matching .acquire
    (s.onChase fun c => { c with inRun := 0, outRun := 0, lead := s.params.lead, doublings := 0 })

/-- R84: the transition in progress ends. -/
def pinchComplete (s : State) : State :=
  match s.planner.pinch with
  | .closing =>
    let s1 := s.onPlanner fun p => { p with pinch := .closed }
    if s.planner.mode = .engaging then setMode .play none .complete s1
    else if s.planner.mode = .chase ∧ s.chase.state = .runup then enterMatch s1
    else s1
  | .opening => s.onPlanner fun p => { p with pinch := .opened }
  | _ => s

/-- PINCH_COMPLETE: 40 ms after a pinch command (R84, R94, R142). -/
def execPinchComplete (s : State) : Host.Outcome State Fault Refusal := whileRunning pinchComplete s

end Sys2Proof.Machine
end

