-- ==== Sys2Proof/Machine/Motion.lean ====
section
/-! DEFINITION. Machine/Motion.lean: the requests to the Motion Planner: LOAD, UNLOAD, WIND, PLAY, STOP and SET_LIMITS
(sections 5.2 to 5.8). -/

namespace Sys2Proof.Machine

/-! ## LOAD and UNLOAD -/

/-- R87: forward, unless a block or the current zone forbids it. -/
def creepDir (s : State) : Dir := if forbidden s .forward then .reverse else .forward

/-- R13: PS and PT are both PRESENT. -/
def threaded (s : State) : Bool := s.sense.ps.state == .present && s.sense.pt.state == .present

/-- R87: the mode becomes LOADING in RELEASE. -/
def startLoad (s : State) : State :=
  let s1 := s.onPlanner fun p => { p with creep := creepDir s, stageTimer := none, armRun := 0 }
  setMode .loading (some .release) .request (releaseBrakes s1)

/-- R86, R87. -/
def answerLoad (s : State) : Answer :=
  if s.planner.mode ≠ .idle then refuse s .wrongMode
  else if s.fault.latched then refuse s .faultLatched
  else if !configured s.sense then refuse s .notConfigured
  else if !threaded s then refuse s .notLoaded
  else if forbidden s (creepDir s) then refuse s .directionBlocked
  else accept (startLoad s) false []

/-- R90: UNLOADING begins from HOLD. -/
def startUnload (s : State) : State := setMode .unloading (some .rampDown) .request (stopCapstan s)

/-- R86, R90. -/
def answerUnload (s : State) : Answer :=
  match s.planner.mode with
  | .hold => accept (startUnload s) false []
  | .braked => accept (enterIdle .request s) false []
  | _ => refuse s .wrongMode

/-! ## WIND and PLAY -/

/-- The modes in which Table 5-3 takes WIND. -/
def Mode.takesWind (m : Mode) : Bool :=
  match m with
  | .hold | .wind | .locate | .engaging | .play | .chase | .stopping => true
  | _ => false

/-- The modes in which Table 5-3 takes PLAY; ENGAGING and PLAY answer it with no change. -/
def Mode.takesPlay (m : Mode) : Bool :=
  match m with
  | .hold | .wind | .locate | .chase | .stopping => true
  | _ => false

/-- Check 2 of R86: a fault is latched, or the mode is STOPPING with stop cause FAULT. -/
def faultHolds (s : State) : Bool :=
  s.fault.latched || (s.planner.mode == .stopping && s.planner.stopCause == some .fault)

/-- R92: on acceptance the mode becomes WIND. -/
def startWind (goal : Int) (s : State) : State :=
  let s1 := startMotion (abandonStop (endUnit .request s))
  let s2 := (openPinch s1).onPlanner fun p => { p with goal := goal, matchRun := 0, matchTimer := none }
  setMode .wind none .request s2

/-- The motion of a signed goal runs in a forbidden direction (R86); a goal of 0 checks none. -/
def goalForbidden (s : State) (goal : Int) : Bool :=
  match dirOf goal with
  | none => false
  | some d => forbidden s d

/-- R86, R92. (DEDUCED, log entry 45.) -/
def answerWind (speed : Int) (s : State) : Answer :=
  if !s.planner.mode.takesWind then refuse s .wrongMode
  else if faultHolds s then refuse s .faultLatched
  else
    let goal := clampInt (-(vMaxEff s : Int)) (vMaxEff s) speed
    if goalForbidden s goal then refuse s .directionBlocked
    else accept (startWind goal s) (goal != speed) (outS16 goal)

/-- R93: on acceptance the mode becomes ENGAGING, or PLAY where a chase had the pinch CLOSED. -/
def startPlay (s : State) : State := enterEngaging .request (endUnit .request s)

/-- R86, R93. (DEDUCED, log entry 45.) -/
def answerPlay (s : State) : Answer :=
  if s.planner.mode = .engaging ∨ s.planner.mode = .play then accept s false []
  else if !s.planner.mode.takesPlay then refuse s .wrongMode
  else if faultHolds s then refuse s .faultLatched
  else if forbidden s .forward then refuse s .directionBlocked
  else accept (startPlay s) false []

/-! ## STOP -/

/-- The modes in which STOP changes nothing (R97). -/
def Mode.ignoresStop (m : Mode) : Bool :=
  match m with
  | .idle | .hold | .unloading | .braking | .braked => true
  | _ => false

/-- R97. -/
def answerStop (kind : Nat) (s : State) : Answer :=
  match stopKindOf kind with
  | none => refuse s .badValue
  | some sev => accept (if s.planner.mode.ignoresStop then s else stopDemand sev .request s) false []

/-! ## SET_LIMITS -/

def limitsReply (s : State) : List Byte :=
  let p := s.planner
  outU16 p.vMax ++ outU16 p.aAcc ++ outU16 p.aDec ++ outU32 p.guard ++ outU16 (vMaxEff s) ++ outU16 (aAccEff s .forward) ++
  outU16 (aDecEff s .forward) ++ outU16 (aAccEff s .reverse) ++ outU16 (aDecEff s .reverse) ++ outU16 p.torque.fwdAcc ++
  outU16 p.torque.fwdDec ++ outU16 p.torque.revAcc ++ outU16 p.torque.revDec

/-- R102, Table 5-4. -/
def answerSetLimits (apply vMax aAcc aDec guard : Nat) (s : State) : Answer :=
  if !flagSet apply then accept s false (limitsReply s)
  else
    let s1 := recomputeLimits (s.onPlanner fun p =>
      { p with vMax := clampNat 100 12000 vMax, aAcc := clampNat 100 6000 aAcc, aDec := clampNat 100 6000 aDec,
               guard := clampNat 0 80000 guard })
    let p := s1.planner
    accept s1 (p.vMax != vMax || p.aAcc != aAcc || p.aDec != aDec || p.guard != guard) (limitsReply s1)

end Sys2Proof.Machine
end

