-- ==== Sys2Proof/Machine/Sensing.lean ====
section
/-! DEFINITION. Machine/Sensing.lean: the Sense Scanner (chapter 1): measurements, arm position, presence and its debounce,
what presence changes hand on, and the requests SET_SENSE and SET_ARM_CAL. -/

namespace Sys2Proof.Machine

/-! ## Arm channels -/

/-- R9: the arm position of a count. -/
def armPosition (cal : Nat × Nat) (c : Nat) : Int :=
  clampInt (-1000) 1000 (divTrunc (((c : Int) - cal.1) * 1000) ((cal.2 : Int) - cal.1))

/-- R2, R3, R9: a completed measurement of an arm channel. -/
def ArmChannel.complete (a : ArmChannel) (c : Nat) : ArmChannel :=
  if a.cMin ≤ c ∧ c ≤ a.cMax then
    { a with last := c, outcome := .ok,
             p := match a.cal with
               | some q => armPosition q c
               | none => a.p }
  else { a with last := c, outcome := .outOfRange }

/-- R10: the arm's new status is handed on; a bad one while the drives are enabled gives ARM_SENSOR. -/
def armEnded (r : Reel) (s : State) : State :=
  armConditionIf (s.servo.enabled && armFailed (s.sense.arms.get r)) r s

def armMeasured (r : Reel) (c : Nat) (s : State) : State :=
  if (s.sense.arms.get r).range = .off then s else armEnded r (s.onArm r fun a => a.complete c)

/-- R2: 32 sensor cycles have not ended within 1 ms; the last count is kept. -/
def armStalled (r : Reel) (s : State) : State :=
  if (s.sense.arms.get r).range = .off then s else armEnded r (s.onArm r fun a => { a with outcome := .stalled })

/-! ## Presence channels -/

/-- R11: what a count reads as; none is the band. -/
def PresenceChannel.reading (q : PresenceChannel) (c : Nat) : Option Presence :=
  if q.tOn ≤ c then some .present else if c ≤ q.tOff then some .absent else none

/-- R12, Table 1-4: a reading acts on state, candidate and run. -/
def PresenceChannel.debounce (q : PresenceChannel) (reading : Option Presence) : PresenceChannel :=
  match reading with
  | none => { q with candidate := none, run := 0 }
  | some x =>
    if q.state = x then { q with candidate := none, run := 0 }
    else if q.candidate = some x then
      if 3 ≤ q.run then { q with state := x, candidate := none, run := 0 } else { q with run := q.run + 1 }
    else { q with candidate := some x, run := 1 }

/-- R2, R3, R11: a completed measurement of a presence channel. -/
def PresenceChannel.complete (q : PresenceChannel) (c : Nat) : PresenceChannel :=
  if q.cMin ≤ c ∧ c ≤ q.cMax then { q with last := c, outcome := .ok }.debounce (q.reading c)
  else { q with last := c, outcome := .outOfRange }

/-- The next channel in the cyclic order PS, PT, PH. -/
def PresenceId.next : PresenceId → PresenceId
  | .ps => .pt
  | .pt => .ph
  | .ph => .ps

def Sense.measured (x : Sense) (i : PresenceId) : Bool := (x.presence i).range != .off

/-- R6: the first channel in the order, beginning with i, that is not in range OFF. -/
def Sense.turnFrom (x : Sense) (i : PresenceId) : Option PresenceId :=
  if x.measured i then some i else if x.measured i.next then some i.next
  else if x.measured i.next.next then some i.next.next else none

/-- R6: when a measurement ends, the shared counter passes to the next channel that is not in OFF. -/
def Sense.passTurn (x : Sense) (i : PresenceId) : Sense := { x with turn := x.turnFrom i.next }

/-- R107: a tape-end event reaches the planner. The direction of motion is the sign of v_ref, or of v_meas outside
±5 000 µm/s when v_ref is 0. -/
def tapeEnd (s : State) : State :=
  if s.planner.moving then
    let v := s.tach.vMeas
    let d := if s.planner.vRef ≠ 0 then dirOf s.planner.vRef else if 5000 < v ∨ v < -5000 then dirOf v else none
    let s1 := s.onPlanner fun p =>
      { p with fwdBlocked := p.fwdBlocked || d == some .forward, revBlocked := p.revBlocked || d == some .reverse }
    stopDemand .fast .tapeEnd (postNotice (.tapeEnd s.tach.position s.planner.mode d) s1)
  else s

/-- R107: PH becoming PRESENT clears both direction blocks, in every mode. -/
def clearBlocks (s : State) : State := s.onPlanner fun p => { p with fwdBlocked := false, revBlocked := false }

/-- R13: a channel not suppressed has become ABSENT: PATH_LOST for PS or PT when loaded, the tape-end event for PH. -/
def handAbsent (i : PresenceId) (s : State) : State :=
  match i with
  | .ps => if s.planner.mode.loaded then takeCondition .pathLost (some .supply) s else s
  | .pt => if s.planner.mode.loaded then takeCondition .pathLost (some .takeup) s else s
  | .ph => tapeEnd s

/-- R13, R14: a change of debounced state is handed on. -/
def presenceChanged (i : PresenceId) (old : Presence) (s : State) : State :=
  let q := s.sense.presence i
  if q.state = old then s
  else if q.state = .absent then (if q.suppress then s else handAbsent i s)
  else if q.state = .present ∧ i = .ph then clearBlocks s
  else s

/-- R2, R6, R11: the measurement on the shared counter completes with a count. -/
def presenceMeasured (c : Nat) (s : State) : State :=
  match s.sense.turn with
  | none => s
  | some i =>
    let old := (s.sense.presence i).state
    presenceChanged i old ((s.onPresence i fun q => q.complete c).onSense fun x => x.passTurn i)

/-- R2: the measurement on the shared counter stalls; it gives no reading (R11). -/
def presenceStalled (s : State) : State :=
  match s.sense.turn with
  | none => s
  | some i => (s.onPresence i fun q => { q with outcome := .stalled }).onSense fun x => x.passTurn i

/-! ## SET_SENSE and SET_ARM_CAL -/

/-- A window or threshold count of 1 to 48 000 (Table 1-2). -/
def countValue (n : Nat) : Bool := 1 ≤ n && n ≤ 48000

/-- R1: an arm channel takes a range and a window. -/
def ArmChannel.program (a : ArmChannel) (range : SenseRange) (cMin cMax : Nat) : ArmChannel :=
  { a with range := range, cMin := cMin, cMax := cMax,
           outcome := if range = a.range then a.outcome else if range = .off then .unused
                      else if a.range = .off then .none else a.outcome }

/-- R1, R11, R14: a presence channel takes its fields. A range change discards the state, a threshold change the run. Candidate and
run of a channel set to OFF, or leaving it, become none and 0. (DESIGN CHOICE, log entry 54.) -/
def PresenceChannel.program (q : PresenceChannel) (range : SenseRange) (cMin cMax tOn tOff : Nat) (suppress : Bool) :
    PresenceChannel :=
  let q1 := { q with range := range, cMin := cMin, cMax := cMax, tOn := tOn, tOff := tOff, suppress := suppress }
  if range = q.range then
    if tOn = q.tOn ∧ tOff = q.tOff then q1 else { q1 with candidate := none, run := 0 }
  else if range = .off then { q1 with outcome := .unused, state := .unused, candidate := none, run := 0 }
  else if q.range = .off then { q1 with outcome := .none, state := .unknown, candidate := none, run := 0 }
  else { q1 with state := .unknown, candidate := none, run := 0 }

/-- R1, R6: the shared counter after a range change of channel i. -/
def Sense.turnAfterChange (x : Sense) (i : PresenceId) : Option PresenceId :=
  match x.turn with
  | none => if x.measured i then some i else none
  | some j => if j = i then x.turnFrom i else some j

/-- R15 for an arm channel: the presence fields are ignored. -/
def programArm (r : Reel) (selector : Nat) (range : SenseRange) (cMin cMax : Nat) (s : State) : Answer :=
  let a := s.sense.arms.get r
  if s.planner.mode ≠ .idle ∧ ¬(range = a.range ∧ cMin = a.cMin ∧ cMax = a.cMax) then refuse s .lockedInMotion
  else
    let s1 := s.onArm r fun x => x.program range cMin cMax
    accept s1 false (channelRecord s1 selector)

/-- R15 and R14 for a presence channel. -/
def programPresence (i : PresenceId) (selector : Nat) (range : SenseRange) (cMin cMax tOn tOff : Nat) (suppress : Bool)
    (s : State) : Answer :=
  let q := s.sense.presence i
  if !(countValue tOn && countValue tOff) || tOn ≤ tOff then refuse s .badValue
  else if s.planner.mode ≠ .idle ∧ range ≠ q.range then refuse s .lockedInMotion
  else
    let s1 := s.onPresence i fun x => x.program range cMin cMax tOn tOff suppress
    let s2 := if range = q.range then s1 else s1.onSense fun x => { x with turn := x.turnAfterChange i }
    let s3 := if q.suppress && !suppress && (s2.sense.presence i).state == .absent then handAbsent i s2 else s2
    accept s3 false (channelRecord s3 selector)

/-- R15. -/
def answerSetSense (channel apply range cMin cMax tOn tOff suppress : Nat) (s : State) : Answer :=
  if !flagSet apply then accept s false (channelRecord s channel)
  else
    match Channel.ofCode channel, SenseRange.ofCode range with
    | some ch, some rg =>
      if !(countValue cMin && countValue cMax) || cMax ≤ cMin then refuse s .badValue
      else
        match ch with
        | .arm r => programArm r channel rg cMin cMax s
        | .presence i => programPresence i channel rg cMin cMax tOn tOff (flagSet suppress) s
    | _, _ => refuse s .badValue

/-- R7; the reply carries the channel record with every code (R195). -/
def answerSetArmCal (channel cCentre cFull : Nat) (s : State) : Answer :=
  match Channel.ofCode channel with
  | some (.arm r) =>
    if cFull = cCentre ∨ !(countValue cCentre && countValue cFull) then
      { state := s, code := .badValue, body := channelRecord s channel }
    else if s.planner.mode ≠ .idle then { state := s, code := .lockedInMotion, body := channelRecord s channel }
    else
      let s1 := s.onArm r fun a => { a with cal := some (cCentre, cFull) }
      accept s1 false (channelRecord s1 channel)
  | _ => { state := s, code := .badValue, body := channelRecord s channel }

/-! ## Commands -/

/-- ARM_MEASUREMENT_COMPLETE: R2, R3, R5, R9, R10. -/
def execArmMeasurementComplete (r : Reel) (count : Nat) (s : State) : Host.Outcome State Fault Refusal :=
  whileRunning (armMeasured r count) s

/-- PRESENCE_MEASUREMENT_COMPLETE: R2, R3, R6, R11 to R14. -/
def execPresenceMeasurementComplete (count : Nat) (s : State) : Host.Outcome State Fault Refusal :=
  whileRunning (presenceMeasured count) s

/-- MEASUREMENT_STALLED: R2, R4, R10. (DESIGN CHOICE, log entry 6.) -/
def execMeasurementStalled (counter : SenseCounter) (s : State) : Host.Outcome State Fault Refusal :=
  match counter with
  | .arm r => whileRunning (armStalled r) s
  | .presence => whileRunning presenceStalled s

end Sys2Proof.Machine
end

