-- ==== Sys2Proof/Machine/Servo.lean ====
section
/-! DEFINITION. Machine/Servo.lean: the Tension Servo (chapter 3): the setpoint chain, the torque terms, the limits and the
drive code, the runs and conditions, the drive state, and its three requests. -/

namespace Sys2Proof.Machine

/-! ## The setpoint chain (R44 to R46) -/

/-- T_tgt of the mode before its clamp, and whether the zone scale applies (Table 3-2). -/
def rawTarget (s : State) : Int × Bool :=
  match s.planner.mode, s.survey.stepTension with
  | .loading, _ => (s.packs.tape.tThr, false)
  | .unloading, _ => (20, false)
  | .survey, some t => (t, false)
  | _, _ => (s.packs.tape.tNom, true)

/-- R44: T_tgt, clamped to [20, T_max]. -/
def targetTension (s : State) : Int := clampInt 20 s.packs.tape.tMax (rawTarget s).1

/-- R45: T_z. -/
def zonedTension (s : State) : Int :=
  if (rawTarget s).2 then max 20 (divFloor (targetTension s * s.zones.current.scale) 100) else targetTension s

/-- R46: one slew step of T_eff16 toward a goal in sixteenths. -/
def slewed (x slew : Nat) (goal : Int) : Nat :=
  let step := 4 * slew
  if mag (goal - x) ≤ step then goal.toNat else if (x : Int) < goal then x + step else x - step

/-- R46: the setpoint after one sample, with its settled indication. -/
def Servo.slewStep (v : Servo) (tz : Int) : Servo :=
  let x := slewed v.tEff16 v.slew (tz * 16)
  { v with tEff16 := x, settled := (x : Int) == tz * 16 }

/-! ## Torque terms (R50 to R55) -/

/-- R54, Table 3-5: a reel-driven sample. -/
def reelDriven (s : State) : Bool :=
  s.planner.pinch == .opened &&
    match s.planner.mode with
    | .hold | .wind | .locate | .survey | .engaging | .stopping => true
    | .loading => s.planner.sub == some .probeCreep
    | .chase => s.chase.state == .seek || s.chase.state == .parked || s.chase.state == .runup
    | _ => false

/-- The leading reel (R54). -/
def leadingReel (vRef : Int) : Reel := if 0 ≤ vRef then .takeup else .supply

/-- R51: the acceleration term. -/
def accTerm (j a : Int) (radius : Nat) : Int := divHalfAway (j * a * 10) radius

/-- R52: sgn(v), 0 inside the ±5 mm/s band. -/
def speedSign (v : Int) : Int := if 5000 ≤ v then 1 else if v ≤ -5000 then -1 else 0

/-- R53: the feedback term. -/
def feedbackTerm (kp ki : Nat) (p i : Int) : Int := divTrunc (-(kp * p + ki * i)) 256

/-- R54: the speed term of a reel-driven sample, given τ_lim of the leading reel. -/
def speedTerm (kv : Nat) (vRef vMeas : Int) (tauLim : Nat) : Int :=
  clampInt (-((tauLim / 2 : Nat) : Int)) (tauLim / 2 : Nat) (divTrunc (kv * (vRef - vMeas)) 1000)

/-- τ_v of this sample for a reel: the leading reel's in a reel-driven sample, 0 otherwise. -/
def speedTermOf (s : State) (r : Reel) : Int :=
  if reelDriven s ∧ leadingReel s.planner.vRef = r then
    speedTerm s.servo.kv s.planner.vRef s.tach.vMeas (s.packs.profile.get r).tauLim
  else 0

/-- The sign with which acc, fric and τ_v enter a reel's sum (Table 3-6). -/
def termSign : Reel → Int
  | .supply => -1
  | .takeup => 1

/-- R55: the reel torque before limiting, with T_eff as this sample's slew step left it. -/
def torqueSum (s : State) (r : Reel) : Int :=
  let x := s.servo.reels.get r
  let radius := publishedRadius s.packs r
  holdTorque s.servo.tEff radius + feedbackTerm x.kp x.ki (s.sense.arms.get r).p x.integ +
    termSign r * (accTerm (publishedInertia s.packs r) s.planner.aRef radius +
      (s.packs.profile.get r).f * speedSign s.tach.vMeas + speedTermOf s r)

/-! ## Limits and output (R56 to R61) -/

/-- R56: the end at which a sum is clamped. -/
def saturatedEnd (sum lim : Int) : Option SatEnd := if lim < sum then some .high else if sum < -lim then some .low else none

/-- R57: the integrator after a sample. -/
def nextIntegrator (i p : Int) (iMax : Nat) (sat : Option SatEnd) : Int :=
  if (sat = some .high ∧ p < 0) ∨ (sat = some .low ∧ 0 < p) then i else clampInt (-(iMax : Int)) iMax (i + p)

/-- R61. -/
def estimatedTension (tEff : Nat) (p : Int) (tSpan : Nat) : Int := tEff + divTrunc (p * tSpan) 1000

/-- A run that rises while its condition holds, up to a bound. -/
def runNext (bound run : Nat) (holds : Bool) : Nat := if holds then min bound (run + 1) else 0

/-- The slack runs are held at 0 in the take-up stage of LOADING (R60). -/
def slackHeld (s : State) : Bool := s.planner.mode == .loading && s.planner.sub == some .takeUp

/-- R55 to R61: one reel's items after a sample. -/
def sampledReel (s : State) (r : Reel) : ReelServo :=
  let x := s.servo.reels.get r
  let p := (s.sense.arms.get r).p
  let lim : Int := tauLimEff s r
  let sum := torqueSum s r
  let sat := saturatedEnd sum lim
  { x with
      integ := nextIntegrator x.integ p x.iMax sat
      sat := sat
      satRun := runNext 800 x.satRun (reelDriven s && sat.isSome)
      slackRun := runNext 8 x.slackRun (!slackHeld s && p ≤ -950)
      overRun := runNext 8 x.overRun (950 ≤ p)
      code := codeOf (clampInt (-lim) lim sum) (s.packs.profile.get r).tauFs
      tEst := estimatedTension s.servo.tEff p s.packs.tape.tSpan }

/-- R43, steps 1 to 5 and 7, with the runs of step 6. -/
def sampleServo (s : State) : State :=
  let s1 := s.onServo fun v => v.slewStep (zonedTension s)
  s1.onServo fun v => { v with reels := { supply := sampledReel s1 .supply, takeup := sampledReel s1 .takeup } }

/-- R16: the tension-lost latch. -/
def latchTension (s : State) : State :=
  s.onSense fun x => { x with tensionLost := x.tensionLost || x.arms.supply.p ≤ -950 || x.arms.takeup.p ≤ -950 }

/-- The conditions of one reel that stand after the runs of a sample (R59, R60). -/
def reelConditions (r : Reel) (x : ReelServo) (s : State) : State :=
  let give (given : Bool) (kind : FaultKind) (t : State) : State := if given then takeCondition kind (some r) t else t
  give (x.overRun == 8) .overtension (give (x.slackRun == 8) .slack (give (x.satRun == 800) .saturation s))

/-- R43, step 6: the conditions of both reels, the supply reel's first. (DEDUCED, log entry 35.) -/
def giveConditions (s : State) : State :=
  reelConditions .takeup s.servo.reels.takeup (reelConditions .supply s.servo.reels.supply s)

/-! ## The drive state (R62, R63, R156) -/

/-- R102, R62, R63: the drive state changes, with its notice, and the planner's limits follow. -/
def setDriveState (reduced : Bool) (s : State) : State :=
  recomputeLimits (postNotice (.drive reduced) (s.onServo fun v => { v with reduced := reduced, recovery := none }))

/-- R62: SUPPLY_LOW asserted, as the Tension Servo takes it. -/
def driveReduced (s : State) : State :=
  if s.servo.reduced then s.onServo fun v => { v with recovery := none }
  else reclampReel .takeup (reclampReel .supply (setDriveState true s))

/-- R156: a POWER_FAIL fault below BRAKE is escalated. Its FAULT notice is posted before the stop is demanded, as R149 has it for a
primary. (DEDUCED, log entry 60.) -/
def escalatePowerFail (s : State) : State :=
  match s.fault.record with
  | some r =>
    if s.fault.powerFailTaken ∧ s.lines.powerFail = true ∧ r.severity.code < Severity.brake.code then
      let s1 := s.onFault fun f => { f with record := some { r with severity := .brake } }
      let note := Notice.fault true { kind := .powerFail, reel := none } false .brake s.planner.mode (mmPerS s.tach.vMeas) s.tach.position
      stopDemand .brake .fault (postNotice note s1)
    else s
  | none => s

/-- SUPPLY_LOW_ASSERT: R62, R156. While the part is held in a reset the line's level is all that changes (R65). (DEDUCED, log entries 5
and 44.) An assertion that both reduces the drives and escalates a POWER_FAIL fault is taken by the Tension Servo first, so that its
DRIVE notice comes before the FAULT notice of the escalation. (DEDUCED, log entry 73.) -/
def execSupplyLowAssert (s : State) : Host.Outcome State Fault Refusal :=
  let s1 := s.onLines fun l => { l with supplyLow := true }
  .next (if s.held.isSome then s1 else escalatePowerFail (driveReduced s1))

/-- SUPPLY_LOW_DEASSERT: R63, R156. -/
def execSupplyLowDeassert (s : State) : Host.Outcome State Fault Refusal :=
  let s1 := s.onLines fun l => { l with supplyLow := false }
  .next (if s.held.isSome || !s.servo.reduced then s1 else s1.onServo fun v => { v with recovery := some 0 })

/-- R63: the recovery timer reaches 1 000 ms. (DESIGN CHOICE, log entry 6.) -/
def recoveryExpires (s : State) : State := if s.servo.recovery.isSome then setDriveState false s else s

/-- DRIVE_RECOVERY_EXPIRY: R63, while the timer runs. -/
def execDriveRecoveryExpiry (s : State) : Host.Outcome State Fault Refusal := whileRunning recoveryExpires s

/-! ## SET_TENSION, SET_GAINS, SET_SLEW -/

/-- The T_tgt that a reply carries; Table 3-2 gives none while the drives are DISABLED. (DESIGN CHOICE, log entry 17.) -/
def shownTarget (s : State) : Int := if s.servo.enabled then targetTension s else Config.noTarget s.packs.tape.tNom

/-- R47, R102: T_nom is stored, and a change recomputes the planner's limits. -/
def storeNominal (t : Nat) (s : State) : State :=
  let s1 := s.onPacks fun x => { x with tape := { x.tape with tNom := t } }
  if t = s.packs.tape.tNom then s1 else recomputeLimits s1

/-- R47. -/
def answerSetTension (tension : Nat) (s : State) : Answer :=
  let t := clampNat s.packs.tape.tMin s.packs.tape.tMax tension
  let s1 := storeNominal t s
  accept s1 (t != tension) (outU16 t ++ outU16 (shownTarget s1) ++ outU16 s1.servo.tEff)

/-- A reel's gains (R64): an integrator outside its new bound is clamped to it at once. -/
def ReelServo.withGains (x : ReelServo) (kp ki iMax : Nat) : ReelServo :=
  let bound := clampNat 1000 1000000 iMax
  { x with kp := clampNat 0 4095 kp, ki := clampNat 0 255 ki, iMax := bound, integ := clampInt (-(bound : Int)) bound x.integ }

def gainBytes (x : ReelServo) : List Byte := outU16 x.kp ++ outU8 x.ki ++ outU32 x.iMax

def gainsReply (v : Servo) : List Byte := gainBytes v.reels.supply ++ gainBytes v.reels.takeup ++ outU16 v.kv

def ReelServo.gainsAre (x : ReelServo) (kp ki iMax : Nat) : Bool := x.kp == kp && x.ki == ki && x.iMax == iMax

/-- R64. -/
def answerSetGains (apply kpS kiS iMaxS kpT kiT iMaxT kv : Nat) (s : State) : Answer :=
  if !flagSet apply then accept s false (gainsReply s.servo)
  else
    let s1 := s.onServo fun v =>
      { v with reels := { supply := v.reels.supply.withGains kpS kiS iMaxS, takeup := v.reels.takeup.withGains kpT kiT iMaxT },
               kv := clampNat 0 1000 kv }
    let v := s1.servo
    accept s1 (!(v.reels.supply.gainsAre kpS kiS iMaxS && v.reels.takeup.gainsAre kpT kiT iMaxT && v.kv == kv)) (gainsReply v)

/-- R48. -/
def answerSetSlew (slew : Nat) (s : State) : Answer :=
  let s1 := s.onServo fun v => { v with slew := clampNat 1 100 slew }
  accept s1 (s1.servo.slew != slew) (outU8 s1.servo.slew)

end Sys2Proof.Machine
end

