-- ==== Sys2Proof/Machine/ZonesCues.lean ====
section
/-! DEFINITION. Machine/ZonesCues.lean: the requests to the Zone Table (section 6.1.1) and the Cue List (section 6.2.1). -/

namespace Sys2Proof.Machine

/-! ## Zone Table (R111, R112) -/

def clampLimit (n : Nat) : Nat := clampNat 100 12000 n

def clampScale (n : Nat) : Nat := clampNat 25 100 n

/-- Step 1 of R111. -/
def zoneFieldsOk (index enabled : Nat) (base : Int) (k dirs inhibit : Nat) : Bool :=
  index ≤ 7 && 12 ≤ k && k ≤ 28 && positionOk base && (ZoneDirs.ofCode dirs).isSome && flagOk enabled && flagOk inhibit

/-- Step 2 of R111: a whole multiple of 2^k. -/
def zoneAligned (base : Int) (k : Nat) : Bool := base % 2 ^ k == 0

/-- An entry is replaced and the table re-evaluated; one equal to its stored value changes nothing (R111). -/
def storeZone (index : Nat) (z : ZoneEntry) (s : State) : State :=
  if s.zones.entries[index]? = some z then s
  else rezoneEdit s.zones.current (s.onZones fun t => { t with entries := t.entries.set index z })

/-- R111. -/
def answerSetZone (index enabled : Nat) (base : Int) (k limit scale dirs inhibit : Nat) (s : State) : Answer :=
  if !zoneFieldsOk index enabled base k dirs inhibit then refuse s .badValue
  else if !zoneAligned base k then refuse s .misaligned
  else
    let attrs : ZoneAttrs :=
      { limit := clampLimit limit, scale := clampScale scale, dirs := (ZoneDirs.ofCode dirs).getD .both, inhibit := flagSet inhibit }
    let z : ZoneEntry := { enabled := flagSet enabled, base := base, k := k, attrs := attrs }
    let s1 := storeZone index z s
    accept s1 (attrs.limit != limit || attrs.scale != scale) (zoneEntryBytes z ++ outU8 s1.zones.index)

/-- R112. -/
def answerClearZone (index : Nat) (s : State) : Answer :=
  if 7 < index then refuse s .badValue
  else
    let s1 := storeZone index .default s
    accept s1 false (outU8 s1.zones.index)

/-- R112: the base zone is replaced and the table re-evaluated. -/
def storeBaseZone (a : ZoneAttrs) (s : State) : State :=
  rezoneEdit s.zones.current (s.onZones fun t => { t with base := a })

/-- R112. -/
def answerSetBaseZone (limit scale dirs inhibit : Nat) (s : State) : Answer :=
  match ZoneDirs.ofCode dirs, flagOk inhibit with
  | some d, true =>
    let a : ZoneAttrs := { limit := clampLimit limit, scale := clampScale scale, dirs := d, inhibit := flagSet inhibit }
    accept (storeBaseZone a s) (a.limit != limit || a.scale != scale) (zoneAttrBytes a)
  | _, _ => refuse s .badValue

/-- R112. -/
def answerGetZones (s : State) : Answer :=
  accept s false (s.zones.entries.flatMap zoneEntryBytes ++ zoneAttrBytes s.zones.base ++ outU8 s.zones.index ++
    outFlag s.lines.recordInhibit)

/-! ## Cue List (R120 to R122) -/

def printable (b : Byte) : Bool := 0x20 ≤ b.toNat && b.toNat ≤ 0x7E

/-- Step 1 of R120. -/
def cueFieldsOk (id : Nat) (position : Int) (kind : Nat) (label : List Byte) : Bool :=
  1 ≤ id && id ≤ 250 && positionOk position && (CueKind.ofCode kind).isSome && label.length ≤ 12 && label.all printable

/-- The index at which a cue is inserted: before the first cue whose position is greater (R120). -/
def cueIndex (position : Int) (l : List Cue) : Nat := (l.takeWhile fun c => c.position ≤ position).length

def insertCue (c : Cue) (l : List Cue) : List Cue :=
  (l.takeWhile fun q => q.position ≤ c.position) ++ c :: l.dropWhile fun q => q.position ≤ c.position

/-- R120. -/
def answerAddCue (id : Nat) (position : Int) (kind : Nat) (label : List Byte) (s : State) : Answer :=
  if !cueFieldsOk id position kind label then refuse s .badValue
  else if s.cues.list.any fun c => c.id == id || c.position == position then refuse s .duplicate
  else if 32 ≤ s.cues.list.length then refuse s .listFull
  else
    let c : Cue := { id := id, position := position, kind := (CueKind.ofCode kind).getD .mark, label := label, mark := .none }
    let s1 := s.onCues fun q => { q with list := insertCue c q.list }
    accept s1 false (outU8 (cueIndex position s.cues.list) ++ outU8 s1.cues.list.length)

/-- R121: one cue is removed, with its place in the missed set and the last-reached memory. -/
def deleteCue (id : Nat) (s : State) : State :=
  (s.onCues fun q =>
    { q with list := q.list.filter fun c => c.id != id,
             lastReached := if q.lastReached = some id then none else q.lastReached }).onPlanner fun p =>
    { p with missed := p.missed.filter fun i => i != id, inForce := p.inForce.filter fun k => k.1 != id,
             seen := p.seen.filter fun k => k.1 != id }

/-- R121. -/
def answerDeleteCue (id : Nat) (s : State) : Answer :=
  if s.cues.list.any fun c => c.id == id then
    let s1 := deleteCue id s
    accept s1 false (outU8 s1.cues.list.length)
  else refuse s .notFound

/-- R121: every cue is removed as if each had been deleted. -/
def answerClearCues (s : State) : Answer :=
  let s1 := s.cues.list.foldl (fun t c => deleteCue c.id t) s
  accept s1 false (outU8 s1.cues.list.length)

/-- The cues whose records fit in some room, up to the first that does not (R122). -/
def cuesFitting : Nat → List Cue → List Cue
  | _, [] => []
  | room, c :: rest => if 8 + c.label.length ≤ room then c :: cuesFitting (room - (8 + c.label.length)) rest else []

/-- R122. -/
def answerGetCues (start count : Nat) (s : State) : Answer :=
  if 8 < count then refuse s .badValue
  else
    let page := cuesFitting 116 ((s.cues.list.drop start).take count)
    accept s false (outU8 s.cues.list.length ++ outU8 start ++ outU8 page.length ++ page.flatMap cueBytes)

end Sys2Proof.Machine
end

