-- ==== Sys2Proof/Machine/Link.lean ====
section
/-! DEFINITION. Machine/Link.lean: the Message Link (chapter 10): its own requests, the dispatch of a request to the block that
owns it (R182), the request queue (R181), the receive assembler (R180), telemetry (R187), and every request command. -/

namespace Sys2Proof.Machine

/-! ## The link's own requests (R186 to R190) -/

/-- R188: the flags that a status snapshot shows set are cleared. -/
def clearStickies (s : State) : State :=
  ((s.onSense fun x => { x with tensionLost := false }).onCapstan fun c => { c with lockLost := false }).onLink fun l =>
    { l with framesDropped := false, noticesLost := false }

/-- R188. -/
def answerGetStatus (s : State) : Answer := accept (clearStickies s) false (statusBytes s)

/-- R190: the reset waits for the reply; the request queue is emptied. -/
def answerReset (retain : Nat) (s : State) : Answer :=
  if !flagOk retain then refuse s .badValue
  else accept (s.onLink fun l => { l with resetPending := some (flagSet retain), queue := [] }) false []

/-- R186: queued notices of a kind are removed at level 0, and otherwise take the level as their priority and move to their
place with their ages. -/
def relevel (k : NoticeKind) (level : Nat) (q : List QueuedNotice) : List QueuedNotice :=
  let others := q.filter fun x => x.notice.kind != k
  if level = 0 then others
  else (q.filter fun x => x.notice.kind == k).foldl (fun acc x => insertNotice { x with priority := level } acc) others

/-- R186. -/
def answerSetNoticeLevel (kind level : Nat) (s : State) : Answer :=
  match NoticeKind.ofCode kind with
  | none => refuse s .badValue
  | some k =>
    if k = .ready ∨ 3 < level then refuse s .badValue
    else
      let s1 := s.onLink fun l => { l with levels := l.levels.set k.place level, notices := relevel k level l.notices }
      accept s1 false (s1.link.levels.flatMap fun n : Nat => outU8 n)

/-- R187. -/
def answerSetTelemetry (period : Nat) (s : State) : Answer :=
  let t := if period = 0 then 0 else clampNat 10 1000 period
  accept (s.onLink fun l => { l with telPeriod := t, telTimer := if t = 0 then none else some 0 }) (t != period) (outU16 t)

/-- R187: the telemetry timer reaches its period. (DESIGN CHOICE, log entry 6.) -/
def telemetryExpires (s : State) : State :=
  if s.link.telTimer.isSome then
    postNotice (.telemetry (telemetryOf s)) (s.onLink fun l => { l with telTimer := some 0 })
  else s

/-- TELEMETRY_TIMER_EXPIRY: R187, while the timer runs. -/
def execTelemetryTimerExpiry (s : State) : Host.Outcome State Fault Refusal := whileRunning telemetryExpires s

/-! ## Dispatch (R182) -/

/-- R182: a request is handed to the block that owns it, which answers at once. A frame of undefined kind or of a length not
allowed for its kind is answered by the link. No command but a request comes here. -/
def handleRequest (c : Instr) (s : State) : Answer :=
  match c with
  | .requestBadLength _ _ _ => refuse s .badLength
  | .ping _ payload => accept s false payload
  | .getStatus _ => answerGetStatus s
  | .reset _ retain => answerReset retain s
  | .setNoticeLevel _ kind level => answerSetNoticeLevel kind level s
  | .setTelemetry _ period => answerSetTelemetry period s
  | .setLinkTimeout _ timeout => answerSetLinkTimeout timeout s
  | .getFault _ => answerGetFault s
  | .clearFault _ => answerClearFault s
  | .setSense _ channel apply range cMin cMax tOn tOff suppress =>
    answerSetSense channel apply range cMin cMax tOn tOff suppress s
  | .setArmCal _ channel cCentre cFull => answerSetArmCal channel cCentre cFull s
  | .setReel _ side apply hub flange jf f tauLim tauFs => answerSetReel side apply hub flange jf f tauLim tauFs s
  | .setTape _ apply t kj tMin tNom tMax tThr tSpan => answerSetTape apply t kj tMin tNom tMax tThr tSpan s
  | .setTension _ tension => answerSetTension tension s
  | .setGains _ apply kpS kiS iMaxS kpT kiT iMaxT kv => answerSetGains apply kpS kiS iMaxS kpT kiT iMaxT kv s
  | .setSlew _ sigma => answerSetSlew sigma s
  | .setCapstan _ apply ell w rho => answerSetCapstan apply ell w rho s
  | .setReference _ source m d => answerSetReference source m d s
  | .setVarispeed _ vsHost => answerSetVarispeed vsHost s
  | .setLockNotice _ choice => answerSetLockNotice choice s
  | .load _ => answerLoad s
  | .unload _ => answerUnload s
  | .play _ => answerPlay s
  | .wind _ speed => answerWind speed s
  | .stop _ kind => answerStop kind s
  | .setLimits _ apply vMax aAcc aDec guard => answerSetLimits apply vMax aAcc aDec guard s
  | .presetPosition _ value => answerPresetPosition value s
  | .positionFix _ value window => answerPositionFix value window s
  | .setZone _ index enabled base k limit scale dirs inhibit => answerSetZone index enabled base k limit scale dirs inhibit s
  | .clearZone _ index => answerClearZone index s
  | .setBaseZone _ limit scale dirs inhibit => answerSetBaseZone limit scale dirs inhibit s
  | .getZones _ => answerGetZones s
  | .addCue _ id position kind label => answerAddCue id position kind label s
  | .deleteCue _ id => answerDeleteCue id s
  | .clearCues _ => answerClearCues s
  | .getCues _ start count => answerGetCues start count s
  | .locate _ targetKind position cueId thenPlay preroll approachDist approachSpeed tolerance =>
    answerLocate targetKind position cueId thenPlay preroll approachDist approachSpeed tolerance s
  | .chaseStart _ offset window lead paramFlag gain reseek freewheel =>
    answerChaseStart offset window lead paramFlag gain reseek freewheel s
  | .masterPosition _ position speed => answerMasterPosition position speed s
  | .chaseStop _ => answerChaseStop s
  | .setCounter _ counter apply event qualifier edge invert threshold ovfNotice enable =>
    answerSetCounter counter apply event qualifier edge invert threshold ovfNotice enable s
  | .readCounters _ clear => answerReadCounters clear s
  | .freeze _ => answerFreeze s
  | .unfreeze _ => answerUnfreeze s
  | .resetCounters _ => answerResetCounters s
  | .surveyStart _ start finish speed tension step stepCount dwell limitSource limitValue slackThr excThr fastFlag thres shift =>
    answerSurveyStart start finish speed tension step stepCount dwell limitSource limitValue slackThr excThr fastFlag thres shift s
  | .surveyAbort _ => answerSurveyAbort s
  | .getSurvey _ start count => answerGetSurvey start count s
  | _ => refuse s .unknownKind

/-- R182, R183: the reply is built and placed in the reply buffer, from which an IDLE transmitter takes it. -/
def deliver (kind tag : Byte) (a : Answer) : State :=
  a.state.onLink fun l => txTake { l with reply := some { kind := kind + 0x80, tag := tag, code := a.code, body := a.body } }

/-- R182: the reply buffer is empty and no reset is pending. -/
def Link.mayDispatch (l : Link) : Bool := l.reply.isNone && l.resetPending.isNone

/-- R182: the frame at the head of the request queue is dispatched, if it may be. -/
def dispatchHead (s : State) : State :=
  match s.link.queue with
  | [] => s
  | f :: rest =>
    if s.link.mayDispatch then
      deliver f.kind f.tag (handleRequest (decodeFrame f) (s.onLink fun l => { l with queue := rest }))
    else s

/-! ## Good frames (R180, R181) -/

/-- R181: a good frame is offered to the request queue. While a reset is pending it is discarded and fires nothing. -/
def offerFrame (f : Frame) (s : State) : State :=
  if s.link.resetPending.isSome then s
  else if 0x80 ≤ f.kind.toNat then monitorEvent .linkRejects .whole s
  else if s.link.queue.length < 4 then s.onLink fun l => { l with queue := l.queue ++ [f] }
  else monitorEvent .linkRejects .whole (s.onLink fun l => { l with framesDropped := true })

/-- R180 to R182, R157: a good frame has arrived. -/
def frameArrives (f : Frame) (s : State) : State := dispatchHead (offerFrame f (restartLinkTimer s))

/-- Nothing waits before a frame that arrives now: it is dispatched at once. -/
def Link.free (l : Link) : Bool := l.queue.isEmpty && l.mayDispatch

/-- The last byte of a request's frame arrives, check and all. Where nothing waits before it, the request is dispatched at
once; otherwise it takes its place in the request queue, or is discarded (R181). (DESIGN CHOICE, log entry 2.) -/
def requestArrives (c : Instr) (s : State) : State :=
  match encodeFrame c with
  | none => s
  | some f =>
    if s.held.isSome then s
    else if s.link.free then deliver f.kind f.tag (handleRequest c (restartLinkTimer s))
    else frameArrives f s

/-! ## The receive assembler (R180) -/

/-- A frame in progress is discarded: LINK_REJECTS fires and the assembler hunts. -/
def discardFrame (s : State) : State := monitorEvent .linkRejects .whole (s.onLink fun l => { l with assembler := none })

/-- The frame that a length byte and N + 2 bytes after it spell. -/
def frameOf (l : List Byte) : Frame :=
  { kind := l.getD 1 0, tag := l.getD 2 0, payload := (l.drop 3).dropLast }

/-- A byte taken IN_FRAME, given the bytes from the length byte to it. -/
def byteInFrame (l : List Byte) (s : State) : State :=
  let n := (l.headD 0).toNat
  if 120 < n then discardFrame s
  else if l.length < n + 4 then s.onLink fun x => { x with assembler := some l }
  else if byteSum l % 256 = 0 then frameArrives (frameOf l) (s.onLink fun x => { x with assembler := none })
  else discardFrame s

/-- R180: a byte arrives on the receive pin, with or without its stop bit. While HUNTING a byte without one starts no frame. (DEDUCED,
log entry 67.) -/
def byteArrives (b : Byte) (framingError : Bool) (s : State) : State :=
  match s.link.assembler with
  | none => if b = 0xA5 ∧ framingError = false then s.onLink fun x => { x with assembler := some [] } else s
  | some l => if framingError then discardFrame s else byteInFrame (l ++ [b]) s

/-- BYTE_RECEIVED: R180. -/
def execByteReceived (byte : Byte) (framingError : Bool) (s : State) : Host.Outcome State Fault Refusal :=
  whileRunning (byteArrives byte framingError) s

/-- FRAME_RECEIVED: the last byte of a frame (R180, R181). -/
def execFrameReceived (byte : Byte) (s : State) : Host.Outcome State Fault Refusal := whileRunning (byteArrives byte false) s

/-- INTER_BYTE_TIMEOUT: 2 ms inside a frame without a next byte (R180). (DESIGN CHOICE, log entry 6.) -/
def execInterByteTimeout (s : State) : Host.Outcome State Fault Refusal :=
  whileRunning (fun s => if s.link.assembler.isSome then discardFrame s else s) s

/-! ## Requests -/

/-- REQUEST_UNKNOWN_KIND: R182. -/
def execRequestUnknownKind (kind tag : Byte) (payload : List Byte) (s : State) : Host.Outcome State Fault Refusal :=
  .next (requestArrives (.requestUnknownKind kind tag payload) s)

/-- REQUEST_BAD_LENGTH: R194. -/
def execRequestBadLength (kind tag : Byte) (payload : List Byte) (s : State) : Host.Outcome State Fault Refusal :=
  .next (requestArrives (.requestBadLength kind tag payload) s)

/-- PING: R189. -/
def execPing (tag : Byte) (payload : List Byte) (s : State) : Host.Outcome State Fault Refusal :=
  .next (requestArrives (.ping tag payload) s)

/-- GET_STATUS: R188. -/
def execGetStatus (tag : Byte) (s : State) : Host.Outcome State Fault Refusal :=
  .next (requestArrives (.getStatus tag) s)

/-- RESET: R190. -/
def execReset (tag : Byte) (retain : Nat) (s : State) : Host.Outcome State Fault Refusal :=
  .next (requestArrives (.reset tag retain) s)

/-- SET_NOTICE_LEVEL: R186. -/
def execSetNoticeLevel (tag : Byte) (kind level : Nat) (s : State) : Host.Outcome State Fault Refusal :=
  .next (requestArrives (.setNoticeLevel tag kind level) s)

/-- SET_TELEMETRY: R187. -/
def execSetTelemetry (tag : Byte) (period : Nat) (s : State) : Host.Outcome State Fault Refusal :=
  .next (requestArrives (.setTelemetry tag period) s)

/-- SET_LINK_TIMEOUT: R159. -/
def execSetLinkTimeout (tag : Byte) (timeout : Nat) (s : State) : Host.Outcome State Fault Refusal :=
  .next (requestArrives (.setLinkTimeout tag timeout) s)

/-- GET_FAULT: R154. -/
def execGetFault (tag : Byte) (s : State) : Host.Outcome State Fault Refusal :=
  .next (requestArrives (.getFault tag) s)

/-- CLEAR_FAULT: R153. -/
def execClearFault (tag : Byte) (s : State) : Host.Outcome State Fault Refusal :=
  .next (requestArrives (.clearFault tag) s)

/-- SET_SENSE: R15. -/
def execSetSense (tag : Byte) (channel apply range cMin cMax tOn tOff suppress : Nat) (s : State) : Host.Outcome State Fault Refusal :=
  .next (requestArrives (.setSense tag channel apply range cMin cMax tOn tOff suppress) s)

/-- SET_ARM_CAL: R7. -/
def execSetArmCal (tag : Byte) (channel cCentre cFull : Nat) (s : State) : Host.Outcome State Fault Refusal :=
  .next (requestArrives (.setArmCal tag channel cCentre cFull) s)

/-- SET_REEL: R27. -/
def execSetReel (tag : Byte) (side apply hub flange jf f tauLim tauFs : Nat) (s : State) : Host.Outcome State Fault Refusal :=
  .next (requestArrives (.setReel tag side apply hub flange jf f tauLim tauFs) s)

/-- SET_TAPE: R28. -/
def execSetTape (tag : Byte) (apply t kj tMin tNom tMax tThr tSpan : Nat) (s : State) : Host.Outcome State Fault Refusal :=
  .next (requestArrives (.setTape tag apply t kj tMin tNom tMax tThr tSpan) s)

/-- SET_TENSION: R47. -/
def execSetTension (tag : Byte) (tension : Nat) (s : State) : Host.Outcome State Fault Refusal :=
  .next (requestArrives (.setTension tag tension) s)

/-- SET_GAINS: R64. -/
def execSetGains (tag : Byte) (apply kpS kiS iMaxS kpT kiT iMaxT kv : Nat) (s : State) : Host.Outcome State Fault Refusal :=
  .next (requestArrives (.setGains tag apply kpS kiS iMaxS kpT kiT iMaxT kv) s)

/-- SET_SLEW: R48. -/
def execSetSlew (tag : Byte) (sigma : Nat) (s : State) : Host.Outcome State Fault Refusal :=
  .next (requestArrives (.setSlew tag sigma) s)

/-- SET_CAPSTAN: R79. -/
def execSetCapstan (tag : Byte) (apply ell w rho : Nat) (s : State) : Host.Outcome State Fault Refusal :=
  .next (requestArrives (.setCapstan tag apply ell w rho) s)

/-- SET_REFERENCE: R78. -/
def execSetReference (tag : Byte) (source m d : Nat) (s : State) : Host.Outcome State Fault Refusal :=
  .next (requestArrives (.setReference tag source m d) s)

/-- SET_VARISPEED: R70. -/
def execSetVarispeed (tag : Byte) (vsHost : Int) (s : State) : Host.Outcome State Fault Refusal :=
  .next (requestArrives (.setVarispeed tag vsHost) s)

/-- SET_LOCK_NOTICE: R77. -/
def execSetLockNotice (tag : Byte) (choice : Nat) (s : State) : Host.Outcome State Fault Refusal :=
  .next (requestArrives (.setLockNotice tag choice) s)

/-- LOAD: R87. -/
def execLoad (tag : Byte) (s : State) : Host.Outcome State Fault Refusal :=
  .next (requestArrives (.load tag) s)

/-- UNLOAD: R90. -/
def execUnload (tag : Byte) (s : State) : Host.Outcome State Fault Refusal :=
  .next (requestArrives (.unload tag) s)

/-- PLAY: R93. -/
def execPlay (tag : Byte) (s : State) : Host.Outcome State Fault Refusal :=
  .next (requestArrives (.play tag) s)

/-- WIND: R92. -/
def execWind (tag : Byte) (speed : Int) (s : State) : Host.Outcome State Fault Refusal :=
  .next (requestArrives (.wind tag speed) s)

/-- STOP: R97. -/
def execStop (tag : Byte) (kind : Nat) (s : State) : Host.Outcome State Fault Refusal :=
  .next (requestArrives (.stop tag kind) s)

/-- SET_LIMITS: R102. -/
def execSetLimits (tag : Byte) (apply vMax aAcc aDec guard : Nat) (s : State) : Host.Outcome State Fault Refusal :=
  .next (requestArrives (.setLimits tag apply vMax aAcc aDec guard) s)

/-- PRESET_POSITION: R20. -/
def execPresetPosition (tag : Byte) (value : Int) (s : State) : Host.Outcome State Fault Refusal :=
  .next (requestArrives (.presetPosition tag value) s)

/-- POSITION_FIX: R21. -/
def execPositionFix (tag : Byte) (value : Int) (window : Nat) (s : State) : Host.Outcome State Fault Refusal :=
  .next (requestArrives (.positionFix tag value window) s)

/-- SET_ZONE: R111. -/
def execSetZone (tag : Byte) (index enabled : Nat) (base : Int) (k limit scale dirs inhibit : Nat) (s : State) : Host.Outcome State Fault Refusal :=
  .next (requestArrives (.setZone tag index enabled base k limit scale dirs inhibit) s)

/-- CLEAR_ZONE: R112. -/
def execClearZone (tag : Byte) (index : Nat) (s : State) : Host.Outcome State Fault Refusal :=
  .next (requestArrives (.clearZone tag index) s)

/-- SET_BASE_ZONE: R112. -/
def execSetBaseZone (tag : Byte) (limit scale dirs inhibit : Nat) (s : State) : Host.Outcome State Fault Refusal :=
  .next (requestArrives (.setBaseZone tag limit scale dirs inhibit) s)

/-- GET_ZONES: R112. -/
def execGetZones (tag : Byte) (s : State) : Host.Outcome State Fault Refusal :=
  .next (requestArrives (.getZones tag) s)

/-- ADD_CUE: R120. -/
def execAddCue (tag : Byte) (id : Nat) (position : Int) (kind : Nat) (label : List Byte) (s : State) : Host.Outcome State Fault Refusal :=
  .next (requestArrives (.addCue tag id position kind label) s)

/-- DELETE_CUE: R121. -/
def execDeleteCue (tag : Byte) (id : Nat) (s : State) : Host.Outcome State Fault Refusal :=
  .next (requestArrives (.deleteCue tag id) s)

/-- CLEAR_CUES: R121. -/
def execClearCues (tag : Byte) (s : State) : Host.Outcome State Fault Refusal :=
  .next (requestArrives (.clearCues tag) s)

/-- GET_CUES: R122. -/
def execGetCues (tag : Byte) (start count : Nat) (s : State) : Host.Outcome State Fault Refusal :=
  .next (requestArrives (.getCues tag start count) s)

/-- LOCATE: R128. -/
def execLocate (tag : Byte) (targetKind : Nat) (position : Int) (cueId thenPlay preroll approachDist approachSpeed tolerance : Nat) (s : State) : Host.Outcome State Fault Refusal :=
  .next (requestArrives (.locate tag targetKind position cueId thenPlay preroll approachDist approachSpeed tolerance) s)

/-- CHASE_START: R137. -/
def execChaseStart (tag : Byte) (offset : Int) (window lead paramFlag gain reseek freewheel : Nat) (s : State) : Host.Outcome State Fault Refusal :=
  .next (requestArrives (.chaseStart tag offset window lead paramFlag gain reseek freewheel) s)

/-- MASTER_POSITION: R138. -/
def execMasterPosition (tag : Byte) (position speed : Int) (s : State) : Host.Outcome State Fault Refusal :=
  .next (requestArrives (.masterPosition tag position speed) s)

/-- CHASE_STOP: R146. -/
def execChaseStop (tag : Byte) (s : State) : Host.Outcome State Fault Refusal :=
  .next (requestArrives (.chaseStop tag) s)

/-- SET_COUNTER: R166. -/
def execSetCounter (tag : Byte) (counter apply event qualifier edge invert threshold ovfNotice enable : Nat) (s : State) : Host.Outcome State Fault Refusal :=
  .next (requestArrives (.setCounter tag counter apply event qualifier edge invert threshold ovfNotice enable) s)

/-- READ_COUNTERS: R168. -/
def execReadCounters (tag : Byte) (clear : Nat) (s : State) : Host.Outcome State Fault Refusal :=
  .next (requestArrives (.readCounters tag clear) s)

/-- FREEZE: R167. -/
def execFreeze (tag : Byte) (s : State) : Host.Outcome State Fault Refusal :=
  .next (requestArrives (.freeze tag) s)

/-- UNFREEZE: R167. -/
def execUnfreeze (tag : Byte) (s : State) : Host.Outcome State Fault Refusal :=
  .next (requestArrives (.unfreeze tag) s)

/-- RESET_COUNTERS: R167. -/
def execResetCounters (tag : Byte) (s : State) : Host.Outcome State Fault Refusal :=
  .next (requestArrives (.resetCounters tag) s)

/-- SURVEY_START: R170. -/
def execSurveyStart (tag : Byte) (start finish : Int) (speed tension : Nat) (step : Int) (stepCount dwell limitSource limitValue slackThr excThr fastFlag thres shift : Nat) (s : State) : Host.Outcome State Fault Refusal :=
  .next (requestArrives (.surveyStart tag start finish speed tension step stepCount dwell limitSource limitValue slackThr excThr fastFlag thres shift) s)

/-- SURVEY_ABORT: R176. -/
def execSurveyAbort (tag : Byte) (s : State) : Host.Outcome State Fault Refusal :=
  .next (requestArrives (.surveyAbort tag) s)

/-- GET_SURVEY: R178. -/
def execGetSurvey (tag : Byte) (start count : Nat) (s : State) : Host.Outcome State Fault Refusal :=
  .next (requestArrives (.getSurvey tag start count) s)

/-- The record is dispatched at once, and no reset holds the part. (DESIGN CHOICE, log entry 3.) -/
def recordTaken (s : State) : Bool := s.held.isNone && s.link.free

/-- CHASE_LOCKED: the MASTER_POSITION record at which the in-run reaches 10 (R143). -/
def execChaseLocked (tag : Byte) (position speed : Int) (s : State) : Host.Outcome State Fault Refusal :=
  .next (if recordTaken s && lockRecordFalls position speed s then requestArrives (.masterPosition tag position speed) s else s)

/-- CHASE_LOSS: the MASTER_POSITION record at which the out-run reaches 4 (R143). -/
def execChaseLoss (tag : Byte) (position speed : Int) (s : State) : Host.Outcome State Fault Refusal :=
  .next (if recordTaken s && lossRecordFalls position speed s then requestArrives (.masterPosition tag position speed) s else s)

end Sys2Proof.Machine
end

