-- ==== Sys2Proof/Machine/Clock.lean ====
section
/-! DEFINITION. Machine/Clock.lean: what one millisecond brings when no command waits: the three timers that the spec counts in
ms and that no command steps (the recovery timer of R63, the telemetry timer of R187, the link timer of R157). -/

namespace Sys2Proof.Machine

/-- R63. -/
def tickRecovery (s : State) : State :=
  match s.servo.recovery with
  | none => s
  | some n => if 1000 ≤ n + 1 then recoveryExpires s else s.onServo fun v => { v with recovery := some (n + 1) }

/-- R187. -/
def tickTelemetry (s : State) : State :=
  match s.link.telTimer with
  | none => s
  | some n => if s.link.telPeriod ≤ n + 1 then telemetryExpires s else s.onLink fun l => { l with telTimer := some (n + 1) }

/-- R157, R158. -/
def tickLink (s : State) : State :=
  match s.fault.linkTimer with
  | none => s
  | some n => if s.fault.linkTimeout ≤ n + 1 then linkExpires s else s.onFault fun f => { f with linkTimer := some (n + 1) }

/-- One millisecond passes; nothing does while the part is held in a reset. (DESIGN CHOICE, log entry 1.) -/
def tick (s : State) : State := if s.held.isSome then s else tickLink (tickTelemetry (tickRecovery s))

end Sys2Proof.Machine
end

