-- ==== Sys2Proof/Machine/Resets.lean ====
section
/-! DEFINITION. Machine/Resets.lean: how a reset begins, what it holds, and the values with which it ends (section 3.6, R17,
R41, R65, R81, R110, R119, R127, R147, R160, R169, R179, R190, R191); and the end of a frame being sent, after which a reset
that was asked for begins. -/

namespace Sys2Proof.Machine

/-! ## The values with which a reset ends -/

/-- Outcome NONE, or UNUSED in OFF (Table 1-6). -/
def outcomeAfter (range : SenseRange) : MeasureOutcome := if range = .off then .unused else .none

/-- Table 1-6, warm reset. -/
def ArmChannel.warm (a : ArmChannel) : ArmChannel := { a with last := 0, outcome := outcomeAfter a.range, p := 0 }

def PresenceChannel.warm (q : PresenceChannel) : PresenceChannel :=
  { q with last := 0, outcome := outcomeAfter q.range, state := if q.range = .off then .unused else .unknown, candidate := none,
           run := 0 }

def Sense.warm (x : Sense) : Sense :=
  let y : Sense :=
    { arms := x.arms.map ArmChannel.warm, ps := x.ps.warm, pt := x.pt.warm, ph := x.ph.warm, turn := none, tensionLost := false }
  { y with turn := y.turnFrom .ps }

/-- Table 2-10, warm reset. -/
def Tach.warm (x : Tach) : Tach :=
  { Tach.cold with position := x.position, referenced := x.referenced, fixWindow := x.fixWindow }

def Packs.warm (x : Packs) : Packs := { Packs.cold with profile := x.profile, tape := x.tape }

/-- Table 3-11, warm reset; the drive state is set apart. -/
def ReelServo.warm (x : ReelServo) : ReelServo := { ReelServo.cold with kp := x.kp, ki := x.ki, iMax := x.iMax }

def Servo.warm (v : Servo) : Servo := { Servo.cold with slew := v.slew, reels := v.reels.map ReelServo.warm, kv := v.kv }

/-- Table 4-5, warm reset. -/
def Capstan.warm (c : Capstan) : Capstan :=
  { Capstan.cold with source := c.source, m := c.m, d := c.d, ell := c.ell, w := c.w, rho := c.rho, vsHost := c.vsHost,
                      vs := clampInt (-1000) 1000 c.vsHost, present := c.source == .internal, lockChoice := c.lockChoice }

/-- Table 5-9, warm reset; the torque-available limits are set apart. -/
def Planner.warm (p : Planner) : Planner := { Planner.cold with vMax := p.vMax, aAcc := p.aAcc, aDec := p.aDec, guard := p.guard }

/-- R119, warm reset; the current zone is set apart. -/
def Zones.warm (z : Zones) : Zones := { Zones.cold with entries := z.entries, base := z.base }

/-- R127, warm reset. -/
def Cues.warm (c : Cues) : Cues := { Cues.cold with list := c.list.map fun q => { q with mark := .none } }

/-- R147, warm reset. -/
def Chase.warm (q : LocateParams) : Chase := { Chase.cold with lead := q.lead }

/-- Table 8-5, warm reset. -/
def FaultUnit.warm (f : FaultUnit) : FaultUnit := { FaultUnit.cold with linkTimeout := f.linkTimeout }

/-- Table 10-4, warm reset, before READY is posted. -/
def Link.warm (l : Link) : Link :=
  { Link.cold with levels := l.levels, telPeriod := l.telPeriod, telTimer := if l.telPeriod = 0 then none else some 0 }

/-! ## Entering a reset -/

/-- R17: no excitation (`excitation`), every counter idle. -/
def Sense.inReset (x : Sense) : Sense := { x with turn := none }

/-- R41: the pack records hold no window. -/
def Packs.inReset (x : Packs) : Packs :=
  { x with pack := x.pack.map fun k => { k with winDir := none, wAcc := 0, lAcc := 0 } }

/-- R72, R81, R147: the capstan is OFF, with drive code and trim 0. -/
def Capstan.inReset (c : Capstan) : Capstan := { c.stopped with trim := 0 }

/-- R110: a load, unload, engagement, motion or stop in flight is abandoned. (DEDUCED, log entry 5.) -/
def Planner.inReset (p : Planner) : Planner := { p.warm with torque := p.torque }

/-- While the part is held the reel drives are DISABLED (R65, R42), the capstan is OFF (R72), the brakes apply and the pinch opens
(R110), recording is inhibited (R118), the locate, chase or survey in flight has ended without a notice (R147, R179), a latched fault is
lost with its record (R160), a pending block or auto-stop record is empty (R117, R126), and the transmit pin stands idle (R191).
(DEDUCED, log entry 5.) -/
def enterReset (cause : ResetCause) (s : State) : State :=
  { s with
      sense := s.sense.inReset, packs := s.packs.inReset, servo := s.servo.disabled, capstan := s.capstan.inReset,
      planner := s.planner.inReset, zones := { s.zones with pendingBlock := none }, cues := { s.cues with pendingStop := none },
      locate := none, chase := .warm s.params, fault := s.fault.warm, survey := .cold, link := { s.link with tx := .idle },
      lines := s.lines.atReset, held := some cause }

/-- The cause of a reset during which RESET_IN is driven low (R190); for one begun by power-on the spec does not say. (DESIGN
CHOICE, log entry 16.) -/
def lineCause (held : Option ResetCause) : ResetCause :=
  match held with
  | some .powerOn => if Config.powerOnKeepsCause then .powerOn else .resetLine
  | _ => .resetLine

/-- POWER_ON: a cold reset begins (section 3.6). -/
def execPowerOn (s : State) : Host.Outcome State Fault Refusal := .next (enterReset .powerOn s)

/-- RESET_IN_ASSERT: a cold reset begins, or a reset in progress becomes one (R110, R190). -/
def execResetInAssert (s : State) : Host.Outcome State Fault Refusal :=
  .next (enterReset (lineCause s.held) (s.onLines fun l => { l with resetIn := true }))

/-- A RESET with the retain flag gives a warm reset, one without it the cold-reset values (R190). -/
def requestCause (retain : Bool) : ResetCause := if retain then .warm else .resetRequest

/-- The RESET reply that is being sent, with the retain flag it answered (R190). -/
def resetReplyGoing (l : Link) : Option Bool :=
  match l.tx with
  | .sendingReply r => if r.kind = 0x83 ∧ r.code = .ok then l.resetPending else none
  | _ => none

/-- R183: the transmitter has finished a frame, and the request queue goes on. -/
def frameFinished (s : State) : State :=
  match s.link.tx with
  | .idle => s
  | _ => dispatchHead (s.onLink fun l => txTake { l with tx := .idle })

/-- R183, R190: the last byte of a frame has been sent. -/
def frameSent (s : State) : State :=
  match resetReplyGoing s.link with
  | some retain => enterReset (requestCause retain) s
  | none => frameFinished s

/-- FRAME_SENT: R183, R190. -/
def execFrameSent (s : State) : Host.Outcome State Fault Refusal := whileRunning frameSent s

/-- RESET_AFTER_REPLY: the last byte of the RESET reply has been sent (R190). -/
def execResetAfterReply (s : State) : Host.Outcome State Fault Refusal :=
  whileRunning (fun s =>
    match resetReplyGoing s.link with
    | some retain => enterReset (requestCause retain) s
    | none => s) s

/-! ## The end of a reset -/

/-- Every block at its cold-reset values. -/
def coldBlocks (s : State) : State :=
  { s with
      sense := .cold, tach := .cold, packs := .cold, servo := .cold, capstan := .cold, planner := .cold, zones := .cold,
      cues := .cold, params := .cold, locate := none, chase := .cold, fault := .cold, monitor := .cold, survey := .cold,
      link := .cold }

/-- Every block at its warm-reset values. -/
def warmBlocks (s : State) : State :=
  { s with
      sense := s.sense.warm, tach := s.tach.warm, packs := s.packs.warm, servo := s.servo.warm, capstan := s.capstan.warm,
      planner := s.planner.warm, zones := s.zones.warm, cues := s.cues.warm, locate := none, chase := .warm s.params,
      fault := s.fault.warm, monitor := .cold, survey := .cold, link := s.link.warm }

/-- R65, R110, R119: the drive state from the line, the torque-available limits and the zone in force. -/
def settleReset (s : State) : State :=
  let s1 := s.onServo fun v => { v with reduced := s.lines.supplyLow }
  (recomputeLimits s1).onZones fun z => { z with index := zoneAt z s.tach.position }

/-- R190, R65, R160: READY, then what the lines bring about (DEDUCED, log entry 7): DRIVE before FAULT, of which the rules say only
that both follow READY. (DESIGN CHOICE, log entry 61.) -/
def announceReset (cause : ResetCause) (s : State) : State :=
  let s1 := postNotice (.ready cause s.tach.position s.tach.referenced) s
  let s2 := if s1.servo.reduced then postNotice (.drive true) s1 else s1
  if s2.lines.powerFail then takePowerFail s2 else s2

/-- The reset ends, with its cause. -/
def endReset (cause : ResetCause) (s : State) : State :=
  let s1 := if cause = .warm then warmBlocks s else coldBlocks s
  let s2 := { s1.onLines (fun l => { l.atReset with resetIn := false }) with held := none }
  announceReset cause (settleReset s2)

/-- RESET_END: R190. -/
def execResetEnd (s : State) : Host.Outcome State Fault Refusal :=
  .next (match s.held with
    | some cause => endReset cause s
    | none => s)

end Sys2Proof.Machine
end

