-- ==== Sys2Proof/Machine/SampleStep.lean ====
section
/-! DEFINITION. Machine/SampleStep.lean: the servo sample as a whole (R43): the servo, its conditions, the tension-lost latch,
the monitor sample and the survey sample that follow it; and the commands that name a threshold of it. -/

namespace Sys2Proof.Machine

/-- What the monitor sample takes from the servo sample (R162). -/
def sampleView (s : State) : SampleView :=
  { p := s.sense.arms.map (·.p), saturated := s.servo.reels.map (·.sat.isSome), vMeas := s.tach.vMeas }

/-- R43, R16, R162, R172: one servo sample, while the drives are ENABLED. (DESIGN CHOICE, log entry 51.) -/
def servoSample (s : State) : State :=
  if s.servo.enabled then
    let s1 := latchTension (sampleServo s)
    surveySample (monitorSample (sampleView s1) (giveConditions s1))
  else s

/-- SERVO_SAMPLE: R43. -/
def execServoSample (s : State) : Host.Outcome State Fault Refusal := whileRunning servoSample s

/-- A run stands below its bound before the sample and at it after. (DESIGN CHOICE, log entry 3.) -/
def runReaches (bound before after : Nat) : Bool := before < bound && after == bound

/-- The sample brings the saturation run of a reel to 800 (R59). (DESIGN CHOICE, log entry 3.) -/
def saturationFalls (r : Reel) (s : State) : Bool :=
  s.servo.enabled && runReaches 800 (s.servo.reels.get r).satRun ((sampleServo s).servo.reels.get r).satRun

/-- The sample brings the slack run of a reel to 8 (R60). -/
def slackFalls (r : Reel) (s : State) : Bool :=
  s.servo.enabled && runReaches 8 (s.servo.reels.get r).slackRun ((sampleServo s).servo.reels.get r).slackRun

/-- The sample brings the overtension run of a reel to 8 (R60). -/
def overtensionFalls (r : Reel) (s : State) : Bool :=
  s.servo.enabled && runReaches 8 (s.servo.reels.get r).overRun ((sampleServo s).servo.reels.get r).overRun

/-- SATURATION: the servo sample at which a reel's saturation run reaches 800 (R59). -/
def execSaturation (r : Reel) (s : State) : Host.Outcome State Fault Refusal :=
  whileRunning (fun s => if saturationFalls r s then servoSample s else s) s

/-- SLACK: the servo sample at which a reel's slack run reaches 8 (R60). -/
def execSlack (r : Reel) (s : State) : Host.Outcome State Fault Refusal :=
  whileRunning (fun s => if slackFalls r s then servoSample s else s) s

/-- OVERTENSION: the servo sample at which a reel's overtension run reaches 8 (R60). -/
def execOvertension (r : Reel) (s : State) : Host.Outcome State Fault Refusal :=
  whileRunning (fun s => if overtensionFalls r s then servoSample s else s) s

/-- The sample brings the phase count of SETTLE to 100 (R173). (DESIGN CHOICE, log entry 3.) -/
def surveySettleFalls (s : State) : Bool :=
  s.servo.enabled && s.survey.phase == some .settle && (servoSample s).survey.phase == some .count

/-- The entry of a step in a table was ended by its dwell or limit. -/
def endedAsCounted (t : List StepEntry) (k : Nat) : Bool :=
  match t[k]? with
  | some e => e.endedBy == some .dwell || e.endedBy == some .limit
  | none => false

/-- The sample ends the survey step in COUNT by its dwell or limit (R173, R174). (DESIGN CHOICE, log entry 3.) -/
def surveyStepFalls (s : State) : Bool :=
  s.servo.enabled && s.survey.phase == some .count && !endedAsCounted s.survey.table s.survey.k &&
    endedAsCounted (servoSample s).survey.table s.survey.k

/-- SURVEY_SETTLE_DONE: the servo sample at which the settle count reaches 100 (R173). -/
def execSurveySettleDone (s : State) : Host.Outcome State Fault Refusal :=
  whileRunning (fun s => if surveySettleFalls s then servoSample s else s) s

/-- SURVEY_STEP_END: the servo sample at which a step reaches its dwell or limit (R174). -/
def execSurveyStepEnd (s : State) : Host.Outcome State Fault Refusal :=
  whileRunning (fun s => if surveyStepFalls s then servoSample s else s) s

end Sys2Proof.Machine
end

