-- ==== Sys2Proof/Machine/Dispatch.lean ====
section
/-! DEFINITION. Machine/Dispatch.lean: one arm for each command, each one call of its meaning. -/

namespace Sys2Proof.Machine

def exec (i : Instr) (s : State) : Host.Outcome State Fault Refusal :=
  match i with
  | .powerOn => Sys2Proof.Machine.execPowerOn s
  | .resetInAssert => Sys2Proof.Machine.execResetInAssert s
  | .resetEnd => Sys2Proof.Machine.execResetEnd s
  | .frameReceived byte => Sys2Proof.Machine.execFrameReceived byte s
  | .interByteTimeout => Sys2Proof.Machine.execInterByteTimeout s
  | .requestUnknownKind kind tag payload => Sys2Proof.Machine.execRequestUnknownKind kind tag payload s
  | .requestBadLength kind tag payload => Sys2Proof.Machine.execRequestBadLength kind tag payload s
  | .frameSent => Sys2Proof.Machine.execFrameSent s
  | .telemetryTimerExpiry => Sys2Proof.Machine.execTelemetryTimerExpiry s
  | .resetAfterReply => Sys2Proof.Machine.execResetAfterReply s
  | .ping tag payload => Sys2Proof.Machine.execPing tag payload s
  | .getStatus tag => Sys2Proof.Machine.execGetStatus tag s
  | .reset tag retain => Sys2Proof.Machine.execReset tag retain s
  | .setNoticeLevel tag kind level => Sys2Proof.Machine.execSetNoticeLevel tag kind level s
  | .setTelemetry tag period => Sys2Proof.Machine.execSetTelemetry tag period s
  | .setLinkTimeout tag timeout => Sys2Proof.Machine.execSetLinkTimeout tag timeout s
  | .getFault tag => Sys2Proof.Machine.execGetFault tag s
  | .clearFault tag => Sys2Proof.Machine.execClearFault tag s
  | .setSense tag channel apply range cMin cMax tOn tOff suppress => Sys2Proof.Machine.execSetSense tag channel apply range cMin cMax tOn tOff suppress s
  | .setArmCal tag channel cCentre cFull => Sys2Proof.Machine.execSetArmCal tag channel cCentre cFull s
  | .setReel tag side apply hub flange jf f tauLim tauFs => Sys2Proof.Machine.execSetReel tag side apply hub flange jf f tauLim tauFs s
  | .setTape tag apply t kj tMin tNom tMax tThr tSpan => Sys2Proof.Machine.execSetTape tag apply t kj tMin tNom tMax tThr tSpan s
  | .setTension tag tension => Sys2Proof.Machine.execSetTension tag tension s
  | .setGains tag apply kpS kiS iMaxS kpT kiT iMaxT kv => Sys2Proof.Machine.execSetGains tag apply kpS kiS iMaxS kpT kiT iMaxT kv s
  | .setSlew tag sigma => Sys2Proof.Machine.execSetSlew tag sigma s
  | .setCapstan tag apply ell w rho => Sys2Proof.Machine.execSetCapstan tag apply ell w rho s
  | .setReference tag source m d => Sys2Proof.Machine.execSetReference tag source m d s
  | .setVarispeed tag vsHost => Sys2Proof.Machine.execSetVarispeed tag vsHost s
  | .setLockNotice tag choice => Sys2Proof.Machine.execSetLockNotice tag choice s
  | .load tag => Sys2Proof.Machine.execLoad tag s
  | .unload tag => Sys2Proof.Machine.execUnload tag s
  | .play tag => Sys2Proof.Machine.execPlay tag s
  | .wind tag speed => Sys2Proof.Machine.execWind tag speed s
  | .stop tag kind => Sys2Proof.Machine.execStop tag kind s
  | .setLimits tag apply vMax aAcc aDec guard => Sys2Proof.Machine.execSetLimits tag apply vMax aAcc aDec guard s
  | .presetPosition tag value => Sys2Proof.Machine.execPresetPosition tag value s
  | .positionFix tag value window => Sys2Proof.Machine.execPositionFix tag value window s
  | .setZone tag index enabled base k limit scale dirs inhibit => Sys2Proof.Machine.execSetZone tag index enabled base k limit scale dirs inhibit s
  | .clearZone tag index => Sys2Proof.Machine.execClearZone tag index s
  | .setBaseZone tag limit scale dirs inhibit => Sys2Proof.Machine.execSetBaseZone tag limit scale dirs inhibit s
  | .getZones tag => Sys2Proof.Machine.execGetZones tag s
  | .addCue tag id position kind label => Sys2Proof.Machine.execAddCue tag id position kind label s
  | .deleteCue tag id => Sys2Proof.Machine.execDeleteCue tag id s
  | .clearCues tag => Sys2Proof.Machine.execClearCues tag s
  | .getCues tag start count => Sys2Proof.Machine.execGetCues tag start count s
  | .locate tag targetKind position cueId thenPlay preroll approachDist approachSpeed tolerance => Sys2Proof.Machine.execLocate tag targetKind position cueId thenPlay preroll approachDist approachSpeed tolerance s
  | .chaseStart tag offset window lead paramFlag gain reseek freewheel => Sys2Proof.Machine.execChaseStart tag offset window lead paramFlag gain reseek freewheel s
  | .masterPosition tag position speed => Sys2Proof.Machine.execMasterPosition tag position speed s
  | .chaseStop tag => Sys2Proof.Machine.execChaseStop tag s
  | .setCounter tag counter apply event qualifier edge invert threshold ovfNotice enable => Sys2Proof.Machine.execSetCounter tag counter apply event qualifier edge invert threshold ovfNotice enable s
  | .readCounters tag clear => Sys2Proof.Machine.execReadCounters tag clear s
  | .freeze tag => Sys2Proof.Machine.execFreeze tag s
  | .unfreeze tag => Sys2Proof.Machine.execUnfreeze tag s
  | .resetCounters tag => Sys2Proof.Machine.execResetCounters tag s
  | .surveyStart tag start finish speed tension step stepCount dwell limitSource limitValue slackThr excThr fastFlag thres shift => Sys2Proof.Machine.execSurveyStart tag start finish speed tension step stepCount dwell limitSource limitValue slackThr excThr fastFlag thres shift s
  | .surveyAbort tag => Sys2Proof.Machine.execSurveyAbort tag s
  | .getSurvey tag start count => Sys2Proof.Machine.execGetSurvey tag start count s
  | .armMeasurementComplete reel count => Sys2Proof.Machine.execArmMeasurementComplete reel count s
  | .presenceMeasurementComplete count => Sys2Proof.Machine.execPresenceMeasurementComplete count s
  | .measurementStalled counter => Sys2Proof.Machine.execMeasurementStalled counter s
  | .rollerEdge dir => Sys2Proof.Machine.execRollerEdge dir s
  | .reelTachEdge reel winding => Sys2Proof.Machine.execReelTachEdge reel winding s
  | .predictionCountFull reel winding => Sys2Proof.Machine.execPredictionCountFull reel winding s
  | .packWindowComplete reel winding => Sys2Proof.Machine.execPackWindowComplete reel winding s
  | .packResync reel winding => Sys2Proof.Machine.execPackResync reel winding s
  | .speedSample => Sys2Proof.Machine.execSpeedSample s
  | .servoSample => Sys2Proof.Machine.execServoSample s
  | .saturation reel => Sys2Proof.Machine.execSaturation reel s
  | .slack reel => Sys2Proof.Machine.execSlack reel s
  | .overtension reel => Sys2Proof.Machine.execOvertension reel s
  | .supplyLowAssert => Sys2Proof.Machine.execSupplyLowAssert s
  | .supplyLowDeassert => Sys2Proof.Machine.execSupplyLowDeassert s
  | .driveRecoveryExpiry => Sys2Proof.Machine.execDriveRecoveryExpiry s
  | .capstanStep => Sys2Proof.Machine.execCapstanStep s
  | .capstanStall => Sys2Proof.Machine.execCapstanStall s
  | .capstanEncoderEdge dir => Sys2Proof.Machine.execCapstanEncoderEdge dir s
  | .capstanLockGained dir => Sys2Proof.Machine.execCapstanLockGained dir s
  | .capstanLockLost dir => Sys2Proof.Machine.execCapstanLockLost dir s
  | .refInEdge period => Sys2Proof.Machine.execRefInEdge period s
  | .internalReferenceEdge => Sys2Proof.Machine.execInternalReferenceEdge s
  | .referenceReturned period => Sys2Proof.Machine.execReferenceReturned period s
  | .referenceLost => Sys2Proof.Machine.execReferenceLost s
  | .plannerStep => Sys2Proof.Machine.execPlannerStep s
  | .brakeComplete => Sys2Proof.Machine.execBrakeComplete s
  | .pinchComplete => Sys2Proof.Machine.execPinchComplete s
  | .loadTakeUpDone => Sys2Proof.Machine.execLoadTakeUpDone s
  | .loadTimeout => Sys2Proof.Machine.execLoadTimeout s
  | .engageMatch => Sys2Proof.Machine.execEngageMatch s
  | .pinchCloseCommand => Sys2Proof.Machine.execPinchCloseCommand s
  | .engageTimeout => Sys2Proof.Machine.execEngageTimeout s
  | .brakingStandstill => Sys2Proof.Machine.execBrakingStandstill s
  | .locateUnitStep => Sys2Proof.Machine.execLocateUnitStep s
  | .locateSettled => Sys2Proof.Machine.execLocateSettled s
  | .chaseLocked tag position speed => Sys2Proof.Machine.execChaseLocked tag position speed s
  | .chaseLoss tag position speed => Sys2Proof.Machine.execChaseLoss tag position speed s
  | .chaseSilence => Sys2Proof.Machine.execChaseSilence s
  | .chaseMasterLost => Sys2Proof.Machine.execChaseMasterLost s
  | .powerFailAssert => Sys2Proof.Machine.execPowerFailAssert s
  | .powerFailDeassert => Sys2Proof.Machine.execPowerFailDeassert s
  | .linkSilence => Sys2Proof.Machine.execLinkSilence s
  | .surveySettleDone => Sys2Proof.Machine.execSurveySettleDone s
  | .surveyStepEnd => Sys2Proof.Machine.execSurveyStepEnd s
  | .byteReceived byte framingError => Sys2Proof.Machine.execByteReceived byte framingError s

end Sys2Proof.Machine
end

