-- ==== Sys2Proof/Safety.lean ====
section
/-! DEFINITION. Safety.lean: what a safe run of the part is, in the terms the statements use: which blocks a step may change, when a
request that arrives is dispatched at once, and the invariants that every step keeps. -/

namespace Sys2Proof.Machine

/-! ## Frames: what a step leaves as it was -/

/-- The blocks of the part (Table 0-1), the lines, the reset hold and the model's own fields: one name for each field of `State`. -/
inductive Block where
  | sense | tach | packs | servo | capstan | planner | zones | cues | params | locate | chase | fault | monitor | survey | link
  | lines | held | freeIndex | pending
  deriving DecidableEq, Repr

/-- One block reads the same in two states. -/
abbrev sameBlock (b : Block) (s t : State) : Prop :=
  match b with
  | .sense => t.sense = s.sense
  | .tach => t.tach = s.tach
  | .packs => t.packs = s.packs
  | .servo => t.servo = s.servo
  | .capstan => t.capstan = s.capstan
  | .planner => t.planner = s.planner
  | .zones => t.zones = s.zones
  | .cues => t.cues = s.cues
  | .params => t.params = s.params
  | .locate => t.locate = s.locate
  | .chase => t.chase = s.chase
  | .fault => t.fault = s.fault
  | .monitor => t.monitor = s.monitor
  | .survey => t.survey = s.survey
  | .link => t.link = s.link
  | .lines => t.lines = s.lines
  | .held => t.held = s.held
  | .freeIndex => t.freeIndex = s.freeIndex
  | .pending => t.pending = s.pending

/-- Every block that is not listed reads the same in both states. -/
def OnlyChanges (changed : List Block) (s t : State) : Prop := ∀ b, b ∈ changed ∨ sameBlock b s t

/-! ## The part held in a reset -/

/-- What a reset that begins at s leaves in t (log entry 5): no excitation and an idle presence counter (R17), no window in a pack
record (R41), the drives DISABLED with all that this clears (R42, R46, R61, R65), the capstan OFF with no trim (R72, R81, R147), the
planner at rest with the brakes at apply, the pinch open and recording inhibited (R110, R118), no locate, chase or survey (R147,
R179), no latched fault and no link timer running (R160), the pending records empty (R117, R126), the transmit pin idle (R191), and all
else as it was. -/
def HeldInReset (s t : State) : Prop :=
  OnlyChanges
      [.sense, .packs, .servo, .capstan, .planner, .zones, .cues, .locate, .chase, .fault, .survey, .link, .lines, .held] s t ∧
    t.held ≠ none ∧ (∀ ch, excitation t ch = .off) ∧ t.sense = { s.sense with turn := none } ∧
    t.packs = { s.packs with pack := t.packs.pack } ∧
    t.servo = { s.servo with enabled := false, tEff16 := 0, settled := false, reels := t.servo.reels } ∧
    (∀ r, t.packs.pack.get r = { s.packs.pack.get r with winDir := none, wAcc := 0, lAcc := 0 } ∧
      t.servo.reels.get r =
        { s.servo.reels.get r with integ := 0, sat := none, satRun := 0, slackRun := 0, overRun := 0, code := 0, tEst := 0 }) ∧
    t.capstan =
      { s.capstan with
        lock := .off, driveCode := 0, lockRun := 0, unlockRun := 0, quiet := 0, edgeSeen := false, frozenBase := none, trim := 0 } ∧
    t.planner.mode = .idle ∧ t.planner.sub = none ∧ t.planner.vRef = 0 ∧ t.planner.stopInForce = none ∧
    t.planner.drivesCmd = false ∧ t.planner.brake = .applied ∧ t.planner.pinch = .opened ∧
    t.zones = { s.zones with pendingBlock := none } ∧ t.cues = { s.cues with pendingStop := none } ∧
    t.locate = none ∧ t.chase.state = .off ∧ t.chase.master = none ∧ surveyRuns t.survey = false ∧
    t.fault.record = none ∧ t.fault.linkTimer = none ∧ t.fault.linkTimeout = s.fault.linkTimeout ∧
    t.link = { s.link with tx := .idle } ∧ t.lines.brakeS = true ∧ t.lines.brakeT = true ∧ t.lines.pinch = false ∧
    t.lines.recordInhibit = true ∧ t.lines.supplyLow = s.lines.supplyLow ∧ t.lines.powerFail = s.lines.powerFail

/-! ## Requests that are dispatched at once (R182) -/

/-- The part is held in no reset, no frame waits in the request queue, the reply buffer is empty and no reset is pending. -/
abbrev Ready (s : State) : Prop :=
  s.held = none ∧ s.link.queue = [] ∧ s.link.reply = none ∧ s.link.resetPending = none

/-- The reply is on the transmit pin, or waits in the reply buffer for the frame on it to end (R183). -/
abbrev Replies (t : State) (r : Reply) : Prop := t.link.tx = .sendingReply r ∨ t.link.reply = some r

/-- The command answers next: the state `s1` with a reply handed to the transmitter (R182, R183). -/
def Answered (c : Instr) (s : State) (kind tag : Byte) (code : ResultCode) (body : List Byte) (s1 : State) : Prop :=
  exec c s = .next (s1.onLink fun l => txTake { l with reply := some { kind := kind, tag := tag, code := code, body := body } })

/-- The command answers next with a refusal: nothing is changed but the link timer, which every good frame restarts where it counts
(R157), and the reply carries the result code alone (R195). -/
abbrev Refuses (c : Instr) (s : State) (kind tag : Byte) (code : ResultCode) : Prop :=
  Answered c s kind tag code [] (restartLinkTimer s)

/-- Commands carried out one after another, to the first that answers no next state. -/
def runAll : List Instr → State → Host.Outcome State Fault Refusal
  | [], s => .next s
  | c :: rest, s =>
    match exec c s with
    | .next t => runAll rest t
    | o => o

/-- One millisecond of a timer, from s to t: one that does not run changes nothing, one below its bound counts 1, and one that
reaches its bound does what its row of the command table does. -/
def TimerMs (value : State → Option Nat) (bound : Nat) (counted : Nat → State → State) (expiry : Instr) (s t : State) : Prop :=
  (value s = none → t = s) ∧
    ∀ n, value s = some n → (n + 1 < bound → t = counted (n + 1) s) ∧ (bound ≤ n + 1 → exec expiry s = .next t)

/-- A notice is on the transmit pin or in the notice queue. -/
abbrev Posted (t : State) (n : Notice) : Prop := t.link.tx = .sendingNotice n ∨ ∃ q ∈ t.link.notices, q.notice = n

/-! ## What several statements say -/

/-- R164, R167: one occurrence of an event is counted: nothing where the monitor is frozen, and otherwise 1 more, modulo 2^32, in each
enabled counter that selects the event and whose qualifier admits it. -/
def CountsWhere (admits : Qualifier → Bool) (ev : MonEvent) (s t : State) : Prop :=
  (s.monitor.frozen = true → t.monitor = s.monitor) ∧
    (s.monitor.frozen = false → ∀ n < 4, (t.monitor.counters.get n).value =
      if (s.monitor.counters.get n).enable ∧ (s.monitor.counters.get n).event = ev ∧
          admits (s.monitor.counters.get n).qualifier = true then
        ((s.monitor.counters.get n).value + 1) % 4294967296
      else (s.monitor.counters.get n).value)

/-- One occurrence of an event of the whole transport, which every qualifier but the empty one admits (R164). -/
abbrev CountsOnce (ev : MonEvent) (s t : State) : Prop := CountsWhere (fun q => !q.empty) ev s t

/-- The command posts the notice, and no other unless a count freezes the monitor, which then posts its own (R165, R183). -/
def PostsUnlessFreezing (n : Notice) (s t : State) : Prop :=
  t.monitor.frozen = s.monitor.frozen → t.link = txTake (enqueueNotice n s.link)

/-- R132, R133, R134, R136: the command ends a host's locate: LOCATE_DONE with the outcome, then the mode, with cause LOCATE: HOLD if v_ref
is 0 or the locate is DONE, and otherwise a CONTROLLED stop. -/
def LocateEnds (c : Instr) (s : State) (l : LocateRec) (outcome : LocateOutcome) : Prop :=
  ∃ t, exec c s = .next t ∧
    OnlyChanges [.planner, .zones, .cues, .locate, .lines, .fault, .link] s t ∧ t.locate = none ∧
    t.planner.goal = 0 ∧ t.planner.vRef = s.planner.vRef ∧ t.planner.pinch.commandedClosed = false ∧
    t.fault.record = s.fault.record ∧
    (s.planner.vRef = 0 ∨ outcome = .done →
      t.planner.mode = .hold ∧ t.planner.stopInForce = none ∧ t.planner.stopCause = none ∧ t.zones = s.zones ∧
        t.cues = s.cues) ∧
    (s.planner.vRef ≠ 0 → outcome ≠ .done →
      t.planner.mode = .stopping ∧ t.planner.stopInForce = some .controlled ∧ t.planner.stopCause = some .locate ∧
        t.zones = { s.zones with pendingBlock := none } ∧ t.cues = { s.cues with pendingStop := none }) ∧
    t.link = txTake (enqueueNotice (.mode t.planner.mode none .locate t.planner.stopInForce .locate) (txTake (enqueueNotice
      (.locateDone outcome l.target l.aim s.tach.position (s.tach.position - l.aim) l.attempts false) s.link)))

/-- R146: the command ends a chase by the unit's own doing: OFF with no trim, no record and no locate of its own, the CHASE notice with
the cause, then the mode, with cause CHASE: HOLD if v_ref is 0, and otherwise a CONTROLLED stop. That the CHASE notice comes before the
MODE notice is the model's reading (DEDUCED, log entry 69). -/
def ChaseEnds (c : Instr) (s : State) (cause : ChaseCause) : Prop :=
  ∃ t, exec c s = .next t ∧
    OnlyChanges [.planner, .zones, .cues, .locate, .chase, .capstan, .lines, .fault, .link] s t ∧ t.chase.state = .off ∧
    t.chase.master = none ∧ t.chase.silence = none ∧ t.capstan = { s.capstan with trim := 0 } ∧
    t.locate = s.locate.filter (fun l => l.owner ≠ .chase) ∧
    t.planner.mode = (if s.planner.vRef = 0 then .hold else .stopping) ∧
    t.planner.stopInForce = (if s.planner.vRef = 0 then none else some .controlled) ∧
    t.planner.goal = 0 ∧ t.planner.vRef = s.planner.vRef ∧ t.planner.pinch.commandedClosed = false ∧
    t.fault.record = s.fault.record ∧
    t.link = txTake (enqueueNotice
      (.mode t.planner.mode none .chase t.planner.stopInForce .chase)
      (txTake (enqueueNotice (.chase .off s.chase.state cause s.chase.e 0 s.chase.lead s.chase.doublings) s.link)))

/-- A link after some notices have been posted, one after another (R183, R184). -/
def Link.posted (l : Link) (notices : List Notice) : Link := notices.foldl (fun x n => txTake (enqueueNotice n x)) l

/-- The forward zone boundaries that forbid forward all lie farther off than the tape needs to stop with the pinch OPEN (R106). -/
abbrev ForwardPathClear (s : State) : Prop :=
  ∀ b ∈ forbiddingAhead s.zones .forward s.tach.position,
    divCeil ((mag s.planner.vRef / 1000) ^ 2 * 40) (aDecEff s .forward) < (mag (b - s.tach.position) - s.planner.guard : Nat)

/-- R94, R142: the match timer's expiry stops the tape: from s, in ENGAGING or in the RUNUP of a chase, to t, in a CONTROLLED stop with
cause ENGAGE_FAILED, the pinch OPEN. The chase that owned the run-up is OFF, with no trim, no record and no locate of its own, and its
CHASE notice comes before the MODE notice (DEDUCED, log entry 69). That the timer stops and the match run is kept is the model's choice
(DESIGN CHOICE, log entry 81). -/
def EngagementFails (s t : State) : Prop :=
  t.planner =
      { s.planner with
        mode := .stopping, sub := none, stopInForce := some .controlled, stopCause := some .engageFailed, goal := 0
        matchTimer := none, unitPoints := [], autoStopCap := false } ∧
    t.zones = { s.zones with pendingBlock := none } ∧ t.cues = { s.cues with pendingStop := none } ∧
    t.fault.record = s.fault.record ∧
    (s.planner.mode = .engaging →
      OnlyChanges [.planner, .zones, .cues, .lines, .fault, .link] s t ∧
      t.link = s.link.posted [.mode .stopping none .engaging (some .controlled) .engageFailed]) ∧
    (s.planner.mode = .chase →
      OnlyChanges [.planner, .zones, .cues, .locate, .chase, .capstan, .lines, .fault, .link] s t ∧
      t.chase = { s.chase with state := .off, master := none, silence := none } ∧ t.capstan = { s.capstan with trim := 0 } ∧
      t.locate = s.locate.filter (fun l => l.owner ≠ .chase) ∧
      t.link = s.link.posted
        [.chase .off .runup .engageFailed s.chase.e 0 s.chase.lead s.chase.doublings,
         .mode .stopping none .chase (some .controlled) .engageFailed])

/-- R176: a step in progress, the last of the table, is recorded with its counts so far; an empty table stays empty. -/
def StepClosed (by_ : EndedBy) (before after : List StepEntry) : Prop :=
  (before = [] ∧ after = []) ∨
    ∃ done e, before = done ++ [e] ∧ e.endedBy = none ∧ after = done ++ [{ e with endedBy := some by_ }]

/-- R176: a survey's own ending leads from s to t: ENDED with its outcome, its reason, its table and the floor of that table, no step
tension, and counters 2 and 3 released. Then the mode, with cause SURVEY: HOLD if v_ref is 0, and otherwise a CONTROLLED stop. After the
notices given, SURVEY_DONE and MODE are posted, and no other unless a count freezes the monitor. The blocks given are those that the
command changes besides. R176 names neither k nor the step phase: that k is kept is the model's choice (DESIGN CHOICE, log entry 66), and
that the phase is absent after the end is its reading of Table 9-4 (DEDUCED, log entry 41). -/
def SurveyEnds (also : List Block) (first : List Notice) (outcome : SurveyOutcome) (reason : Option AbortReason)
    (table : List StepEntry) (s t : State) : Prop :=
  t.survey.state = .ended ∧ t.survey.outcome = some outcome ∧ t.survey.reason = reason ∧ t.survey.table = table ∧
    t.survey.floor = surveyFloor table ∧ t.survey.phase = none ∧ t.survey.stepTension = none ∧
    t.survey.request = s.survey.request ∧ t.survey.k = s.survey.k ∧
    (∀ n, n = 2 ∨ n = 3 → (t.monitor.counters.get n).enable = false ∧ (t.monitor.counters.get n).holder = .host) ∧
    (s.planner.mode = .survey → s.planner.stopInForce = none →
      OnlyChanges (also ++ [.planner, .zones, .cues, .locate, .monitor, .survey, .lines, .fault, .link]) s t ∧
      t.locate = s.locate.filter (fun l => l.owner ≠ .survey) ∧
      t.planner.mode = (if s.planner.vRef = 0 then .hold else .stopping) ∧
      t.planner.stopInForce = (if s.planner.vRef = 0 then none else some .controlled) ∧
      (s.planner.vRef ≠ 0 → t.planner.stopCause = some .survey) ∧ t.planner.goal = 0 ∧ t.planner.vRef = s.planner.vRef ∧
      t.planner.pinch.commandedClosed = false ∧ t.fault.record = s.fault.record ∧
      (t.monitor.frozen = s.monitor.frozen →
        t.link = s.link.posted
          (first ++
            [.surveyDone (some outcome) reason table.length (surveyFloor table) t.tach.position,
             .mode t.planner.mode none .survey t.planner.stopInForce .survey])))

/-! ## Invariants -/

/-- R118: the RECORD_INHIBIT line says what the zone in force, the mode and the chase state give. -/
abbrev InhibitFollows (s : State) : Prop := s.held = none → s.lines.recordInhibit = inhibitLevel s

/-- R113, R114: the current zone is the zone in force at the position. -/
abbrev ZoneInForce (s : State) : Prop := s.held = none → s.zones.index = zoneAt s.zones s.tach.position

/-- R83, R84: the brake and pinch lines say what the planner has commanded. -/
abbrev LinesFollow (s : State) : Prop :=
  s.held = none →
    s.lines.brakeS = s.planner.brake.commandedApplied ∧ s.lines.brakeT = s.planner.brake.commandedApplied ∧
      s.lines.pinch = s.planner.pinch.commandedClosed

/-- R42, R85: with the reel drives DISABLED both drive codes are 0; and they are disabled, the brakes commanded applied and the
pinch commanded open in the modes in which the brakes hold the reels. -/
abbrev DrivesSafe (s : State) : Prop :=
  (s.servo.enabled = false → s.servo.reels.supply.code = 0 ∧ s.servo.reels.takeup.code = 0) ∧
    (s.planner.mode = .idle ∨ s.planner.mode = .braking ∨ s.planner.mode = .braked →
      s.servo.enabled = false ∧ s.planner.brake.commandedApplied = true ∧ s.planner.pinch.commandedClosed = false)

/-- R69, R70, R72, R143: varispeed, trim and applied varispeed lie in their ranges, and a capstan that is OFF gets no drive. -/
abbrev CapstanInRange (s : State) : Prop :=
  -1000 ≤ s.capstan.vsHost ∧ s.capstan.vsHost ≤ 1000 ∧ -200 ≤ s.capstan.trim ∧ s.capstan.trim ≤ 200 ∧
    -1000 ≤ s.capstan.vs ∧ s.capstan.vs ≤ 1000 ∧ (s.capstan.lock = .off → s.capstan.driveCode = 0)

/-- An accepted RESET's reply (R182, R190). -/
def Reply.grantsReset (r : Reply) : Bool := r.kind == 0x83 && r.code == .ok

def Transmitter.grantsReset (x : Transmitter) : Bool :=
  match x with
  | .sendingReply r => r.grantsReset
  | _ => false

/-- R181 to R183, R190: an idle transmitter leaves nothing waiting; a frame waits only behind a waiting reply; the queue holds at
most four; and a pending reset has an empty queue and its OK reply, kind 0x83, on its way. -/
abbrev LinkServed (s : State) : Prop :=
  s.link.queue.length ≤ 4 ∧
    (s.held = none →
      (s.link.tx = .idle → s.link.reply = none ∧ s.link.notices = []) ∧
        (s.link.queue ≠ [] → s.link.reply ≠ none) ∧
        (s.link.resetPending ≠ none →
          s.link.queue = [] ∧ (s.link.reply.any Reply.grantsReset = true ∨ s.link.tx.grantsReset = true)))

/-- The order of the notice queue: highest priority first, oldest first within a priority (R184). -/
abbrev noticeBefore (x y : QueuedNotice) : Prop := y.priority < x.priority ∨ (x.priority = y.priority ∧ x.age < y.age)

/-- R184 to R186: at most 16 notices, in order, no two of one age, never two of one state kind, each at its kind's level, which is
not 0. -/
abbrev NoticesOrdered (l : Link) : Prop :=
  l.notices.length ≤ 16 ∧ l.notices.Pairwise noticeBefore ∧ l.notices.Pairwise (fun x y => x.age ≠ y.age) ∧
    (∀ x ∈ l.notices, x.age < l.nextAge ∧ x.priority = l.levelOf x.notice.kind ∧ x.priority ≠ 0) ∧
    l.notices.Pairwise (fun x y => x.notice.kind = y.notice.kind → x.notice.kind.isState = false)

/-- R120: at most 32 cues, in ascending order of position, with distinct ids of 1 to 250, positions in range and labels of at
most 12 printable characters. -/
abbrev CuesOrdered (l : List Cue) : Prop :=
  l.length ≤ 32 ∧ l.Pairwise (fun x y => x.position < y.position) ∧ l.Pairwise (fun x y => x.id ≠ y.id) ∧
    ∀ c ∈ l, 1 ≤ c.id ∧ c.id ≤ 250 ∧ positionOk c.position = true ∧ c.label.length ≤ 12 ∧ c.label.all printable = true

/-- R111: eight entries, each with k in 12 to 28, a base in range and aligned to 2^k, a limit in 100 to 12 000 and a scale in
25 to 100. -/
abbrev ZonesInRange (z : Zones) : Prop :=
  z.entries.length = 8 ∧ (∀ e ∈ z.entries, 12 ≤ e.k ∧ e.k ≤ 28 ∧ positionOk e.base = true ∧ e.base % 2 ^ e.k = 0 ∧
      100 ≤ e.attrs.limit ∧ e.attrs.limit ≤ 12000 ∧ 25 ≤ e.attrs.scale ∧ e.attrs.scale ≤ 100) ∧
    100 ≤ z.base.limit ∧ z.base.limit ≤ 12000 ∧ 25 ≤ z.base.scale ∧ z.base.scale ≤ 100

/-- The modes a latched fault leaves the transport in: at rest, or on the way there (R86, R98, R149). -/
def Mode.safeWithFault (m : Mode) : Bool :=
  match m with
  | .idle | .hold | .stopping | .unloading | .braking | .braked => true
  | _ => false

/-- R96, R98, R128, R137, R170: a unit's operation runs exactly in its mode, and a locate runs in the state of its owner that
uses one; a stop is in force exactly in STOPPING and BRAKING; and with a fault latched no motion but a stop runs. -/
abbrev UnitsOwnModes (s : State) : Prop :=
  (s.planner.mode = .chase ↔ s.chase.state ≠ .off) ∧
    (s.planner.mode = .survey ↔ surveyRuns s.survey = true) ∧
    (s.planner.mode = .locate ↔ s.locate.map (·.owner) = some .host) ∧
    (s.locate.map (·.owner) = some .chase → s.chase.state = .seek) ∧
    (s.locate.map (·.owner) = some .survey ↔ s.survey.state = .positioning) ∧
    (s.planner.stopInForce ≠ none ↔ s.planner.mode = .stopping ∨ s.planner.mode = .braking) ∧
    (s.fault.record ≠ none → s.planner.mode.safeWithFault = true)

/-- R149, R150, R153: at most three secondaries, no condition listed twice, one lost only when three are listed, and no
POWER_FAIL remembered without a record. -/
abbrev FaultRecordSound (f : FaultUnit) : Prop :=
  (f.record = none → f.powerFailTaken = false) ∧
    ∀ r ∈ f.record, r.secondaries.length ≤ 3 ∧ (r.primary :: r.secondaries).Pairwise (fun x y => x ≠ y) ∧
      (r.lost = true → r.secondaries.length = 3)

/-- Every invariant at once. -/
def Safe (s : State) : Prop :=
  InhibitFollows s ∧ ZoneInForce s ∧ LinesFollow s ∧ DrivesSafe s ∧ CapstanInRange s ∧ LinkServed s ∧ NoticesOrdered s.link ∧
    CuesOrdered s.cues.list ∧ ZonesInRange s.zones ∧ UnitsOwnModes s ∧ FaultRecordSound s.fault

end Sys2Proof.Machine
end

