-- ==== Sys2Proof/WellFormed.lean ====
section
/-! DEFINITION. WellFormed.lean: which terms of `Instr` are commands that can reach the part. A request's fields
fit the widths of Table 11-4, a PING has at most 8 payload bytes, an ADD_CUE label fits a frame, a frame dispatched as
UNKNOWN_KIND or BAD_LENGTH is of such a kind or length and is a frame the host may send, and a completed measurement
has a count of 1 to 48 000 (R2). -/

namespace Sys2Proof

def fitsU8 (n : Nat) : Bool := n < 256
def fitsU16 (n : Nat) : Bool := n < 65536
def fitsU32 (n : Nat) : Bool := n < 4294967296
def fitsS8 (x : Int) : Bool := -128 ≤ x && x < 128
def fitsS16 (x : Int) : Bool := -32768 ≤ x && x < 32768
def fitsS32 (x : Int) : Bool := -2147483648 ≤ x && x < 2147483648

/-- A completed count always lies in 1 to 48 000 (R2). -/
def countOk (c : Nat) : Bool := 1 ≤ c && c ≤ 48000

def Instr.wf (c : Instr) : Bool :=
  match c with
  | .requestUnknownKind kind _ p => kind.toNat < 0x80 && p.length ≤ 120 && (lengthAllowed kind.toNat p).isNone
  | .requestBadLength kind _ p => p.length ≤ 120 && (lengthAllowed kind.toNat p == some false)
  | .ping _ p => p.length ≤ 8
  | .addCue _ id position kind label => fitsU8 id && fitsS32 position && fitsU8 kind && label.length ≤ 113
  | .armMeasurementComplete _ count => countOk count
  | .presenceMeasurementComplete count => countOk count
  | .chaseLocked _ position speed => fitsS32 position && fitsS16 speed
  | .chaseLoss _ position speed => fitsS32 position && fitsS16 speed
  | .reset _ retain =>
      fitsU8 retain
  | .setNoticeLevel _ kind level =>
      fitsU8 kind && fitsU8 level
  | .setTelemetry _ period =>
      fitsU16 period
  | .setLinkTimeout _ timeout =>
      fitsU16 timeout
  | .setSense _ channel apply range cMin cMax tOn tOff suppress =>
      fitsU8 channel && fitsU8 apply && fitsU8 range && fitsU16 cMin && fitsU16 cMax && fitsU16 tOn &&
      fitsU16 tOff && fitsU8 suppress
  | .setArmCal _ channel cCentre cFull =>
      fitsU8 channel && fitsU16 cCentre && fitsU16 cFull
  | .setReel _ side apply hub flange jf f tauLim tauFs =>
      fitsU8 side && fitsU8 apply && fitsU32 hub && fitsU32 flange && fitsU16 jf && fitsU16 f &&
      fitsU16 tauLim && fitsU16 tauFs
  | .setTape _ apply t kj tMin tNom tMax tThr tSpan =>
      fitsU8 apply && fitsU8 t && fitsU32 kj && fitsU16 tMin && fitsU16 tNom && fitsU16 tMax &&
      fitsU16 tThr && fitsU16 tSpan
  | .setTension _ tension =>
      fitsU16 tension
  | .setGains _ apply kpS kiS iMaxS kpT kiT iMaxT kv =>
      fitsU8 apply && fitsU16 kpS && fitsU8 kiS && fitsU32 iMaxS && fitsU16 kpT && fitsU8 kiT &&
      fitsU32 iMaxT && fitsU16 kv
  | .setSlew _ sigma =>
      fitsU8 sigma
  | .setCapstan _ apply ell w rho =>
      fitsU8 apply && fitsU32 ell && fitsU8 w && fitsU8 rho
  | .setReference _ source m d =>
      fitsU8 source && fitsU16 m && fitsU16 d
  | .setVarispeed _ vsHost =>
      fitsS16 vsHost
  | .setLockNotice _ choice =>
      fitsU8 choice
  | .wind _ speed =>
      fitsS16 speed
  | .stop _ kind =>
      fitsU8 kind
  | .setLimits _ apply vMax aAcc aDec guard =>
      fitsU8 apply && fitsU16 vMax && fitsU16 aAcc && fitsU16 aDec && fitsU32 guard
  | .presetPosition _ value =>
      fitsS32 value
  | .positionFix _ value window =>
      fitsS32 value && fitsU16 window
  | .setZone _ index enabled base k limit scale dirs inhibit =>
      fitsU8 index && fitsU8 enabled && fitsS32 base && fitsU8 k && fitsU16 limit && fitsU8 scale &&
      fitsU8 dirs && fitsU8 inhibit
  | .clearZone _ index =>
      fitsU8 index
  | .setBaseZone _ limit scale dirs inhibit =>
      fitsU16 limit && fitsU8 scale && fitsU8 dirs && fitsU8 inhibit
  | .deleteCue _ id =>
      fitsU8 id
  | .getCues _ start count =>
      fitsU8 start && fitsU8 count
  | .locate _ targetKind position cueId thenPlay preroll approachDist approachSpeed tolerance =>
      fitsU8 targetKind && fitsS32 position && fitsU8 cueId && fitsU8 thenPlay && fitsU32 preroll &&
      fitsU32 approachDist && fitsU16 approachSpeed && fitsU16 tolerance
  | .chaseStart _ offset window lead paramFlag gain reseek freewheel =>
      fitsS32 offset && fitsU16 window && fitsU16 lead && fitsU8 paramFlag && fitsU16 gain &&
      fitsU32 reseek && fitsU16 freewheel
  | .masterPosition _ position speed =>
      fitsS32 position && fitsS16 speed
  | .setCounter _ counter apply event qualifier edge invert threshold ovfNotice enable =>
      fitsU8 counter && fitsU8 apply && fitsU8 event && fitsU8 qualifier && fitsU8 edge &&
      fitsU8 invert && fitsU16 threshold && fitsU8 ovfNotice && fitsU8 enable
  | .readCounters _ clear =>
      fitsU8 clear
  | .surveyStart _ start finish speed tension step stepCount dwell limitSource limitValue slackThr excThr fastFlag thres shift =>
      fitsS32 start && fitsS32 finish && fitsU16 speed && fitsU16 tension && fitsS8 step &&
      fitsU8 stepCount && fitsU16 dwell && fitsU8 limitSource && fitsU32 limitValue &&
      fitsU16 slackThr && fitsU16 excThr && fitsU8 fastFlag && fitsU8 thres && fitsU8 shift
  | .getSurvey _ start count =>
      fitsU8 start && fitsU8 count
  | .powerOn => true
  | .resetInAssert => true
  | .resetEnd => true
  | .frameReceived _ => true
  | .interByteTimeout => true
  | .frameSent => true
  | .telemetryTimerExpiry => true
  | .resetAfterReply => true
  | .getStatus _ => true
  | .getFault _ => true
  | .clearFault _ => true
  | .load _ => true
  | .unload _ => true
  | .play _ => true
  | .getZones _ => true
  | .clearCues _ => true
  | .chaseStop _ => true
  | .freeze _ => true
  | .unfreeze _ => true
  | .resetCounters _ => true
  | .surveyAbort _ => true
  | .measurementStalled _ => true
  | .rollerEdge _ => true
  | .reelTachEdge _ _ => true
  | .predictionCountFull _ _ => true
  | .packWindowComplete _ _ => true
  | .packResync _ _ => true
  | .speedSample => true
  | .servoSample => true
  | .saturation _ => true
  | .slack _ => true
  | .overtension _ => true
  | .supplyLowAssert => true
  | .supplyLowDeassert => true
  | .driveRecoveryExpiry => true
  | .capstanStep => true
  | .capstanStall => true
  | .capstanEncoderEdge _ => true
  | .capstanLockGained _ => true
  | .capstanLockLost _ => true
  | .refInEdge _ => true
  | .internalReferenceEdge => true
  | .referenceReturned _ => true
  | .referenceLost => true
  | .plannerStep => true
  | .brakeComplete => true
  | .pinchComplete => true
  | .loadTakeUpDone => true
  | .loadTimeout => true
  | .engageMatch => true
  | .pinchCloseCommand => true
  | .engageTimeout => true
  | .brakingStandstill => true
  | .locateUnitStep => true
  | .locateSettled => true
  | .chaseSilence => true
  | .chaseMasterLost => true
  | .powerFailAssert => true
  | .powerFailDeassert => true
  | .linkSilence => true
  | .surveySettleDone => true
  | .surveyStepEnd => true
  | .byteReceived _ _ => true

end Sys2Proof
end

