-- ==== Sys2Proof/Certificates/Slice0/Obligations.lean ====
section
/-! DEFINITION. Obligations.lean: the statements for the provers. `Ready s` says that a request which arrives at `s` is dispatched
at once (R182); what happens to one that is not is Obligations.RequestsWaitTheirTurn. -/

open Sys2Proof Sys2Proof.Machine

/-! ## The step, the clock, every command -/

/-- One step is `exec` of the command at the front, on the state with the queue's rest. With no command waiting a millisecond
passes. Held in a reset the part does nothing then. Running, its three timers that count in ms are taken in turn: the recovery timer,
which expires at 1 000 ms (R63), the telemetry timer, at the telemetry period (R187), and the link timer, at the link timeout (R157,
R158). A timer that runs counts 1, and the ms that brings it to its bound does what its row does (DRIVE_RECOVERY_EXPIRY,
TELEMETRY_TIMER_EXPIRY, LINK_SILENCE); a timer that does not run changes nothing, and nothing else happens. The millisecond of an empty
queue, with the order of the timers in it and none in a reset, is the model’s choice (log entry 1). -/
def Obligations.StepTakesTheFrontCommand : Prop :=
  (∀ (c : Instr) (rest : List Instr) (s : State), s.pending = c :: rest → step s = exec c { s with pending := rest }) ∧
    ∀ s : State, s.pending = [] →
      (s.held ≠ none → step s = .next s) ∧
      (s.held = none → ∃ a b t, step s = .next t ∧
        TimerMs (·.servo.recovery) 1000 (fun n x => x.onServo fun v => { v with recovery := some n }) .driveRecoveryExpiry s a ∧
        TimerMs (·.link.telTimer) s.link.telPeriod (fun n x => x.onLink fun l => { l with telTimer := some n })
          .telemetryTimerExpiry a b ∧
        TimerMs (·.fault.linkTimer) s.fault.linkTimeout (fun n x => x.onFault fun f => { f with linkTimer := some n }) .linkSilence
          b t)

/-- Every command, on every state and with every operand, answers a next state, and leaves the commands that wait as they are. -/
def Obligations.EveryCommandCompletes : Prop := ∀ (c : Instr) (s : State), ∃ t, exec c s = .next t ∧ t.pending = s.pending

/-! ## Frames and bytes -/

/-- The link reads from the frame of a well-formed request the request itself: no field of any of them is dropped or moved. -/
def Obligations.DecodeReadsWhatEncodeWrites : Prop :=
  ∀ (c : Instr) (f : Frame), c.wf = true → encodeFrame c = some f → decodeFrame f = c

/-- A hunting assembler that receives the bytes of a well-formed request's frame, one by one, does what the request's command
does: from every state in which the part runs. That the row is the arrival of the whole frame is the model’s choice (log entry
2). -/
def Obligations.ARequestIsItsBytes : Prop :=
  ∀ (c : Instr) (f : Frame) (s : State), c.wf = true → encodeFrame c = some f → s.held = none → s.link.assembler = none →
    runAll ((frameBytes f.kind f.tag f.payload).map fun b => .byteReceived b false) s = exec c s

/-- What a byte does to the assembler (R180). Hunting, only a start byte begins a frame, and only one that has its stop bit (that one with
a framing error begins none is inferred, log entry 67). In a frame a
missing stop bit or a length byte above 120 discards it, and any byte before the check byte is taken. The last byte
completes a good frame, which goes to the request queue, or discards a bad one. FRAME_RECEIVED is such a last byte. A frame
that is discarded, by INTER_BYTE_TIMEOUT among others, leaves the assembler hunting and fires LINK_REJECTS once (R180):
every enabled counter that selects it with a non-empty qualifier gains 1, unless the monitor is FROZEN. Nothing else but the
link (a COUNTER_OVERFLOW notice) changes. -/
def Obligations.TheAssemblerTakesBytes : Prop :=
  (∀ (b : Byte) (e : Bool) (s : State), s.held = none →
     (s.link.assembler = none → b = 0xA5 → e = false →
       exec (.byteReceived b e) s = .next (s.onLink fun l => { l with assembler := some [] })) ∧
     (s.link.assembler = none → ¬(b = 0xA5 ∧ e = false) → exec (.byteReceived b e) s = .next s) ∧
     ∀ l, s.link.assembler = some l →
       (e = true → exec (.byteReceived b e) s = .next (discardFrame s)) ∧
       (e = false → 120 < ((l ++ [b]).headD 0).toNat → exec (.byteReceived b e) s = .next (discardFrame s)) ∧
       (e = false → ((l ++ [b]).headD 0).toNat ≤ 120 → l.length + 1 < ((l ++ [b]).headD 0).toNat + 4 →
         exec (.byteReceived b e) s = .next (s.onLink fun x => { x with assembler := some (l ++ [b]) })) ∧
       (e = false → ((l ++ [b]).headD 0).toNat ≤ 120 → ((l ++ [b]).headD 0).toNat + 4 ≤ l.length + 1 →
         byteSum (l ++ [b]) % 256 ≠ 0 → exec (.byteReceived b e) s = .next (discardFrame s)) ∧
       (e = false → ((l ++ [b]).headD 0).toNat ≤ 120 → ((l ++ [b]).headD 0).toNat + 4 ≤ l.length + 1 →
         byteSum (l ++ [b]) % 256 = 0 →
           exec (.byteReceived b e) s =
             .next (frameArrives { kind := (l ++ [b]).getD 1 0, tag := (l ++ [b]).getD 2 0, payload := ((l ++ [b]).drop 3).dropLast }
               (s.onLink fun x => { x with assembler := none }))) ∧
       exec (.frameReceived b) s = exec (.byteReceived b false) s) ∧
  (∀ (l : List Byte) (s : State), s.held = none → s.link.assembler = some l →
     ∃ t, exec .interByteTimeout s = .next t ∧ t = discardFrame s ∧ OnlyChanges [.monitor, .link] s t ∧ t.link.assembler = none ∧
       t.link.queue = s.link.queue ∧ t.link.framesDropped = s.link.framesDropped ∧
       (s.monitor.frozen = true → t.monitor = s.monitor) ∧
       (s.monitor.frozen = false → ∀ n < 4,
         (t.monitor.counters.get n).value =
           if (s.monitor.counters.get n).enable ∧ (s.monitor.counters.get n).event = .linkRejects ∧
               (s.monitor.counters.get n).qualifier.empty = false then
             ((s.monitor.counters.get n).value + 1) % 4294967296
           else (s.monitor.counters.get n).value))

/-- A request that may not be dispatched at once (R181, R182). Held in a reset, the part takes none. While a reset is pending it
is discarded. Behind a reply that waits for a busy transmitter it takes its place in the request queue while that holds fewer than
four, and is dropped from a full one: frames dropped is set and LINK_REJECTS fires. The link timer is restarted in each case but
the first (R157). That the row is the arrival of the whole frame is the model’s choice (log entry 2). -/
def Obligations.RequestsWaitTheirTurn : Prop :=
  ∀ (c : Instr) (f : Frame) (s : State), c.wf = true → encodeFrame c = some f →
    (s.held ≠ none → exec c s = .next s) ∧
    (s.held = none → s.link.resetPending ≠ none → exec c s = .next (restartLinkTimer s)) ∧
    (s.held = none → s.link.resetPending = none → s.link.reply ≠ none → s.link.queue.length < 4 →
      exec c s = .next ((restartLinkTimer s).onLink fun l => { l with queue := l.queue ++ [f] })) ∧
    (s.held = none → s.link.resetPending = none → s.link.reply ≠ none → s.link.tx ≠ .idle → 4 ≤ s.link.queue.length →
      exec c s =
        .next (monitorEvent .linkRejects .whole ((restartLinkTimer s).onLink fun l => { l with framesDropped := true })))

/-- FRAME_SENT while no reset reply is on the pin (R183): the transmitter starts the waiting reply, or else the first notice, or is
idle; and the head of the request queue, if one waits and its reply has room, is dispatched (R182). Where no request waits,
nothing but the link changes. -/
def Obligations.FrameSentFeedsTheTransmitter : Prop :=
  ∀ s : State, s.held = none → s.link.tx ≠ .idle → s.link.resetPending = none →
    (s.link.queue = [] → ∀ r, s.link.reply = some r →
      exec .frameSent s = .next (s.onLink fun l => { l with tx := .sendingReply r, reply := none })) ∧
    (s.link.queue = [] → s.link.reply = none → ∀ q rest, s.link.notices = q :: rest →
      exec .frameSent s = .next (s.onLink fun l => { l with tx := .sendingNotice q.notice, notices := rest })) ∧
    (s.link.queue = [] → s.link.reply = none → s.link.notices = [] →
      exec .frameSent s = .next (s.onLink fun l => { l with tx := .idle })) ∧
    ∀ r f rest, s.link.queue = f :: rest → s.link.reply = some r →
      exec .frameSent s =
        .next (deliver f.kind f.tag
          (handleRequest (decodeFrame f) (s.onLink fun l => { l with tx := .sendingReply r, reply := none, queue := rest })))

/-- What posting does to the notice queue (R184, R185): level 0 discards; a queued notice of the same state kind takes the new
contents in its place, with its age; with room the notice joins behind every notice of equal or higher priority; a full queue
gives up the oldest notice of its lowest priority to a newcomer above it, or else drops the newcomer, and notices lost is set. -/
def Obligations.PostingFollowsPriority : Prop :=
  ∀ (n : Notice) (l : Link), NoticesOrdered l →
    (l.levelOf n.kind = 0 → enqueueNotice n l = l) ∧
    (l.levelOf n.kind ≠ 0 → n.kind.isState = true → ∀ before q after, l.notices = before ++ q :: after → q.notice.kind = n.kind →
      enqueueNotice n l = { l with notices := before ++ { q with notice := n } :: after }) ∧
    (l.levelOf n.kind ≠ 0 → (n.kind.isState = true → ∀ q ∈ l.notices, q.notice.kind ≠ n.kind) →
      (l.notices.length < 16 → ∃ before after, l.notices = before ++ after ∧
        (∀ q ∈ before, l.levelOf n.kind ≤ q.priority) ∧ (∀ q ∈ after, q.priority < l.levelOf n.kind) ∧
        enqueueNotice n l =
          { l with notices := before ++ { notice := n, priority := l.levelOf n.kind, age := l.nextAge } :: after,
                   nextAge := l.nextAge + 1 }) ∧
      (l.notices.length = 16 → (∀ q ∈ l.notices, l.levelOf n.kind ≤ q.priority) →
        enqueueNotice n l = { l with noticesLost := true }) ∧
      (l.notices.length = 16 → ∀ before q after, l.notices = before ++ q :: after → q.priority < l.levelOf n.kind →
        (∀ x ∈ before, q.priority < x.priority) → (∀ x ∈ after, x.priority = q.priority) →
        ∃ front back, before ++ after = front ++ back ∧ (∀ x ∈ front, l.levelOf n.kind ≤ x.priority) ∧
          (∀ x ∈ back, x.priority < l.levelOf n.kind) ∧
          enqueueNotice n l =
            { l with notices := front ++ { notice := n, priority := l.levelOf n.kind, age := l.nextAge } :: back,
                     nextAge := l.nextAge + 1, noticesLost := true }))

/-! ## Resets (section 3.6, R190) -/

/-- POWER_ON and then RESET_END, from any state with the supply and power lines deasserted, leave exactly the reset state: every
item at the cold-reset value of its table, and READY with cause POWER_ON on the transmit pin; a cold reset with another cause,
RESET_LINE or RESET_REQUEST, differs in the cause that READY carries (R190). RESET_END of any reset, cold or warm, with a supply line
asserted is the same end but for what that line brings about behind READY: SUPPLY_LOW makes the drive state REDUCED, with the limits
worked for it and a DRIVE notice (R65); POWER_FAIL is taken as the primary of a FAST or BRAKE fault in IDLE, with a FAULT notice
(R160). The reset values the spec does not state are the model’s (log entries 4, 48 and 52), that READY starts at once is inferred
(log entry 7), and that DRIVE comes before FAULT is the model’s choice (log entry 61). -/
def Obligations.PowerOnEndsInTheResetState : Prop :=
  (∀ s : State, s.lines.supplyLow = false → s.lines.powerFail = false →
    (∃ t, exec .powerOn s = .next t ∧ t.held = some .powerOn ∧
      exec .resetEnd t = .next { State.reset with freeIndex := s.freeIndex, pending := s.pending }) ∧
    ∀ cause, s.held = some cause → cause ≠ .warm →
      exec .resetEnd s =
        .next { State.reset with
          freeIndex := s.freeIndex, pending := s.pending
          link := { State.reset.link with tx := .sendingNotice (.ready cause 0 false) } }) ∧
  ∀ (s u : State) (cause : ResetCause), s.held = some cause →
    (s.lines.supplyLow = true → s.lines.powerFail = false →
      exec .resetEnd (s.onLines fun l => { l with supplyLow := false }) = .next u →
      ∃ t, exec .resetEnd s = .next t ∧ OnlyChanges [.servo, .planner, .lines, .link] u t ∧
        t.servo = { u.servo with reduced := true } ∧ t.planner = { u.planner with torque := torqueLimits t } ∧
        t.lines = { u.lines with supplyLow := true } ∧ t.link = enqueueNotice (.drive true) u.link) ∧
    (s.lines.powerFail = true → exec .resetEnd (s.onLines fun l => { l with powerFail := false }) = .next u →
      ∃ t f, exec .resetEnd s = .next t ∧ OnlyChanges [.fault, .lines, .link] u t ∧
        t.lines = { u.lines with powerFail := true } ∧ t.fault = { u.fault with record := some f, powerFailTaken := true } ∧
        f =
          { primary := { kind := .powerFail, reel := none }, mode := .idle, sub := none, vMeas := 0, position := u.tach.position
            secondaries := [], lost := false, severity := if s.lines.supplyLow then .brake else .fast } ∧
        t.link = enqueueNotice (.fault false f.primary true f.severity .idle 0 f.position) u.link)

/-- POWER_ON and RESET_IN driven low hold the part, in any state (`HeldInReset`): no excitation, no window, the drives DISABLED and
cleared, the capstan OFF with no drive and no trim, brakes at apply, pinch open, recording inhibited, no locate, chase, survey or fault,
and an idle transmit pin (R17, R41, R42, R46, R61, R65, R72, R81, R110, R118, R147, R160, R179, R191). RESET_LINE is the cause of a reset that
RESET_IN begins, or turns cold (R190). The planner’s values while held, and that nothing else changes, are inferred (log entry 5). -/
def Obligations.AResetHoldsTheMachine : Prop :=
  ∀ s : State, ∀ c ∈ [Instr.powerOn, Instr.resetInAssert],
    ∃ t, exec c s = .next t ∧ HeldInReset s t ∧
      (c = .powerOn → t.held = some .powerOn ∧ t.lines.resetIn = s.lines.resetIn) ∧
      (c = .resetInAssert → t.lines.resetIn = true ∧ (s.held ≠ some .powerOn → t.held = some .resetLine))

/-- RESET_END of a warm reset with POWER_FAIL deasserted (asserted: PowerOnEndsInTheResetState), block by block (R17, R41, R65, R81, R110, R119, R127, R147, R160, R169,
R179, R191): what the tables keep is kept (ranges, windows, calibrations, thresholds, suppress flags, position, profiles, gains,
capstan settings and vs_h, limits, zones, cues, parameters, timeout, levels, telemetry period) and the rest is cleared: outcomes,
presence states and p, the latches, T_eff and the runs, the recovery timer, the mode, blocks and stops, locate, chase, survey,
counters, fault and link. The presence counter starts at the first channel not in OFF, the reference starts PRESENT for INTERNAL, vs
at its target, the drive state follows SUPPLY_LOW. READY with cause WARM is on the pin; that it starts at once is inferred (log
entry 7). Of a pack record Table 2-10 gives every member but J, whose 0 while UNKNOWN is the model’s choice (log entry 48). -/
def Obligations.AWarmResetKeepsTheSettings : Prop :=
  ∀ s : State, s.held = some .warm → s.lines.powerFail = false →
    ∃ t, exec .resetEnd s = .next t ∧ t.held = none ∧ t.freeIndex = s.freeIndex ∧ t.params = s.params ∧
      (∀ r, t.sense.arms.get r =
        { s.sense.arms.get r with
          last := 0, outcome := if (s.sense.arms.get r).range = .off then .unused else .none, p := 0 }) ∧
      (∀ i, t.sense.presence i =
        { s.sense.presence i with
          last := 0, outcome := if (s.sense.presence i).range = .off then .unused else .none
          state := if (s.sense.presence i).range = .off then .unused else .unknown, candidate := none, run := 0 }) ∧
      t.sense.tensionLost = false ∧
      t.sense.turn =
        (if s.sense.ps.range ≠ .off then some .ps else if s.sense.pt.range ≠ .off then some .pt
         else if s.sense.ph.range ≠ .off then some .ph else none) ∧
      t.tach.position = s.tach.position ∧ t.tach.referenced = s.tach.referenced ∧ t.tach.fixWindow = s.tach.fixWindow ∧
      t.tach.vMeas = 0 ∧ t.tach.rollerHist = [] ∧ (∀ r, t.tach.reels.get r = .zero) ∧
      t.packs.profile = s.packs.profile ∧ t.packs.tape = s.packs.tape ∧ (∀ r, t.packs.pack.get r = .unknown) ∧
      t.packs.a0 = none ∧ t.packs.mismatch = false ∧
      t.servo =
        { s.servo with
          enabled := false, tEff16 := 0, reduced := s.lines.supplyLow, recovery := none, settled := false
          reels := t.servo.reels } ∧
      (∀ r, t.servo.reels.get r =
        { s.servo.reels.get r with integ := 0, sat := none, satRun := 0, slackRun := 0, overRun := 0, code := 0, tEst := 0 }) ∧
      t.capstan.lock = .off ∧ t.capstan.source = s.capstan.source ∧ t.capstan.m = s.capstan.m ∧ t.capstan.d = s.capstan.d ∧
      t.capstan.ell = s.capstan.ell ∧ t.capstan.w = s.capstan.w ∧ t.capstan.rho = s.capstan.rho ∧
      t.capstan.lockChoice = s.capstan.lockChoice ∧ t.capstan.lockLost = false ∧ t.capstan.vsHost = s.capstan.vsHost ∧
      t.capstan.trim = 0 ∧ t.capstan.vs = max (-1000) (min 1000 s.capstan.vsHost) ∧
      t.capstan.present = (s.capstan.source == .internal) ∧ t.capstan.fRef = 48000000 ∧ t.capstan.frozenBase = none ∧
      t.capstan.driveCode = 0 ∧
      t.planner.mode = .idle ∧ t.planner.sub = none ∧ t.planner.vRef = 0 ∧ t.planner.stopInForce = none ∧
      t.planner.stopCause = none ∧ t.planner.brake = .applied ∧ t.planner.pinch = .opened ∧ t.planner.fwdBlocked = false ∧
      t.planner.revBlocked = false ∧ t.planner.missed = [] ∧ t.planner.vMax = s.planner.vMax ∧
      t.planner.aAcc = s.planner.aAcc ∧ t.planner.aDec = s.planner.aDec ∧ t.planner.guard = s.planner.guard ∧
      t.planner.torque = torqueLimits t ∧
      t.zones = { s.zones with index := zoneAt s.zones s.tach.position, pendingBlock := none } ∧
      t.cues = { list := s.cues.list.map (fun q => { q with mark := .none }), lastReached := none, pendingStop := none } ∧
      t.locate = none ∧ t.chase.state = .off ∧ t.chase.plan = none ∧ t.chase.master = none ∧ t.chase.silence = none ∧
      t.chase.e = none ∧ t.chase.lead = s.params.lead ∧ t.chase.doublings = 0 ∧
      t.fault = { record := none, powerFailTaken := false, linkTimeout := s.fault.linkTimeout, linkTimer := none } ∧
      t.monitor = .cold ∧ t.survey = .cold ∧
      t.lines =
        { s.lines with resetIn := false, brakeS := true, brakeT := true, pinch := false, recordInhibit := true } ∧
      t.link.levels = s.link.levels ∧ t.link.telPeriod = s.link.telPeriod ∧
      t.link.telTimer = (if s.link.telPeriod = 0 then none else some 0) ∧
      t.link.tx = .sendingNotice (.ready .warm s.tach.position s.tach.referenced) ∧ t.link.assembler = none ∧
      t.link.queue = [] ∧ t.link.reply = none ∧ t.link.framesDropped = false ∧ t.link.noticesLost = false ∧
      t.link.resetPending = none ∧
      t.link.notices.map (·.notice) = (if s.lines.supplyLow ∧ t.link.levelOf .drive ≠ 0 then [.drive true] else [])

/-- RESET (R190): a retain flag other than 0 or 1 is refused; otherwise the reply is OK, the reset waits for it, and the
request queue is empty. R190: the last byte of an accepted RESET's reply begins the reset it asked for, warm with the retain
flag, which holds the part as any reset does (`HeldInReset`, log entry 5); FRAME_SENT and RESET_AFTER_REPLY are the same moment. -/
def Obligations.AResetFollowsItsReply : Prop :=
  (∀ (tag : Byte) (retain : Nat) (s : State), Ready s →
     (1 < retain → Refuses (.reset tag retain) s 0x83 tag .badValue) ∧
     (retain ≤ 1 →
       Answered (.reset tag retain) s 0x83 tag .ok []
         ((restartLinkTimer s).onLink fun l => { l with resetPending := some (retain == 1), queue := [] }))) ∧
  (∀ (s : State) (r : Reply) (retain : Bool), s.held = none → s.link.tx = .sendingReply r → r.kind = 0x83 → r.code = .ok →
     s.link.resetPending = some retain →
       ∃ t, exec .frameSent s = .next t ∧ exec .resetAfterReply s = .next t ∧
         t.held = some (if retain then .warm else .resetRequest) ∧ HeldInReset s t ∧ t.lines.resetIn = s.lines.resetIn)

/-! ## Requests of the link (R186 to R190) and of the Fault Unit (R153, R154, R159) -/

/-- R189: PING is answered OK with the same bytes after the result code, in every mode, and changes no state. Like every good
frame it restarts a counting link timer. -/
def Obligations.PingReturnsItsBytes : Prop :=
  ∀ (tag : Byte) (payload : List Byte) (s : State), Ready s → payload.length ≤ 8 →
    Answered (.ping tag payload) s 0x81 tag .ok payload (restartLinkTimer s) ∧
      (restartLinkTimer s).fault =
        (if s.fault.linkTimeout ≠ 0 ∧ s.planner.mode.quiet = false then { s.fault with linkTimer := some 0 } else s.fault) ∧
      OnlyChanges [.fault] s (restartLinkTimer s)

/-- A frame of undefined kind is answered UNKNOWN_KIND, one of a length not allowed for its kind BAD_LENGTH, before every
check of the block that would own it (R182, R194). GET_FAULT, GET_ZONES, GET_CUES and GET_SURVEY report and change nothing
(R154, R112, R122, R178); a page of more than 8 cues or 6 steps is refused BAD_VALUE. GET_CUES returns from its start index the
records asked for, fewer where the list ends or where the next record would carry the payload past 120 bytes, each of 8 bytes and
the label behind a fixed part of 4; GET_SURVEY returns the survey’s items, then the entries asked for that the table holds, one in
progress with ended by none (0xFF). That an outcome or reason of none is sent as 5 is inferred (log entry 21). -/
def Obligations.RefusalsAndReadsChangeNothing : Prop :=
  (∀ (kind tag : Byte) (payload : List Byte) (s : State), Ready s →
     Refuses (.requestUnknownKind kind tag payload) s (kind + 0x80) tag .unknownKind ∧
     Refuses (.requestBadLength kind tag payload) s (kind + 0x80) tag .badLength) ∧
  (∀ (tag : Byte) (start count : Nat) (s : State), Ready s →
     Answered (.getFault tag) s 0x88 tag .ok
       (outFlag s.fault.record.isSome ++ faultRecordBytes s.fault ++ outCode s.planner.mode.code ++
         outCode (stopCode s.planner.stopInForce) ++ outFlag s.lines.powerFail ++ outFlag s.lines.supplyLow) (restartLinkTimer s) ∧
     Answered (.getZones tag) s 0xB7 tag .ok
       (s.zones.entries.flatMap zoneEntryBytes ++ zoneAttrBytes s.zones.base ++ outU8 s.zones.index ++ outFlag s.lines.recordInhibit)
       (restartLinkTimer s) ∧
     (if 8 < count then Refuses (.getCues tag start count) s 0xBB tag .badValue
      else ∃ (page : List Cue) (size : List Cue → Nat), (∀ l, size l = 4 + (l.map fun c => 8 + c.label.length).sum) ∧
        page = (s.cues.list.drop start).take page.length ∧ page.length ≤ count ∧ size page ≤ 120 ∧
        (page.length < count → page.length < (s.cues.list.drop start).length →
          120 < size ((s.cues.list.drop start).take (page.length + 1))) ∧
        Answered (.getCues tag start count) s 0xBB tag .ok
          (outU8 s.cues.list.length ++ outU8 start ++ outU8 page.length ++
            page.flatMap fun c => outU8 c.id ++ outS32 c.position ++ outCode c.kind.code ++ outCode c.mark.code ++
              (bytesU8 c.label.length ++ c.label)) (restartLinkTimer s)) ∧
     (if 6 < count then Refuses (.getSurvey tag start count) s 0xD2 tag .badValue
      else ∀ page, page = (s.survey.table.drop start).take count →
        Answered (.getSurvey tag start count) s 0xD2 tag .ok
          (outCode s.survey.state.code ++ outOpt (s.survey.phase.map (·.code)) ++ outU8 s.survey.k ++
            outCode (outcomeCode s.survey.outcome) ++ outCode (reasonCode s.survey.reason) ++ outU16 (s.survey.floor.getD 0) ++
            outU8 s.survey.table.length ++ outU8 page.length ++
            page.flatMap fun e => outU16 e.tension ++ outFlag e.clamped ++ outU16 e.samples ++ outU32 e.slack ++
              outU32 e.excursion ++ outOpt (e.endedBy.map (·.code)) ++ outFlag e.frozen) (restartLinkTimer s)))

/-- GET_STATUS carries the status record as it stands and clears the four sticky flags that the record shows set (R188). -/
def Obligations.StatusIsReportedAndStickiesCleared : Prop :=
  ∀ (tag : Byte) (s : State), Ready s →
    ∃ t, Answered (.getStatus tag) s 0x82 tag .ok (statusBytes s) t ∧
      OnlyChanges [.sense, .capstan, .link] (restartLinkTimer s) t ∧ stickyBits t = 0 ∧
      t.sense = { s.sense with tensionLost := false } ∧ t.capstan = { s.capstan with lockLost := false } ∧
      t.link = { s.link with framesDropped := false, noticesLost := false }

/-- SET_TELEMETRY and SET_LINK_TIMEOUT (R187, R159): 0 is stored and stops the timer; another value is clamped, and starts
the timer at 0 (the link timer where the mode lets it count). SET_NOTICE_LEVEL (R186): refused for READY, a kind that is
none or a level above 3; otherwise the level is stored, queued notices of the kind are removed at level 0 and otherwise take
it as their priority, and every other queued notice stays. TELEMETRY_TIMER_EXPIRY (R187): the timer returns to 0 and a
TELEMETRY notice with the contents of that moment is posted: with room in the queue and a level above 0 it is on its way. At
level 0 the timer goes on and nothing is posted. That an expiry is taken at its word while its timer runs is the model’s choice
(log entry 6). -/
def Obligations.LinkSettingsAreStored : Prop :=
  (∀ (tag : Byte) (period timeout : Nat) (s : State), Ready s →
     (Answered (.setTelemetry tag 0) s 0x85 tag .ok (outU16 0)
       ((restartLinkTimer s).onLink fun l => { l with telPeriod := 0, telTimer := none })) ∧
     (period ≠ 0 → ∀ t, t = max 10 (min 1000 period) →
       Answered (.setTelemetry tag period) s 0x85 tag (if t = period then .ok else .okClamped) (outU16 t)
         ((restartLinkTimer s).onLink fun l => { l with telPeriod := t, telTimer := some 0 })) ∧
     (Answered (.setLinkTimeout tag 0) s 0x86 tag .ok (outU16 0 ++ outFlag false)
       ((restartLinkTimer s).onFault fun f => { f with linkTimeout := 0, linkTimer := none })) ∧
     (timeout ≠ 0 → s.planner.mode.quiet = false → ∀ t, t = max 100 (min 10000 timeout) →
       Answered (.setLinkTimeout tag timeout) s 0x86 tag (if t = timeout then .ok else .okClamped) (outU16 t ++ outFlag true)
         ((restartLinkTimer s).onFault fun f => { f with linkTimeout := t, linkTimer := some 0 })) ∧
     (timeout ≠ 0 → s.planner.mode.quiet = true → ∀ t, t = max 100 (min 10000 timeout) →
       Answered (.setLinkTimeout tag timeout) s 0x86 tag (if t = timeout then .ok else .okClamped)
         (outU16 t ++ outFlag s.fault.linkTimer.isSome) (s.onFault fun f => { f with linkTimeout := t }))) ∧
  (∀ (tag : Byte) (kind level : Nat) (s : State), Ready s →
     (kind ≤ 0xE0 ∨ 0xF0 < kind ∨ 3 < level → Refuses (.setNoticeLevel tag kind level) s 0x84 tag .badValue) ∧
     (0xE0 < kind → kind ≤ 0xF0 → level ≤ 3 →
       ∃ t body, Answered (.setNoticeLevel tag kind level) s 0x84 tag .ok body t ∧ OnlyChanges [.link] (restartLinkTimer s) t ∧
         t.link = { s.link with levels := s.link.levels.set (kind - 0xE0) level, notices := t.link.notices } ∧
         (∀ q, q.notice.kind.place ≠ kind - 0xE0 → (q ∈ t.link.notices ↔ q ∈ s.link.notices)) ∧
         (∀ q, q.notice.kind.place = kind - 0xE0 →
           (q ∈ t.link.notices ↔
             level ≠ 0 ∧ q.priority = level ∧ ∃ x ∈ s.link.notices, x.notice = q.notice ∧ x.age = q.age)))) ∧
  (∀ (n : Nat) (s : State), s.held = none → s.link.telTimer = some n →
     ∃ t, exec .telemetryTimerExpiry s = .next t ∧ OnlyChanges [.link] s t ∧ t.link.telTimer = some 0 ∧
       (s.link.levels.getD 14 0 ≠ 0 → s.link.notices.length < 16 → Posted t (.telemetry (telemetryOf s))) ∧
       (s.link.levels.getD 14 0 = 0 → s.link.tx ≠ .idle → t.link = { s.link with telTimer := some 0 }))

/-- CLEAR_FAULT (R153): OK with nothing latched; BUSY while a stop is in force; otherwise the record is cleared, and with POWER_FAIL
asserted that condition is latched again at once. The reply carries the record as it stood. -/
def Obligations.ClearFaultEmptiesTheRecord : Prop :=
  ∀ (tag : Byte) (s : State), Ready s →
    (s.fault.record = none →
      Answered (.clearFault tag) s 0x89 tag .ok (outFlag false ++ faultRecordBytes s.fault) (restartLinkTimer s)) ∧
    (s.fault.record ≠ none → s.planner.stopInForce ≠ none → Refuses (.clearFault tag) s 0x89 tag .busy) ∧
    (s.fault.record ≠ none → s.planner.stopInForce = none → s.lines.powerFail = false →
      Answered (.clearFault tag) s 0x89 tag .ok (outFlag true ++ faultRecordBytes s.fault)
        ((restartLinkTimer s).onFault fun f => { f with record := none, powerFailTaken := false })) ∧
    (s.fault.record ≠ none → s.planner.stopInForce = none → s.lines.powerFail = true →
      ∃ t r, Answered (.clearFault tag) s 0x89 tag .ok (outFlag true ++ faultRecordBytes s.fault) t ∧ t.fault.record = some r ∧
        r.primary = { kind := .powerFail, reel := none } ∧ r.mode = s.planner.mode ∧ r.secondaries = [])

/-! ## Requests of the Sense Scanner (R7, R14, R15) -/

/-- SET_SENSE with the apply flag clear changes nothing and reports the channel. With it set, an unlisted channel or range,
a window or a threshold outside 1 to 48 000, or one out of order is refused BAD_VALUE; outside IDLE a change of range or window of an
arm channel, or of range of a presence channel, is refused LOCKED_IN_MOTION (R15). Otherwise, in every mode, it is accepted. An arm
channel takes its range and window, and its outcome follows R1; its presence fields are ignored. A presence channel takes all its
fields: a change of range discards state, candidate and run, a change of threshold alone candidate and run (R1, R11; of a change to
or from OFF, R1 names outcome and state only, and the rest is the model’s, log entry 54). The shared counter follows R6. A suppress
flag cleared while the channel stands ABSENT hands that on at once (R14): PATH_LOST for PS and PT in a loaded mode, the tape-end event
for PH. Nothing else changes. SET_ARM_CAL (R7): refused BAD_VALUE for a channel that is no arm, a count outside 1 to 48 000 or two
equal ones, and LOCKED_IN_MOTION outside IDLE; otherwise the arm takes the calibration and nothing else changes. The channel record
comes with every code (R195). -/
def Obligations.SenseChannelsAreProgrammed : Prop :=
  (∀ (tag : Byte) (channel apply range cMin cMax tOn tOff suppress : Nat) (s : State), Ready s →
     (apply = 0 →
       Answered (.setSense tag channel apply range cMin cMax tOn tOff suppress) s 0x90 tag .ok (channelRecord s channel)
         (restartLinkTimer s)) ∧
     (apply ≠ 0 → 4 < channel ∨ 3 < range ∨ cMin = 0 ∨ 48000 < cMax ∨ cMax ≤ cMin →
       Refuses (.setSense tag channel apply range cMin cMax tOn tOff suppress) s 0x90 tag .badValue) ∧
     (apply ≠ 0 → 2 ≤ channel → tOff = 0 ∨ 48000 < tOn ∨ tOn ≤ tOff →
       Refuses (.setSense tag channel apply range cMin cMax tOn tOff suppress) s 0x90 tag .badValue) ∧
     (apply ≠ 0 → range ≤ 3 → 1 ≤ cMin → cMin < cMax → cMax ≤ 48000 → s.planner.mode ≠ .idle →
       (∀ r, channel = reelCode r → ¬(SenseRange.ofCode range = some (s.sense.arms.get r).range ∧ cMin = (s.sense.arms.get r).cMin ∧
           cMax = (s.sense.arms.get r).cMax) →
         Refuses (.setSense tag channel apply range cMin cMax tOn tOff suppress) s 0x90 tag .lockedInMotion) ∧
       (∀ i : PresenceId, channel = i.channelCode → 1 ≤ tOff → tOff < tOn → tOn ≤ 48000 →
         SenseRange.ofCode range ≠ some (s.sense.presence i).range →
         Refuses (.setSense tag channel apply range cMin cMax tOn tOff suppress) s 0x90 tag .lockedInMotion))) ∧
  (∀ (tag : Byte) (apply range cMin cMax tOn tOff suppress : Nat) (rg : SenseRange) (s : State), Ready s → apply ≠ 0 →
     SenseRange.ofCode range = some rg → 1 ≤ cMin → cMin < cMax → cMax ≤ 48000 →
     (∀ (r : Reel) (a : ArmChannel), a = s.sense.arms.get r →
       s.planner.mode = .idle ∨ (rg = a.range ∧ cMin = a.cMin ∧ cMax = a.cMax) →
       ∃ t, Answered (.setSense tag (reelCode r) apply range cMin cMax tOn tOff suppress) s 0x90 tag .ok
           (channelRecord t (reelCode r)) t ∧ OnlyChanges [.sense] (restartLinkTimer s) t ∧
         t.sense = { s.sense with arms := t.sense.arms } ∧ (∀ r', r' ≠ r → t.sense.arms.get r' = s.sense.arms.get r') ∧
         t.sense.arms.get r =
           { a with
             range := rg, cMin := cMin, cMax := cMax
             outcome := if rg = a.range then a.outcome else if rg = .off then .unused
                        else if a.range = .off then .none else a.outcome }) ∧
     ∀ (i : PresenceId) (q : PresenceChannel) (turn : Option PresenceId), q = s.sense.presence i →
       1 ≤ tOff → tOff < tOn → tOn ≤ 48000 → s.planner.mode = .idle ∨ rg = q.range →
       turn =
         (if rg = q.range then s.sense.turn
          else if s.sense.turn = none then (if rg = .off then none else some i)
          else if s.sense.turn = some i ∧ rg = .off then
            (if (s.sense.presence i.next).range ≠ .off then some i.next
             else if (s.sense.presence i.next.next).range ≠ .off then some i.next.next else none)
          else s.sense.turn) →
       ∃ t, Answered (.setSense tag i.channelCode apply range cMin cMax tOn tOff suppress) s 0x90 tag .ok
           (channelRecord t i.channelCode) t ∧
         t.sense.arms = s.sense.arms ∧ t.sense.tensionLost = s.sense.tensionLost ∧ t.sense.turn = turn ∧
         (∀ j, j ≠ i → t.sense.presence j = s.sense.presence j) ∧
         t.sense.presence i =
           { q with
             range := rg, cMin := cMin, cMax := cMax, tOn := tOn, tOff := tOff, suppress := suppress != 0
             outcome := if rg = q.range then q.outcome else if rg = .off then .unused
                        else if q.range = .off then .none else q.outcome
             state := if rg = q.range then q.state else if rg = .off then .unused else .unknown
             candidate := if rg = q.range ∧ tOn = q.tOn ∧ tOff = q.tOff then q.candidate else none
             run := if rg = q.range ∧ tOn = q.tOn ∧ tOff = q.tOff then q.run else 0 } ∧
         (¬(q.suppress = true ∧ suppress = 0 ∧ rg = q.range ∧ q.state = .absent) →
           OnlyChanges [.sense] (restartLinkTimer s) t) ∧
         (q.suppress = true → suppress = 0 → rg = q.range → q.state = .absent →
           (i = .ph → s.planner.moving = false → OnlyChanges [.sense] (restartLinkTimer s) t) ∧
           (i = .ph → s.planner.mode = .wind → s.planner.stopInForce = none → 0 < s.planner.vRef →
             t.planner.fwdBlocked = true ∧ t.planner.revBlocked = s.planner.revBlocked ∧ t.planner.mode = .stopping ∧
               t.planner.stopInForce = some .fast ∧ t.planner.stopCause = some .tapeEnd) ∧
           ∀ r, (i = .ps ∧ r = .supply) ∨ (i = .pt ∧ r = .takeup) →
             (s.planner.mode = .idle → OnlyChanges [.sense] (restartLinkTimer s) t) ∧
             (s.planner.mode ≠ .idle → s.fault.record = none →
               ∃ f, t.fault.record = some f ∧ f.primary = { kind := .pathLost, reel := some r } ∧ f.severity = .brake ∧
                 f.mode = s.planner.mode))) ∧
  (∀ (tag : Byte) (channel cCentre cFull : Nat) (s : State), Ready s →
     ((1 < channel ∨ cCentre = 0 ∨ cFull = 0 ∨ 48000 < cCentre ∨ 48000 < cFull ∨ cFull = cCentre) →
       Answered (.setArmCal tag channel cCentre cFull) s 0x91 tag .badValue (channelRecord s channel) (restartLinkTimer s)) ∧
     (1 ≤ cCentre → cCentre ≤ 48000 → 1 ≤ cFull → cFull ≤ 48000 → cFull ≠ cCentre →
       (channel ≤ 1 → s.planner.mode ≠ .idle →
         Answered (.setArmCal tag channel cCentre cFull) s 0x91 tag .lockedInMotion (channelRecord s channel)
           (restartLinkTimer s)) ∧
       (s.planner.mode = .idle → ∀ r, channel = reelCode r →
         Answered (.setArmCal tag channel cCentre cFull) s 0x91 tag .ok
           (channelRecord (s.onArm r fun a => { a with cal := some (cCentre, cFull) }) channel)
           ((restartLinkTimer s).onArm r fun a => { a with cal := some (cCentre, cFull) }))))

/-! ## Requests of the Pack Estimator and the Tension Servo (R27, R28, R47, R48, R64) -/

/-- SET_REEL (R27): with the apply flag clear it reports a side's profile and changes nothing. With it set, a hub of 20 000 to 100 000,
a flange of 60 000 to 185 000 more than 10 000 above it and a J_f of at most 20 000 are stored with F, τ_fs and τ_lim clamped, τ_lim
to at most τ_fs; any other hub, flange or J_f is refused BAD_VALUE, and a change of the three outside IDLE LOCKED_IN_MOTION. With the
drives ENABLED a lower τ_lim or a changed τ_fs re-clamps the reel’s standing code at once (R58), and outside IDLE a change of F, τ_lim
or τ_fs recomputes the torque-available limits (R102). SET_TAPE (R28): with the apply flag clear it reports and changes nothing; with
it set its fields are checked, and stored with T_thr and T_span clamped. A change of t or k_J outside IDLE is refused. With the drives
ENABLED a T_max below T_eff takes T_eff16 to T_max × 16 (R49); a changed T_nom recomputes the torque-available limits (R102). Nothing
else changes. That a change in IDLE leaves the limits of SET_REEL as they are is inferred (log entry 26), and so is the radius 0 that
the replies show where a record is not TRACKING (log entry 22). -/
def Obligations.ReelAndTapeProfilesAreStored : Prop :=
  (∀ (tag : Byte) (r : Reel) (apply hub flange jf f tauLim tauFs : Nat) (s : State), Ready s →
     (apply = 0 →
       Answered (.setReel tag (reelCode r) apply hub flange jf f tauLim tauFs) s 0x94 tag .ok (reelReply r s)
         (restartLinkTimer s)) ∧
     (apply ≠ 0 →
       hub < 20000 ∨ 100000 < hub ∨ flange < 60000 ∨ 185000 < flange ∨ 20000 < jf ∨ flange ≤ hub + 10000 →
         Refuses (.setReel tag (reelCode r) apply hub flange jf f tauLim tauFs) s 0x94 tag .badValue) ∧
     (apply ≠ 0 → 20000 ≤ hub → hub ≤ 100000 → 60000 ≤ flange → flange ≤ 185000 → jf ≤ 20000 → hub + 10000 < flange →
       (s.planner.mode ≠ .idle →
         ¬(hub = (s.packs.profile.get r).hub ∧ flange = (s.packs.profile.get r).flange ∧ jf = (s.packs.profile.get r).jf) →
           Refuses (.setReel tag (reelCode r) apply hub flange jf f tauLim tauFs) s 0x94 tag .lockedInMotion) ∧
       ∀ (old q : ReelProfile) (bound : Int), old = s.packs.profile.get r →
         s.planner.mode = .idle ∨ (hub = old.hub ∧ flange = old.flange ∧ jf = old.jf) →
         q = { hub := hub, flange := flange, jf := jf, f := min 2000 f, tauFs := max 1000 (min 40000 tauFs),
               tauLim := min (max 1000 (min 40000 tauFs)) (max 500 (min 40000 tauLim)) } →
         bound = codeOf (if s.servo.reduced then q.tauLim / 2 else q.tauLim : Nat) q.tauFs →
           ∃ t, Answered (.setReel tag (reelCode r) apply hub flange jf f tauLim tauFs) s 0x94 tag
               (if q.f = f ∧ q.tauLim = tauLim ∧ q.tauFs = tauFs then .ok else .okClamped) (reelReply r t) t ∧
             OnlyChanges [.packs, .servo, .planner] (restartLinkTimer s) t ∧
             t.packs = { s.packs with profile := s.packs.profile.set r q } ∧
             t.servo =
               (if s.servo.enabled = true ∧ (q.tauLim < old.tauLim ∨ q.tauFs ≠ old.tauFs) then
                 { s.servo with
                   reels := s.servo.reels.set r
                     { s.servo.reels.get r with code := max (-bound) (min bound (s.servo.reels.get r).code) } }
                else s.servo) ∧
             t.planner =
               (if s.planner.mode ≠ .idle ∧ ¬(q.f = old.f ∧ q.tauLim = old.tauLim ∧ q.tauFs = old.tauFs) then
                 { s.planner with torque := torqueLimits t }
                else s.planner))) ∧
  (∀ (tag : Byte) (apply t kj tMin tNom tMax tThr tSpan : Nat) (s : State), Ready s →
     (apply = 0 →
       Answered (.setTape tag apply t kj tMin tNom tMax tThr tSpan) s 0x95 tag .ok (tapeReply s) (restartLinkTimer s)) ∧
     (apply ≠ 0 →
       t < 10 ∨ 60 < t ∨ kj < 1000 ∨ 200000 < kj ∨ tMin < 20 ∨ tNom < tMin ∨ tMax < tNom ∨ 600 < tMax →
         Refuses (.setTape tag apply t kj tMin tNom tMax tThr tSpan) s 0x95 tag .badValue) ∧
     (apply ≠ 0 → 10 ≤ t → t ≤ 60 → 1000 ≤ kj → kj ≤ 200000 → 20 ≤ tMin → tMin ≤ tNom → tNom ≤ tMax → tMax ≤ 600 →
       (s.planner.mode ≠ .idle → ¬(t = s.packs.tape.t ∧ kj = s.packs.tape.kj) →
         Refuses (.setTape tag apply t kj tMin tNom tMax tThr tSpan) s 0x95 tag .lockedInMotion) ∧
       (s.planner.mode = .idle ∨ (t = s.packs.tape.t ∧ kj = s.packs.tape.kj) → ∀ x : TapeProfile,
         x = { t := t, kj := kj, tMin := tMin, tNom := tNom, tMax := tMax, tThr := max 20 (min tMax tThr),
               tSpan := max 10 (min 600 tSpan) } →
           ∃ u, Answered (.setTape tag apply t kj tMin tNom tMax tThr tSpan) s 0x95 tag
               (if x.tThr = tThr ∧ x.tSpan = tSpan then .ok else .okClamped) (tapeReply u) u ∧
             OnlyChanges [.packs, .servo, .planner] (restartLinkTimer s) u ∧ u.packs = { s.packs with tape := x } ∧
             u.servo =
               { s.servo with
                 tEff16 := if s.servo.enabled = true ∧ tMax < s.servo.tEff16 / 16 then 16 * tMax else s.servo.tEff16 } ∧
             u.planner =
               (if tNom = s.packs.tape.tNom then s.planner else { s.planner with torque := torqueLimits u }))))

/-- SET_TENSION (R47): T_nom is clamped to T_min and T_max and stored, in every mode; a changed T_nom recomputes the
torque-available limits (R102). Nothing else changes. SET_GAINS (R64): with the apply flag clear it reports and changes
nothing; with it set every gain is clamped and stored, and an integrator outside its new bound is clamped to it at once.
SET_LIMITS (R102): with the apply flag clear it reports and changes nothing; with it set the four limits are clamped and
stored and the torque-available limits recomputed. -/
def Obligations.TensionGainsAndLimitsAreStored : Prop :=
  (∀ (tag : Byte) (tension : Nat) (s : State), Ready s → s.packs.tape.tMin ≤ s.packs.tape.tMax →
     ∃ t body, Answered (.setTension tag tension) s 0x98 tag
         (if s.packs.tape.tMin ≤ tension ∧ tension ≤ s.packs.tape.tMax then .ok else .okClamped) body t ∧
       OnlyChanges [.packs, .planner] (restartLinkTimer s) t ∧
       t.packs = { s.packs with tape := { s.packs.tape with tNom := max s.packs.tape.tMin (min s.packs.tape.tMax tension) } } ∧
       t.planner = { s.planner with torque := if t.packs.tape.tNom = s.packs.tape.tNom then s.planner.torque else torqueLimits t }) ∧
  (∀ (tag : Byte) (apply kpS kiS iMaxS kpT kiT iMaxT kv : Nat) (s : State), Ready s →
     (apply = 0 →
       Answered (.setGains tag apply kpS kiS iMaxS kpT kiT iMaxT kv) s 0x99 tag .ok (gainsReply s.servo) (restartLinkTimer s)) ∧
     (apply ≠ 0 →
       ∃ t code, Answered (.setGains tag apply kpS kiS iMaxS kpT kiT iMaxT kv) s 0x99 tag code (gainsReply t.servo) t ∧
         OnlyChanges [.servo] (restartLinkTimer s) t ∧
         (code = .ok ↔ kpS ≤ 4095 ∧ kiS ≤ 255 ∧ 1000 ≤ iMaxS ∧ iMaxS ≤ 1000000 ∧ kpT ≤ 4095 ∧ kiT ≤ 255 ∧ 1000 ≤ iMaxT ∧
           iMaxT ≤ 1000000 ∧ kv ≤ 1000) ∧ (code = .ok ∨ code = .okClamped) ∧
         t.servo = { s.servo with kv := min 1000 kv, reels := t.servo.reels } ∧
         (∀ (r : Reel) (kp ki iMax b : Nat), b = max 1000 (min 1000000 iMax) →
           (r = .supply ∧ kp = kpS ∧ ki = kiS ∧ iMax = iMaxS) ∨ (r = .takeup ∧ kp = kpT ∧ ki = kiT ∧ iMax = iMaxT) →
             t.servo.reels.get r =
               { s.servo.reels.get r with
                 kp := min 4095 kp, ki := min 255 ki, iMax := b, integ := max (-(b : Int)) (min b (s.servo.reels.get r).integ) }))) ∧
  (∀ (tag : Byte) (apply vMax aAcc aDec guard : Nat) (s : State), Ready s →
     (apply = 0 → Answered (.setLimits tag apply vMax aAcc aDec guard) s 0xAD tag .ok (limitsReply s) (restartLinkTimer s)) ∧
     (apply ≠ 0 →
       ∃ t code, Answered (.setLimits tag apply vMax aAcc aDec guard) s 0xAD tag code (limitsReply t) t ∧
         OnlyChanges [.planner] (restartLinkTimer s) t ∧
         t.planner =
           { s.planner with
             vMax := max 100 (min 12000 vMax), aAcc := max 100 (min 6000 aAcc), aDec := max 100 (min 6000 aDec),
             guard := min 80000 guard, torque := torqueLimits s } ∧
         (code = .ok ∨ code = .okClamped) ∧
         (code = .ok ↔ t.planner.vMax = vMax ∧ t.planner.aAcc = aAcc ∧ t.planner.aDec = aDec ∧ t.planner.guard = guard)))

/-- R48: SET_SLEW is taken in any mode; σ is clamped to 1 to 100 and stored, and the reply carries it. A slew in progress goes on
from the current T_eff16 at the new rate: a sample moves it by 4σ sixteenths toward its goal, or to the goal where it lies within
that. After a cold reset σ is 5, which moves 20 sixteenths a sample and 100 cN, 1 600 sixteenths, in 80 samples, 20 ms. -/
def Obligations.TheSlewRateIsStored : Prop :=
  (∀ (tag : Byte) (sigma σ : Nat) (s : State), Ready s → σ = max 1 (min 100 sigma) →
    Answered (.setSlew tag sigma) s 0x9A tag (if σ = sigma then .ok else .okClamped) (outU8 σ)
      ((restartLinkTimer s).onServo fun v => { v with slew := σ })) ∧
  (∀ (v : Servo) (tz : Nat), (v.slewStep tz).tEff16 =
    if v.tEff16 < 16 * tz then min (16 * tz) (v.tEff16 + 4 * v.slew) else max (16 * tz) (v.tEff16 - 4 * v.slew)) ∧
  State.reset.servo.slew = 5 ∧ ∀ v : Servo, v.slew = 5 → v.tEff16 = 800 →
    ((fun w : Servo => w.slewStep 150)^[79] v).tEff16 < 2400 ∧ ((fun w : Servo => w.slewStep 150)^[80] v).tEff16 = 2400

/-! ## Requests of the Capstan Controller (R70, R77 to R79) -/

/-- R70: SET_VARISPEED is taken in every mode, with a fault latched or not; vs_h is clamped to ±1 000 and stored, the target is
recomputed at once, and the reply carries vs_h, trim, target, applied vs and v_play. A value equal to the stored one changes
nothing and is answered OK. A sum beyond ±1 000 is clamped in the target. -/
def Obligations.VarispeedIsStored : Prop :=
  ∀ (tag : Byte) (vsHost x : Int) (s : State), Ready s → x = max (-1000) (min 1000 vsHost) →
    Answered (.setVarispeed tag vsHost) s 0xA2 tag (if x = vsHost then .ok else .okClamped)
      (outS16 x ++ outS16 s.capstan.trim ++ outS16 (max (-1000) (min 1000 (x + s.capstan.trim))) ++ outS16 s.capstan.vs ++
        outU16 (mmPerS s.capstan.vPlay))
      ((restartLinkTimer s).onCapstan fun c => { c with vsHost := x }) ∧
    (∀ c : Capstan, c.vsTarget = max (-1000) (min 1000 (c.vsHost + c.trim))) ∧
    (vsHost = s.capstan.vsHost → -1000 ≤ vsHost → vsHost ≤ 1000 →
      (restartLinkTimer s).onCapstan (fun c => { c with vsHost := x }) = restartLinkTimer s ∧ x = vsHost)

/-- SET_CAPSTAN and SET_LOCK_NOTICE (R79, R77): ℓ outside 5 000 to 200 000 is refused, and a new ℓ while the capstan is not
OFF; otherwise ℓ, w and ρ are stored, w and ρ clamped. The lock notice choice is one of four, and any other value leaves it.
SET_REFERENCE (R78): a source that is none, or an M or D outside 1 to 4 096, is refused BAD_VALUE, and EXTERNAL while an
EXTERNAL reference drives a capstan that is not OFF REF_IN_USE. A request equal to the settings changes nothing. Another,
while the capstan is OFF or in SPINUP, stores them, posts REF SELECTED and, with a new source, restarts the status: PRESENT
at 48 kHz for INTERNAL, ABSENT for EXTERNAL. In UNLOCKED, LOCKED and HOLDOVER the status is ABSENT and the base rate in
force is held, in HOLDOVER. That REF SELECTED shows the status as it stood is inferred (log entry 39), and that it is on the pin before
the reply where the pin is idle (log entry 7). -/
def Obligations.CapstanAndReferenceAreSet : Prop :=
  (∀ (tag : Byte) (apply ell w rho choice : Nat) (s : State), Ready s →
     (apply = 0 → Answered (.setCapstan tag apply ell w rho) s 0xA0 tag .ok (capstanReply s) (restartLinkTimer s)) ∧
     (apply ≠ 0 → ell < 5000 ∨ 200000 < ell → Refuses (.setCapstan tag apply ell w rho) s 0xA0 tag .badValue) ∧
     (apply ≠ 0 → 5000 ≤ ell → ell ≤ 200000 →
       (ell ≠ s.capstan.ell → s.capstan.lock ≠ .off → Refuses (.setCapstan tag apply ell w rho) s 0xA0 tag .lockedInMotion) ∧
       (ell = s.capstan.ell ∨ s.capstan.lock = .off → ∀ w' rho', w' = max 1 (min 64 w) → rho' = max 1 (min 100 rho) →
         ∃ body, Answered (.setCapstan tag apply ell w rho) s 0xA0 tag (if w' = w ∧ rho' = rho then .ok else .okClamped) body
           ((restartLinkTimer s).onCapstan fun c => { c with ell := ell, w := w', rho := rho' }))) ∧
     (3 < choice → Refuses (.setLockNotice tag choice) s 0xA3 tag .badValue) ∧
     (∀ x : LockChoice, x.code = choice →
       Answered (.setLockNotice tag choice) s 0xA3 tag .ok (outCode choice)
         ((restartLinkTimer s).onCapstan fun c => { c with lockChoice := x }))) ∧
  (∀ (tag : Byte) (source m d : Nat) (s : State), Ready s →
     (1 < source ∨ m = 0 ∨ 4096 < m ∨ d = 0 ∨ 4096 < d → Refuses (.setReference tag source m d) s 0xA1 tag .badValue) ∧
     (1 ≤ m → m ≤ 4096 → 1 ≤ d → d ≤ 4096 →
       (source = 1 → s.capstan.source = .external → s.capstan.lock ≠ .off →
         Refuses (.setReference tag source m d) s 0xA1 tag .refInUse) ∧
       ∀ src : RefSource, src.code = source → ¬(src = .external ∧ s.capstan.source = .external ∧ s.capstan.lock ≠ .off) →
         (src = s.capstan.source → m = s.capstan.m → d = s.capstan.d →
           Answered (.setReference tag source m d) s 0xA1 tag .ok (referenceReply s) (restartLinkTimer s)) ∧
         (¬(src = s.capstan.source ∧ m = s.capstan.m ∧ d = s.capstan.d) →
           ∃ t, Answered (.setReference tag source m d) s 0xA1 tag .ok (referenceReply t) t ∧
             OnlyChanges [.capstan, .link] (restartLinkTimer s) t ∧ t.capstan.source = src ∧ t.capstan.m = m ∧ t.capstan.d = d ∧
             t.link = txTake (enqueueNotice (.ref .selected src s.capstan.present) s.link) ∧
             (s.capstan.lock = .off ∨ s.capstan.lock = .spinup →
               t.capstan.lock = s.capstan.lock ∧
               (src = s.capstan.source → t.capstan = { s.capstan with m := m, d := d }) ∧
               (src ≠ s.capstan.source → src = .internal → t.capstan.present = true ∧ t.capstan.fRef = 48000000) ∧
               (src ≠ s.capstan.source → src = .external → t.capstan.present = false ∧ t.capstan.fRef = s.capstan.fRef)) ∧
             (¬(s.capstan.lock = .off ∨ s.capstan.lock = .spinup) →
               t.capstan.lock = .holdover ∧ t.capstan.present = false ∧ t.capstan.presentRun = 0 ∧
               (s.capstan.lock = .holdover → t.capstan.frozenBase = s.capstan.frozenBase) ∧
               (s.capstan.lock ≠ .holdover → t.capstan.frozenBase = some s.capstan.base)))))

/-! ## Requests of the Motion Planner (R86, R87, R90, R92, R93, R97, R102) -/

/-- LOAD (R86, R87): its checks in their order, WRONG_MODE, FAULT_LATCHED, NOT_CONFIGURED, NOT_LOADED, DIRECTION_BLOCKED;
accepted, the mode becomes LOADING in RELEASE, the brakes are commanded released, and the creep direction is forward unless
a block or the zone in force forbids it. UNLOAD (R86, R90): from HOLD the mode becomes UNLOADING in RAMP_DOWN and the
capstan stops; from BRAKED it becomes IDLE at once, with the drives disabled, the brakes commanded applied, the pinch open,
both packs UNKNOWN and no A0; in any other mode it is refused. A latched fault does not refuse it. Of the packs R29 gives the status;
that their other members become what a reset leaves is the model’s choice (log entry 68, and 48 for J), and so are v_ref and the goal
at 0 at once (log entry 86). -/
def Obligations.LoadAndUnloadAnswerByMode : Prop :=
  (∀ (tag : Byte) (s : State), Ready s →
     (s.planner.mode ≠ .idle → Refuses (.load tag) s 0xA8 tag .wrongMode) ∧
     (s.planner.mode = .idle →
       (s.fault.record ≠ none → Refuses (.load tag) s 0xA8 tag .faultLatched) ∧
       (s.fault.record = none →
         (configured s.sense = false → Refuses (.load tag) s 0xA8 tag .notConfigured) ∧
         (configured s.sense = true → ¬(s.sense.ps.state = .present ∧ s.sense.pt.state = .present) →
           Refuses (.load tag) s 0xA8 tag .notLoaded) ∧
         (configured s.sense = true → s.sense.ps.state = .present → s.sense.pt.state = .present →
           (forbidden s .forward = true → forbidden s .reverse = true → Refuses (.load tag) s 0xA8 tag .directionBlocked) ∧
           (∀ d, forbidden s d = false → (d = .reverse → forbidden s .forward = true) →
             ∃ t, Answered (.load tag) s 0xA8 tag .ok [] t ∧ OnlyChanges [.planner, .lines, .fault, .link] s t ∧
               t.planner.mode = .loading ∧ t.planner.sub = some .release ∧ t.planner.creep = d ∧
               t.planner.brake.commandedApplied = false ∧ t.lines.brakeS = false ∧ t.lines.brakeT = false ∧
               t.lines.pinch = s.lines.pinch ∧ t.fault.record = none ∧
               t.planner.vRef = s.planner.vRef ∧ t.planner.stopInForce = s.planner.stopInForce))))) ∧
  (∀ (tag : Byte) (s : State), Ready s →
     (s.planner.mode ≠ .hold → s.planner.mode ≠ .braked → Refuses (.unload tag) s 0xA9 tag .wrongMode) ∧
     (s.planner.mode = .hold →
       ∃ t, Answered (.unload tag) s 0xA9 tag .ok [] t ∧ OnlyChanges [.planner, .capstan, .lines, .fault, .link] s t ∧
         t.planner.mode = .unloading ∧ t.planner.sub = some .rampDown ∧ t.capstan.lock = .off ∧ t.capstan.driveCode =
           (if s.capstan.lock = .off then s.capstan.driveCode else 0) ∧ t.fault.record = s.fault.record) ∧
     (s.planner.mode = .braked →
       ∃ t, Answered (.unload tag) s 0xA9 tag .ok [] t ∧
         OnlyChanges [.planner, .capstan, .servo, .packs, .cues, .lines, .fault, .link] s t ∧ t.planner.mode = .idle ∧
         t.planner.sub = none ∧ t.planner.vRef = 0 ∧ t.planner.goal = 0 ∧ t.planner.stopInForce = none ∧ t.servo.enabled = false ∧
         t.planner.brake.commandedApplied = true ∧ t.planner.pinch.commandedClosed = false ∧ t.lines.brakeS = true ∧
         t.lines.brakeT = true ∧ t.lines.pinch = false ∧ t.capstan.lock = .off ∧ t.packs.a0 = none ∧ t.packs.mismatch = false ∧
         t.packs.pack = .both .unknown ∧ t.packs.profile = s.packs.profile ∧ t.packs.tape = s.packs.tape ∧
         t.cues.list = s.cues.list.map (fun q => { q with mark := .none }) ∧ t.fault.record = s.fault.record))

/-- WIND (R86, R92): refused WRONG_MODE, then FAULT_LATCHED (also while a fault's stop runs), then DIRECTION_BLOCKED; otherwise the
goal is the speed clamped to ±v_max_eff, the mode is WIND, no stop is in force, and the pinch is commanded open. -/
def Obligations.WindTakesAGoal : Prop :=
  ∀ (tag : Byte) (speed goal : Int) (s : State), Ready s → goal = max (-(vMaxEff s : Int)) (min (vMaxEff s) speed) →
    (s.planner.mode ∉ [Mode.hold, .wind, .locate, .engaging, .play, .chase, .stopping] →
      Refuses (.wind tag speed) s 0xAB tag .wrongMode) ∧
    (s.planner.mode ∈ [Mode.hold, .wind, .locate, .engaging, .play, .chase, .stopping] →
      (s.fault.record ≠ none ∨ (s.planner.mode = .stopping ∧ s.planner.stopCause = some .fault) →
        Refuses (.wind tag speed) s 0xAB tag .faultLatched) ∧
      (s.fault.record = none → ¬(s.planner.mode = .stopping ∧ s.planner.stopCause = some .fault) →
        ((0 < goal ∧ forbidden s .forward = true) ∨ (goal < 0 ∧ forbidden s .reverse = true) →
          Refuses (.wind tag speed) s 0xAB tag .directionBlocked) ∧
        (¬(0 < goal ∧ forbidden s .forward = true) → ¬(goal < 0 ∧ forbidden s .reverse = true) →
          ∃ t, Answered (.wind tag speed) s 0xAB tag (if goal = speed then .ok else .okClamped) (outS16 goal) t ∧
            OnlyChanges [.planner, .zones, .cues, .locate, .chase, .capstan, .lines, .fault, .link] s t ∧
            t.planner.mode = .wind ∧ t.planner.goal = goal ∧ t.planner.stopInForce = none ∧ t.planner.stopCause = none ∧
            t.planner.pinch.commandedClosed = false ∧ t.lines.pinch = false ∧
            t.planner.vRef = s.planner.vRef ∧ t.capstan.lock = s.capstan.lock ∧ t.zones.index = s.zones.index ∧
            t.zones.entries = s.zones.entries ∧ t.fault.record = none ∧
            (s.planner.mode = .locate → t.locate = none) ∧ (s.planner.mode = .chase → t.chase.state = .off) ∧
            (s.planner.mode ≠ .chase → t.chase = s.chase))))

/-- PLAY (R86, R93): OK with no change in ENGAGING and PLAY; refused WRONG_MODE, FAULT_LATCHED, DIRECTION_BLOCKED in that order;
otherwise the mode becomes ENGAGING, or PLAY where the pinch is CLOSED, the goal is v_play in mm/s (inferred, log entry 24), and the
capstan has started. -/
def Obligations.PlayEngages : Prop :=
  ∀ (tag : Byte) (s : State), Ready s →
    (s.planner.mode = .engaging ∨ s.planner.mode = .play →
      Answered (.play tag) s 0xAA tag .ok [] (restartLinkTimer s)) ∧
    (s.planner.mode ∉ [Mode.hold, .wind, .locate, .chase, .stopping, .engaging, .play] →
      Refuses (.play tag) s 0xAA tag .wrongMode) ∧
    (s.planner.mode ∈ [Mode.hold, .wind, .locate, .chase, .stopping] →
      (s.fault.record ≠ none ∨ (s.planner.mode = .stopping ∧ s.planner.stopCause = some .fault) →
        Refuses (.play tag) s 0xAA tag .faultLatched) ∧
      (s.fault.record = none → ¬(s.planner.mode = .stopping ∧ s.planner.stopCause = some .fault) →
        (forbidden s .forward = true → Refuses (.play tag) s 0xAA tag .directionBlocked) ∧
        (forbidden s .forward = false →
          ∃ t, Answered (.play tag) s 0xAA tag .ok [] t ∧
            OnlyChanges [.planner, .zones, .cues, .locate, .chase, .capstan, .lines, .fault, .link] s t ∧
            t.planner.mode = (if s.planner.pinch = .closed then .play else .engaging) ∧
            t.planner.pinch = s.planner.pinch ∧ t.lines.pinch = s.lines.pinch ∧
            t.planner.goal = mmPerS t.capstan.vPlay ∧ t.planner.stopInForce = none ∧ t.planner.matchRun = 0 ∧
            t.planner.matchTimer = none ∧ t.capstan.lock = (if s.capstan.lock = .off then .spinup else s.capstan.lock) ∧
            t.planner.vRef = s.planner.vRef ∧ t.fault.record = none ∧
            (s.planner.mode = .locate → t.locate = none) ∧ (s.planner.mode = .chase → t.chase.state = .off))))

/-- STOP (R97, R98): BAD_VALUE for a kind that is none; OK with no change in IDLE, HOLD, UNLOADING, BRAKING and BRAKED, and in
STOPPING unless FAST escalates a CONTROLLED stop; LOADING ends in BRAKED; in any other mode the mode becomes STOPPING with cause
REQUEST and the kind in force, the pinch commanded open. That a load which ends so has v_ref at 0 at once is the model’s choice (log
entry 86). -/
def Obligations.StopBringsTheTapeToRest : Prop :=
  ∀ (tag : Byte) (kind : Nat) (s : State), Ready s →
    (1 < kind → Refuses (.stop tag kind) s 0xAC tag .badValue) ∧
    (kind ≤ 1 → s.planner.mode ∈ [Mode.idle, .hold, .unloading, .braking, .braked] →
      Answered (.stop tag kind) s 0xAC tag .ok [] (restartLinkTimer s)) ∧
    (s.planner.mode = .stopping → ∀ now, s.planner.stopInForce = some now →
      (kind ≤ 1 → kind + 1 ≤ now.code → Answered (.stop tag kind) s 0xAC tag .ok [] (restartLinkTimer s)) ∧
      (now = .controlled →
        ∃ t, Answered (.stop tag 1) s 0xAC tag .ok [] t ∧ OnlyChanges [.planner, .zones, .cues] (restartLinkTimer s) t ∧
          t.planner = { s.planner with stopInForce := some .fast, stopCause := some .request })) ∧
    (kind ≤ 1 → s.planner.mode = .loading →
      ∃ t, Answered (.stop tag kind) s 0xAC tag .ok [] t ∧ OnlyChanges [.planner, .packs, .servo, .lines, .fault, .link] s t ∧
        t.planner.mode = .braked ∧ t.servo.enabled = false ∧ t.planner.brake.commandedApplied = true ∧ t.lines.brakeS = true ∧
        t.lines.brakeT = true ∧ t.planner.stopInForce = none ∧ t.planner.vRef = 0 ∧ t.fault.record = s.fault.record) ∧
    (kind ≤ 1 → s.planner.mode ∈ [Mode.wind, .locate, .engaging, .play, .chase, .survey] → s.planner.stopInForce = none →
      ∃ t, Answered (.stop tag kind) s 0xAC tag .ok [] t ∧
        OnlyChanges [.planner, .zones, .cues, .locate, .chase, .capstan, .survey, .monitor, .lines, .fault, .link] s t ∧
        t.planner.mode = .stopping ∧ t.planner.stopInForce = some (if kind = 0 then .controlled else .fast) ∧
        t.planner.stopCause = some .request ∧ t.planner.goal = 0 ∧ t.planner.vRef = s.planner.vRef ∧
        t.planner.pinch.commandedClosed = false ∧ t.lines.pinch = false ∧ t.capstan.lock = s.capstan.lock ∧
        t.fault.record = s.fault.record ∧ (s.planner.mode = .locate → t.locate = none) ∧
        (s.planner.mode = .chase → t.chase.state = .off) ∧ (s.planner.mode = .survey → surveyRuns t.survey = false))

/-! ## Requests of the Position and Tach Unit (R20, R21) -/

/-- PRESET_POSITION (R20): taken in IDLE, HOLD and BRAKED and refused WRONG_MODE elsewhere, before a value out of range is
refused BAD_VALUE; position is the value and referenced is yes, with the zone in force re-evaluated and no cue reached. A
preset is no motion: the planner, the drives and the packs stay. POSITION_FIX (R21): refused outside PLAY and the MATCH and
LOCKED of a chase, for a value out of range, and for a fix beyond the window, whose distance the refusal carries; otherwise
position is the value and a window other than 0 is stored, clamped to 8 to 8 000. referenced stays. -/
def Obligations.PositionIsSetByTheHost : Prop :=
  (∀ (tag : Byte) (value : Int) (s : State), Ready s →
     (s.planner.mode ∉ [Mode.idle, .hold, .braked] → Refuses (.presetPosition tag value) s 0xB0 tag .wrongMode) ∧
     (s.planner.mode ∈ [Mode.idle, .hold, .braked] →
       (value < -1000000000 ∨ 1000000000 < value → Refuses (.presetPosition tag value) s 0xB0 tag .badValue) ∧
       (-1000000000 ≤ value → value ≤ 1000000000 →
         ∃ t, Answered (.presetPosition tag value) s 0xB0 tag .ok (outS32 value) t ∧
           OnlyChanges [.tach, .zones, .cues, .lines, .monitor, .link] (restartLinkTimer s) t ∧
           t.tach = { s.tach with position := value, referenced := true } ∧ t.zones.index = zoneAt s.zones value ∧
           t.zones.entries = s.zones.entries ∧ t.cues.list = s.cues.list ∧ t.cues.pendingStop = s.cues.pendingStop ∧
           (zoneAt s.zones value = s.zones.index → t.lines = s.lines ∧ t.monitor = s.monitor ∧ t.link = s.link)))) ∧
  (∀ (tag : Byte) (value : Int) (window w : Nat) (s : State), Ready s →
     w = (if window = 0 then s.tach.fixWindow else max 8 (min 8000 window)) →
     (¬(s.planner.mode = .play ∨ (s.planner.mode = .chase ∧ (s.chase.state = .matching ∨ s.chase.state = .locked))) →
       Answered (.positionFix tag value window) s 0xB1 tag .wrongMode (outS32 0) (restartLinkTimer s)) ∧
     (s.planner.mode = .play ∨ (s.planner.mode = .chase ∧ (s.chase.state = .matching ∨ s.chase.state = .locked)) →
       (value < -1000000000 ∨ 1000000000 < value →
         Answered (.positionFix tag value window) s 0xB1 tag .badValue (outS32 0) (restartLinkTimer s)) ∧
       (-1000000000 ≤ value → value ≤ 1000000000 →
         ((w : Int) < value - s.tach.position ∨ (w : Int) < s.tach.position - value →
           Answered (.positionFix tag value window) s 0xB1 tag .fixTooLarge (outS32 (value - s.tach.position))
             (restartLinkTimer s)) ∧
         (value - s.tach.position ≤ w → s.tach.position - value ≤ w →
           ∃ t, Answered (.positionFix tag value window) s 0xB1 tag (if window = 0 ∨ w = window then .ok else .okClamped)
               (outS32 (value - s.tach.position)) t ∧
             t.tach = { s.tach with position := value, fixWindow := w } ∧ t.sense = s.sense ∧ t.params = s.params ∧
             t.held = none ∧ t.freeIndex = s.freeIndex ∧ t.pending = s.pending))))

/-! ## The Zone Table (R111, R112) and the Cue List (R120, R121) -/

/-- SET_ZONE, CLEAR_ZONE and SET_BASE_ZONE (R111, R112): a field out of range is refused BAD_VALUE and a base that is no multiple of
2^k MISALIGNED; otherwise the entry, or the base zone, is replaced, limit and scale clamped, and every other entry stays. -/
def Obligations.ZonesAreEdited : Prop :=
  ∀ (tag : Byte) (index enabled k limit scale dirs inhibit : Nat) (base : Int) (s : State), Ready s →
    s.zones.index = zoneAt s.zones s.tach.position →
    (7 < index ∨ k < 12 ∨ 28 < k ∨ base < -1000000000 ∨ 1000000000 < base ∨ 3 < dirs ∨ 1 < enabled ∨ 1 < inhibit →
      Refuses (.setZone tag index enabled base k limit scale dirs inhibit) s 0xB4 tag .badValue) ∧
    (index ≤ 7 → 12 ≤ k → k ≤ 28 → -1000000000 ≤ base → base ≤ 1000000000 → enabled ≤ 1 → inhibit ≤ 1 →
      ∀ d : ZoneDirs, d.code = dirs →
        (base % 2 ^ k ≠ 0 →
          Refuses (.setZone tag index enabled base k limit scale dirs inhibit) s 0xB4 tag .misaligned) ∧
        (base % 2 ^ k = 0 → ∀ a : ZoneAttrs,
          a = { limit := max 100 (min 12000 limit), scale := max 25 (min 100 scale), dirs := d, inhibit := inhibit == 1 } →
          ∃ t body, Answered (.setZone tag index enabled base k limit scale dirs inhibit) s 0xB4 tag
              (if a.limit = limit ∧ a.scale = scale then .ok else .okClamped) body t ∧
            t.zones.entries = s.zones.entries.set index { enabled := enabled == 1, base := base, k := k, attrs := a } ∧
            t.zones.base = s.zones.base ∧ t.zones.index = zoneAt t.zones s.tach.position ∧ t.tach = s.tach ∧
            t.sense = s.sense ∧ t.packs.profile = s.packs.profile ∧ t.packs.tape = s.packs.tape)) ∧
    (7 < index → Refuses (.clearZone tag index) s 0xB5 tag .badValue) ∧
    (index ≤ 7 → ∃ t body, Answered (.clearZone tag index) s 0xB5 tag .ok body t ∧
      t.zones.entries = s.zones.entries.set index .default ∧ t.zones.base = s.zones.base ∧
      t.zones.index = zoneAt t.zones s.tach.position ∧ t.tach = s.tach ∧ t.sense = s.sense) ∧
    (3 < dirs ∨ 1 < inhibit → Refuses (.setBaseZone tag limit scale dirs inhibit) s 0xB6 tag .badValue) ∧
    (inhibit ≤ 1 → ∀ d : ZoneDirs, d.code = dirs → ∀ a : ZoneAttrs,
      a = { limit := max 100 (min 12000 limit), scale := max 25 (min 100 scale), dirs := d, inhibit := inhibit == 1 } →
      ∃ t, Answered (.setBaseZone tag limit scale dirs inhibit) s 0xB6 tag
          (if a.limit = limit ∧ a.scale = scale then .ok else .okClamped) (zoneAttrBytes a) t ∧
        t.zones.base = a ∧ t.zones.entries = s.zones.entries ∧ t.zones.index = s.zones.index ∧ t.tach = s.tach ∧
        t.sense = s.sense)

/-- ADD_CUE (R120): BAD_VALUE for a field out of range, DUPLICATE for an id or position in the list, LIST_FULL for a 33rd
cue, in that order; otherwise the cue joins before the first cue at a greater position, and nothing else changes. DELETE_CUE
and CLEAR_CUES (R121): NOT_FOUND for an id that is not in the list; otherwise the cue is removed from the list, from the
missed set and from the last-reached memory, and from the planner’s own memories of the cues in force and seen (log entry 52).
CLEAR_CUES does so for every cue of the list. Nothing else changes. -/
def Obligations.CuesAreAddedAndRemoved : Prop :=
  (∀ (tag : Byte) (id kind : Nat) (position : Int) (label : List Byte) (s : State), Ready s →
     (id = 0 ∨ 250 < id ∨ position < -1000000000 ∨ 1000000000 < position ∨ 1 < kind ∨ 12 < label.length ∨
         (∃ b ∈ label, b.toNat < 0x20 ∨ 0x7E < b.toNat) →
       Refuses (.addCue tag id position kind label) s 0xB8 tag .badValue) ∧
     (1 ≤ id → id ≤ 250 → -1000000000 ≤ position → position ≤ 1000000000 → label.length ≤ 12 →
         (∀ b ∈ label, 0x20 ≤ b.toNat ∧ b.toNat ≤ 0x7E) → ∀ ck : CueKind, ck.code = kind →
       ((∃ c ∈ s.cues.list, c.id = id ∨ c.position = position) →
         Refuses (.addCue tag id position kind label) s 0xB8 tag .duplicate) ∧
       ((∀ c ∈ s.cues.list, c.id ≠ id ∧ c.position ≠ position) →
         (32 ≤ s.cues.list.length → Refuses (.addCue tag id position kind label) s 0xB8 tag .listFull) ∧
         (s.cues.list.length < 32 → ∀ before after, s.cues.list = before ++ after → (∀ c ∈ before, c.position < position) →
           (∀ c ∈ after, position < c.position) →
           Answered (.addCue tag id position kind label) s 0xB8 tag .ok (outU8 before.length ++ outU8 (s.cues.list.length + 1))
             ((restartLinkTimer s).onCues fun q =>
               { q with list := before ++ { id := id, position := position, kind := ck, label := label, mark := .none } :: after }))))) ∧
  (∀ (tag : Byte) (id : Nat) (s : State), Ready s →
     ((∀ c ∈ s.cues.list, c.id ≠ id) → Refuses (.deleteCue tag id) s 0xB9 tag .notFound) ∧
     ((∃ c ∈ s.cues.list, c.id = id) →
       ∃ t, Answered (.deleteCue tag id) s 0xB9 tag .ok (outU8 t.cues.list.length) t ∧
         OnlyChanges [.cues, .planner] (restartLinkTimer s) t ∧
         t.cues = { s.cues with list := s.cues.list.filter (fun c => c.id ≠ id), lastReached := s.cues.lastReached.filter (· ≠ id) } ∧
         t.planner =
           { s.planner with
             missed := s.planner.missed.filter (· ≠ id), inForce := s.planner.inForce.filter (fun k => k.1 ≠ id)
             seen := s.planner.seen.filter (fun k => k.1 ≠ id) }) ∧
     ∃ t, Answered (.clearCues tag) s 0xBA tag .ok (outU8 0) t ∧ OnlyChanges [.cues, .planner] (restartLinkTimer s) t ∧
       t.cues.list = [] ∧ t.cues.pendingStop = s.cues.pendingStop ∧
       (∀ i, t.cues.lastReached = some i ↔ s.cues.lastReached = some i ∧ ∀ c ∈ s.cues.list, c.id ≠ i) ∧
       (∀ i, i ∈ t.planner.missed ↔ i ∈ s.planner.missed ∧ ∀ c ∈ s.cues.list, c.id ≠ i) ∧
       (∀ k, k ∈ t.planner.inForce ↔ k ∈ s.planner.inForce ∧ ∀ c ∈ s.cues.list, c.id ≠ k.1) ∧
       (∀ k, k ∈ t.planner.seen ↔ k ∈ s.planner.seen ∧ ∀ c ∈ s.cues.list, c.id ≠ k.1) ∧
       t.planner =
         { s.planner with missed := t.planner.missed, inForce := t.planner.inForce, seen := t.planner.seen })

/-! ## Locate and chase (chapter 7) -/

/-- LOCATE (R128, R129): its checks in their order; accepted, the mode is LOCATE, a chase ends, and the record runs with owner HOST
toward the aim, target less preroll with then_play, in the phase that its distance gives; the target is the position, or the position
of the cue; the parameters are stored, 0 standing for the stored value. That BAD_VALUE looks only at the field that the target kind
uses is inferred (log entry 27). -/
def Obligations.LocateBeginsTowardItsAim : Prop :=
  ∀ (tag : Byte) (kind cueId thenPlay preroll dist speed tol : Nat) (position : Int) (s : State), Ready s →
    (s.planner.mode ∉ [Mode.hold, .wind, .play, .locate, .chase] →
      Refuses (.locate tag kind position cueId thenPlay preroll dist speed tol) s 0xC0 tag .wrongMode) ∧
    (s.planner.mode ∈ [Mode.hold, .wind, .play, .locate, .chase] →
      (s.fault.record ≠ none →
        Refuses (.locate tag kind position cueId thenPlay preroll dist speed tol) s 0xC0 tag .faultLatched) ∧
      (s.fault.record = none →
        (1 < kind ∨ 1 < thenPlay ∨ (kind = 0 ∧ (position < -1000000000 ∨ 1000000000 < position)) ∨
            (kind = 1 ∧ (cueId = 0 ∨ 250 < cueId)) →
          Refuses (.locate tag kind position cueId thenPlay preroll dist speed tol) s 0xC0 tag .badValue) ∧
        (kind = 1 → thenPlay ≤ 1 → 1 ≤ cueId → cueId ≤ 250 → (∀ c ∈ s.cues.list, c.id ≠ cueId) →
          Refuses (.locate tag kind position cueId thenPlay preroll dist speed tol) s 0xC0 tag .notFound) ∧
        (∀ (target aim : Int) (cue : Option Nat), thenPlay ≤ 1 →
          (kind = 0 ∧ -1000000000 ≤ position ∧ position ≤ 1000000000 ∧ target = position ∧ cue = none) ∨
            (kind = 1 ∧ 1 ≤ cueId ∧ cueId ≤ 250 ∧ cue = some cueId ∧
              ∃ before c after, s.cues.list = before ++ c :: after ∧ (∀ q ∈ before, q.id ≠ cueId) ∧ c.id = cueId ∧
                target = c.position) →
          aim = (if thenPlay = 1 then target - min 800000 preroll else target) →
            ((attrsAt s.zones aim).dirs = .none →
              Refuses (.locate tag kind position cueId thenPlay preroll dist speed tol) s 0xC0 tag .targetForbidden) ∧
            ((attrsAt s.zones aim).dirs ≠ .none →
              ((s.tach.position < aim ∧ forbidden s .forward = true) ∨ (aim < s.tach.position ∧ forbidden s .reverse = true) →
                Refuses (.locate tag kind position cueId thenPlay preroll dist speed tol) s 0xC0 tag .directionBlocked) ∧
              (¬(s.tach.position < aim ∧ forbidden s .forward = true) → ¬(aim < s.tach.position ∧ forbidden s .reverse = true) →
                ∃ t l code body,
                  Answered (.locate tag kind position cueId thenPlay preroll dist speed tol) s 0xC0 tag code body t ∧
                  (code = .ok ∨ code = .okClamped) ∧
                  OnlyChanges [.planner, .cues, .params, .locate, .chase, .capstan, .lines, .fault, .link] s t ∧
                  t.planner.mode = .locate ∧ t.planner.vRef = s.planner.vRef ∧ t.planner.pinch.commandedClosed = false ∧
                  t.lines.pinch = false ∧ t.fault.record = none ∧ (s.planner.mode = .chase → t.chase.state = .off) ∧
                  t.capstan.lock = s.capstan.lock ∧
                  t.params =
                    { s.params with
                      approachDist := if dist = 0 then s.params.approachDist else max 1600 (min 800000 dist)
                      approachSpeed := if speed = 0 then s.params.approachSpeed else max 50 (min 2000 speed)
                      tolerance := if tol = 0 then s.params.tolerance else max 1 (min 800 tol) } ∧
                  t.locate = some l ∧ l.owner = .host ∧ l.target = target ∧ l.cueId = cue ∧ l.aim = aim ∧
                  l.thenPlay = (thenPlay == 1) ∧ l.attempts = 0 ∧ l.settleRun = 0 ∧
                  l.dir = (if s.tach.position < aim then .forward else .reverse) ∧
                  l.phase =
                    (if t.params.approachDist < mag (aim - s.tach.position) then .travel
                     else if 1600 < mag (aim - s.tach.position) then .approach
                     else if t.params.tolerance < mag (aim - s.tach.position) then .creep else .settle))))))

/-- CHASE_START (R137): its checks in their order; accepted, the mode is CHASE, and the chase stands in SEEK with no plan,
no master record, no error, trim 0, the silence timer at 0 and the stored lead in force. CHASE_STOP (R146): OK with no
change outside CHASE; in CHASE a CONTROLLED stop with cause REQUEST, the chase OFF, the trim 0, no master record, and the
silence timer stopped. -/
def Obligations.ChaseStartsAndStops : Prop :=
  (∀ (tag : Byte) (window lead flag gain reseek freewheel : Nat) (offset : Int) (s : State), Ready s →
     (s.planner.mode ≠ .hold ∨ s.capstan.lock = .off →
       Refuses (.chaseStart tag offset window lead flag gain reseek freewheel) s 0xC1 tag .wrongMode) ∧
     (s.planner.mode = .hold → s.capstan.lock ≠ .off →
       (s.fault.record ≠ none →
         Refuses (.chaseStart tag offset window lead flag gain reseek freewheel) s 0xC1 tag .faultLatched) ∧
       (s.fault.record = none →
         (offset < -1000000000 ∨ 1000000000 < offset ∨ 1 < flag →
           Refuses (.chaseStart tag offset window lead flag gain reseek freewheel) s 0xC1 tag .badValue) ∧
         (-1000000000 ≤ offset → offset ≤ 1000000000 → flag ≤ 1 →
           (forbidden s .forward = true →
             Refuses (.chaseStart tag offset window lead flag gain reseek freewheel) s 0xC1 tag .directionBlocked) ∧
           (forbidden s .forward = false →
             ∃ t code body, Answered (.chaseStart tag offset window lead flag gain reseek freewheel) s 0xC1 tag code body t ∧
               (code = .ok ∨ code = .okClamped) ∧
               OnlyChanges [.planner, .cues, .params, .chase, .capstan, .lines, .fault, .link] s t ∧
               t.planner.mode = .chase ∧ t.planner.goal = 0 ∧ t.planner.vRef = s.planner.vRef ∧ t.fault.record = none ∧
               t.capstan = { s.capstan with trim := 0 } ∧ t.chase.state = .seek ∧ t.chase.offset = offset ∧
               t.chase.plan = none ∧ t.chase.halting = false ∧ t.chase.master = none ∧ t.chase.e = none ∧
               t.chase.silence = some 0 ∧ t.chase.lead = t.params.lead ∧ t.chase.doublings = 0 ∧ t.chase.inRun = 0 ∧
               t.chase.outRun = 0 ∧
               t.params =
                 { s.params with
                   window := if window = 0 then s.params.window else max 1 (min 800 window)
                   lead := if lead = 0 then s.params.lead else max 500 (min 10000 lead)
                   gain := if flag = 0 then s.params.gain else min 1000 gain
                   reseek := if flag = 0 then s.params.reseek else max 1600 (min 1000000 reseek)
                   freewheel := if flag = 0 then s.params.freewheel else max 200 (min 10000 freewheel) }))))) ∧
  (∀ (tag : Byte) (s : State), Ready s →
     (s.planner.mode ≠ .chase → Answered (.chaseStop tag) s 0xC3 tag .ok [] (restartLinkTimer s)) ∧
     (s.planner.mode = .chase → s.chase.state ≠ .off → s.planner.stopInForce = none →
       ∃ t, Answered (.chaseStop tag) s 0xC3 tag .ok [] t ∧
         OnlyChanges [.planner, .zones, .cues, .locate, .chase, .capstan, .lines, .fault, .link] s t ∧
         t.planner.mode = .stopping ∧ t.planner.stopInForce = some .controlled ∧ t.planner.stopCause = some .request ∧
         t.planner.pinch.commandedClosed = false ∧ t.chase.state = .off ∧ t.capstan = { s.capstan with trim := 0 } ∧
         t.chase.master = none ∧ t.chase.silence = none ∧ t.locate.map (·.owner) ≠ some .chase ∧
         t.fault.record = s.fault.record))

/-- MASTER_POSITION (R138): refused WRONG_MODE outside CHASE and BAD_VALUE for a position out of range; otherwise the record is
stored with its speed clamped, and gives e. In MATCH and LOCKED, the master running and |e| within the reseek threshold, it sets the
trim, and the in-run and out-run of R143, which CHASE_LOCKED and CHASE_LOSS complete. -/
def Obligations.MasterRecordsSetTheTrim : Prop :=
  ∀ (tag : Byte) (position speed v e : Int) (s : State), Ready s → v = max (-12000) (min 12000 speed) →
    e = position + s.chase.offset - s.tach.position →
    (s.planner.mode ≠ .chase → Refuses (.masterPosition tag position speed) s 0xC2 tag .wrongMode) ∧
    (s.planner.mode = .chase →
      (position < -1000000000 ∨ 1000000000 < position → Refuses (.masterPosition tag position speed) s 0xC2 tag .badValue) ∧
      (-1000000000 ≤ position → position ≤ 1000000000 → 0 < speed → mag e ≤ s.params.reseek →
        (s.chase.state = .runup →
          Answered (.masterPosition tag position speed) s 0xC2 tag (if v = speed then .ok else .okClamped)
            (outCode s.chase.state.code ++ outError (some e))
            ((restartLinkTimer s).onChase fun c =>
              { c with master := some { position := position, speed := v, age := 0 }, silence := some 0, e := some e })) ∧
        (s.chase.state = .matching ∨ s.chase.state = .locked →
          ∃ t body, Answered (.masterPosition tag position speed) s 0xC2 tag (if v = speed then .ok else .okClamped) body t ∧
            OnlyChanges [.chase, .capstan, .lines, .monitor, .link] (restartLinkTimer s) t ∧
            t.chase.master = some { position := position, speed := v, age := 0 } ∧ t.chase.silence = some 0 ∧
            t.chase.e = some e ∧
            t.capstan = { s.capstan with trim := max (-200) (min 200 (divTrunc (e * s.params.gain) 256)) } ∧
            (s.chase.state = .matching →
              t.chase.state = (if mag e ≤ s.params.window ∧ 10 ≤ s.chase.inRun + 1 then .locked else .matching) ∧
              t.chase.inRun =
                (if mag e ≤ s.params.window ∧ s.chase.inRun + 1 < 10 then s.chase.inRun + 1 else 0)) ∧
            (s.chase.state = .locked →
              t.chase.state = (if s.params.window < mag e ∧ 4 ≤ s.chase.outRun + 1 then .matching else .locked) ∧
              t.chase.outRun =
                (if s.params.window < mag e ∧ s.chase.outRun + 1 < 4 then s.chase.outRun + 1 else 0)))))

/-- CHASE_LOCKED and CHASE_LOSS are the records at which R143 changes the state, with its CHASE notice: the in-run of MATCH reaches
10 with |e| within the window, or the out-run of LOCKED reaches 4 beyond it, which fires CHASE_LOSSES. In every other state they
change nothing (log entry 3). The other records (R139, R141, R144, R145): the first in SEEK plans a park position and starts its
locate, or ends the chase where the position is out of range or barred; one that finds the chase halting, or seeking or PARKED as the
plan has it, is stored; one that changes the plan retargets the locate, or makes SEEK of PARKED with a new plan; one beyond the reseek threshold or of a stopped master
makes SEEK halting, with the trim 0 and the pinch commanded open (RESEEK where both hold, log entry 58; judged before R143, log entry
42); one within it in FREEWHEEL makes MATCH. Silence (R145): at 200 ms in MATCH or LOCKED the chase freewheels with the trim held,
where the limit is longer; at the limit it ends with cause MASTER_LOST (`ChaseEnds`). The rows that name these expiries are taken at
their word (log entry 6); the unit step that reaches the count (log entry 36) does the same, first of all (log entry 59). A unit step
in PARKED begins the run-up when the remaining distance falls to d_run (R141); one that finds a halting chase at rest with the pinch
OPEN plans anew, or ends the chase FAILED or BLOCKED (R139). The seek locate’s ends (R140): settled, PARKED, or with less than d_run
left LEAD_DOUBLED with a new plan, and after four doublings FAILED; MISSED gives FAILED and BLOCKED BLOCKED. A notice on an idle pin
goes before the reply of its command (log entry 7). Where a chase ends, its notice goes before the MODE notice (log entry 69). That
goals are in mm/s is log entry 24. That the plan is none at a halt and stays RUNNING in the run-up is the model’s choice (log entry
77), and that the notice of a halt shows the trim 0 is inferred (log entry 79). -/
def Obligations.ChaseLockAndSilence : Prop :=
  (∀ (tag : Byte) (position speed v e trim x : Int) (s s' : State) (reply : ChaseState → List Byte) (code : ResultCode)
     (plan : ChasePlan), v = max (-12000) (min 12000 speed) → e = position + s.chase.offset - s.tach.position →
     trim = max (-200) (min 200 (divTrunc (e * s.params.gain) 256)) → code = (if v = speed then .ok else .okClamped) →
     (∀ st, reply st = outCode st.code ++ outError (some e)) → plan = (if 0 < speed then .running else .stopped) →
     x = position + s.chase.offset + (if 0 < speed then divTrunc (v * 80 * s.chase.lead) 1000 else 0) →
     s' = (restartLinkTimer s).onChase (fun c =>
       { c with master := some { position := position, speed := v, age := 0 }, silence := some 0, e := some e }) →
     (¬(Ready s ∧ s.planner.mode = .chase ∧ -1000000000 ≤ position ∧ position ≤ 1000000000 ∧ 0 < speed ∧
         mag e ≤ s.params.reseek ∧ s.chase.state = .matching ∧ mag e ≤ s.params.window ∧ 9 ≤ s.chase.inRun) →
       exec (.chaseLocked tag position speed) s = .next s) ∧
     (¬(Ready s ∧ s.planner.mode = .chase ∧ -1000000000 ≤ position ∧ position ≤ 1000000000 ∧ 0 < speed ∧
         mag e ≤ s.params.reseek ∧ s.chase.state = .locked ∧ s.params.window < mag e ∧ 3 ≤ s.chase.outRun) →
       exec (.chaseLoss tag position speed) s = .next s) ∧
     (Ready s → s.planner.mode = .chase → -1000000000 ≤ position → position ≤ 1000000000 →
       (0 < speed → mag e ≤ s.params.reseek → s.chase.state = .matching → mag e ≤ s.params.window → 9 ≤ s.chase.inRun →
         ∃ t, Answered (.chaseLocked tag position speed) s 0xC2 tag code (reply .locked) t ∧
           exec (.chaseLocked tag position speed) s = exec (.masterPosition tag position speed) s ∧
           OnlyChanges [.chase, .capstan, .lines, .link] s' t ∧
           t.chase = { s'.chase with state := .locked, inRun := 0, outRun := 0 } ∧
           t.capstan = { s.capstan with trim := trim } ∧ t.lines.recordInhibit = s.zones.current.inhibit ∧
           t.link = txTake (enqueueNotice
             (.chase .locked .matching .acquire (some e) trim s.chase.lead s.chase.doublings) s.link)) ∧
       (0 < speed → mag e ≤ s.params.reseek → s.chase.state = .locked → s.params.window < mag e → 3 ≤ s.chase.outRun →
         ∃ t, Answered (.chaseLoss tag position speed) s 0xC2 tag code (reply .matching) t ∧
           exec (.chaseLoss tag position speed) s = exec (.masterPosition tag position speed) s ∧
           OnlyChanges [.chase, .capstan, .lines, .monitor, .link] s' t ∧
           t.chase = { s'.chase with state := .matching, inRun := 0, outRun := 0 } ∧
           t.capstan = { s.capstan with trim := trim } ∧ t.lines.recordInhibit = true ∧
           CountsOnce .chaseLosses s t ∧
           PostsUnlessFreezing (.chase .matching .locked .loss (some e) trim s.chase.lead s.chase.doublings) s t) ∧
       (s.chase.state = .seek → s.chase.halting = true →
         Answered (.masterPosition tag position speed) s 0xC2 tag code (reply .seek) s') ∧
       (s.chase.state = .seek → s.chase.halting = false → s.chase.plan = none →
         (-1000000000 ≤ x → x ≤ 1000000000 → (attrsAt s.zones x).dirs ≠ .none →
           ¬(s.tach.position < x ∧ forbidden s .forward = true) → ¬(x < s.tach.position ∧ forbidden s .reverse = true) →
           ∃ t l, Answered (.masterPosition tag position speed) s 0xC2 tag code (reply .seek) t ∧
             OnlyChanges [.chase, .locate, .planner] s' t ∧ t.chase = { s'.chase with plan := some plan, pPark := x } ∧
             t.locate = some l ∧ l.owner = .chase ∧ l.aim = x ∧ l.thenPlay = false ∧ l.attempts = 0 ∧
             t.planner.mode = .chase ∧ t.planner.vRef = s.planner.vRef) ∧
         (x < -1000000000 ∨ 1000000000 < x ∨ (attrsAt s.zones x).dirs = .none ∨
             (s.tach.position < x ∧ forbidden s .forward = true) ∨ (x < s.tach.position ∧ forbidden s .reverse = true) →
           s.planner.stopInForce = none →
           ∃ t, Answered (.masterPosition tag position speed) s 0xC2 tag code (reply .off) t ∧ t.chase.state = .off ∧
             t.capstan = { s.capstan with trim := 0 } ∧
             t.planner.mode = (if s.planner.vRef = 0 then .hold else .stopping))) ∧
       (s.chase.state = .seek → s.chase.halting = false → ∀ l, s.locate = some l → l.owner = .chase →
         ((s.chase.plan = some .running ∧ 0 < speed) ∨ (s.chase.plan = some .stopped ∧ speed ≤ 0 ∧
             mag (position + s.chase.offset - l.aim) ≤ s.params.window) →
           Answered (.masterPosition tag position speed) s 0xC2 tag code (reply .seek) s') ∧
         ((s.chase.plan = some .running ∧ speed ≤ 0) ∨ (s.chase.plan = some .stopped ∧
             (0 < speed ∨ s.params.window < mag (position + s.chase.offset - l.aim))) →
           -1000000000 ≤ x → x ≤ 1000000000 → (attrsAt s.zones x).dirs ≠ .none →
           ¬(s.tach.position < x ∧ forbidden s .forward = true) → ¬(x < s.tach.position ∧ forbidden s .reverse = true) →
           ∃ t l', Answered (.masterPosition tag position speed) s 0xC2 tag code (reply .seek) t ∧
             OnlyChanges [.chase, .locate, .planner] s' t ∧ t.chase = { s'.chase with plan := some plan, pPark := x } ∧
             t.locate = some l' ∧ l'.owner = .chase ∧ l'.aim = x ∧ l'.thenPlay = false ∧ l'.attempts = 0 ∧
             t.planner.mode = .chase ∧ t.planner.vRef = s.planner.vRef)) ∧
       (s.chase.state = .parked →
         ((s.chase.plan = some .running ∧ 0 < speed) ∨
             (s.chase.plan = some .stopped ∧ speed ≤ 0 ∧ mag (position + s.chase.offset - s.chase.pPark) ≤ s.params.window) →
           Answered (.masterPosition tag position speed) s 0xC2 tag code (reply .parked) s') ∧
         ((s.chase.plan = some .running ∧ speed ≤ 0) ∨ (s.chase.plan = some .stopped ∧
             (0 < speed ∨ s.params.window < mag (position + s.chase.offset - s.chase.pPark))) →
           -1000000000 ≤ x → x ≤ 1000000000 → (attrsAt s.zones x).dirs ≠ .none →
           ¬(s.tach.position < x ∧ forbidden s .forward = true) → ¬(x < s.tach.position ∧ forbidden s .reverse = true) →
           ∃ t l, Answered (.masterPosition tag position speed) s 0xC2 tag code (reply .seek) t ∧
             OnlyChanges [.chase, .locate, .planner, .lines, .link] s' t ∧
             t.chase = { s'.chase with state := .seek, plan := some plan, pPark := x, halting := false } ∧
             t.locate = some l ∧ l.owner = .chase ∧ l.aim = x ∧ l.thenPlay = false ∧
             t.link = txTake (enqueueNotice
               (.chase .seek .parked
                 (if s.chase.plan = some .running then .masterStopped else if 0 < speed then .masterStarted else .masterMoved)
                 (some e) s.capstan.trim s.chase.lead s.chase.doublings) s.link))) ∧
       (s.chase.state ∈ [ChaseState.runup, .matching, .locked, .freewheel] → s.params.reseek < mag e ∨ speed ≤ 0 →
         ∃ t, Answered (.masterPosition tag position speed) s 0xC2 tag code (reply .seek) t ∧
           OnlyChanges [.chase, .capstan, .planner, .lines, .link] s' t ∧
           t.chase = { s'.chase with state := .seek, halting := true, plan := none, inRun := 0, outRun := 0 } ∧
           t.capstan = { s.capstan with trim := 0 } ∧ t.planner.mode = .chase ∧ t.planner.goal = 0 ∧
           t.planner.stopInForce = s.planner.stopInForce ∧ t.planner.vRef = s.planner.vRef ∧
           t.planner.pinch.commandedClosed = false ∧ t.lines.pinch = false ∧
           (s.chase.state ≠ .freewheel → t.link = txTake (enqueueNotice
             (.chase .seek s.chase.state (if s.params.reseek < mag e then .reseek else .masterStopped) (some e) 0 s.chase.lead
               s.chase.doublings) s.link))) ∧
       (s.chase.state = .freewheel → 0 < speed → mag e ≤ s.params.reseek → s.chase.inRun < 9 →
         ∃ t, Answered (.masterPosition tag position speed) s 0xC2 tag code (reply .matching) t ∧
           OnlyChanges [.chase, .capstan, .lines, .link] s' t ∧
           t.chase =
             { s'.chase with
               state := .matching, inRun := if mag e ≤ s.params.window then s.chase.inRun + 1 else 0 } ∧
           t.capstan = { s.capstan with trim := trim } ∧
           t.link = txTake (enqueueNotice
             (.chase .matching .freewheel .resumed (some e) s.capstan.trim s.chase.lead s.chase.doublings) s.link)))) ∧
  ∀ s : State, s.held = none →
    (¬((s.chase.state = .matching ∨ s.chase.state = .locked) ∧ 200 < s.params.freewheel) →
      exec .chaseSilence s = .next s) ∧
    (s.chase.state = .matching ∨ s.chase.state = .locked → 200 < s.params.freewheel →
      ∃ t, exec .chaseSilence s = .next t ∧ OnlyChanges [.chase, .lines, .link] s t ∧ t.chase.state = .freewheel ∧
        t.chase.inRun = 0 ∧ t.chase.outRun = 0 ∧ t.chase.master = s.chase.master ∧ t.lines.recordInhibit = inhibitLevel t ∧
        t.link = txTake (enqueueNotice
          (.chase .freewheel s.chase.state .silence s.chase.e s.capstan.trim s.chase.lead s.chase.doublings) s.link)) ∧
    (s.chase.state = .off → exec .chaseMasterLost s = .next s) ∧
    (s.chase.state ≠ .off → s.planner.mode = .chase → s.planner.stopInForce = none → ChaseEnds .chaseMasterLost s .masterLost) ∧
    ∀ (n : Nat) (c : Chase), s.chase.state ≠ .off → s.chase.silence = some n →
      c = { s.chase with silence := some (n + 1), master := s.chase.master.map fun m => { m with age := m.age + 1 } } →
      (∀ (m : MasterRec) (x pred rest dRun : Int) (lead : Nat) (reach : Prop), s.planner.mode = .chase →
        s.planner.stopInForce = none → s.chase.state = .seek → n + 1 < 4 * s.params.freewheel → s.chase.master = some m →
        pred = m.position + divTrunc (m.speed * 80 * ((m.age + 1) / 4 : Nat)) 1000 →
        x = pred + s.chase.offset + (if 0 < m.speed then divTrunc (m.speed * 80 * lead) 1000 else 0) →
        (reach ↔ (attrsAt s.zones x).dirs ≠ .none ∧ ¬(s.tach.position < x ∧ forbidden s .forward = true) ∧
          ¬(x < s.tach.position ∧ forbidden s .reverse = true)) →
        rest = s.chase.pPark - (pred + s.chase.offset) →
        dRun = divCeil (mmPerS s.capstan.vPlay ^ 2 * 40) (aAccEff s .forward) →
        (s.locate = none → s.chase.halting = true → s.planner.vRef = 0 → s.planner.pinch = .opened → lead = s.chase.lead →
          (-1000000000 ≤ x → x ≤ 1000000000 → reach →
            ∃ t l, exec .locateUnitStep s = .next t ∧ OnlyChanges [.chase, .locate, .planner] s t ∧
              t.chase = { c with plan := some (if 0 < m.speed then .running else .stopped), pPark := x, halting := false } ∧
              t.locate = some l ∧ l.owner = .chase ∧ l.aim = x ∧ l.thenPlay = false ∧ l.attempts = 0 ∧
              t.planner.mode = .chase ∧ t.planner.vRef = 0) ∧
          (x < -1000000000 ∨ 1000000000 < x → ChaseEnds .locateUnitStep s .failed) ∧
          (-1000000000 ≤ x → x ≤ 1000000000 → ¬reach → ChaseEnds .locateUnitStep s .blocked)) ∧
        ∀ l, s.locate = some l → l.owner = .chase →
          (l.phase = .settle → 39 ≤ l.settleRun → mag s.tach.vMeas < 2000 → mag (l.aim - s.tach.position) ≤ s.params.tolerance →
            (s.chase.plan ≠ some .running ∨ dRun ≤ rest →
              ∃ t, exec .locateUnitStep s = .next t ∧ OnlyChanges [.chase, .locate, .planner, .lines, .link] s t ∧
                t.chase = { c with state := .parked } ∧ t.locate = none ∧
                t.planner = { s.planner with goal := 0, unitPoints := [] } ∧
                t.link = txTake (enqueueNotice
                  (.chase .parked .seek .acquire s.chase.e s.capstan.trim s.chase.lead s.chase.doublings) s.link)) ∧
            (s.chase.plan = some .running → rest < dRun →
              (s.chase.doublings < 4 → lead = 2 * s.chase.lead → -1000000000 ≤ x → x ≤ 1000000000 → reach →
                ∃ t l', exec .locateUnitStep s = .next t ∧ OnlyChanges [.chase, .locate, .planner, .lines, .link] s t ∧
                  t.chase =
                    { c with
                      plan := some (if 0 < m.speed then .running else .stopped), pPark := x, halting := false, lead := lead
                      doublings := s.chase.doublings + 1 } ∧
                  t.locate = some l' ∧ l'.owner = .chase ∧ l'.aim = x ∧ l'.thenPlay = false ∧ l'.attempts = 0 ∧
                  t.planner.mode = .chase ∧ t.planner.vRef = s.planner.vRef ∧
                  t.link = txTake (enqueueNotice
                    (.chase .seek .seek .leadDoubled s.chase.e s.capstan.trim lead (s.chase.doublings + 1)) s.link)) ∧
              (4 ≤ s.chase.doublings → ChaseEnds .locateUnitStep s .failed))) ∧
          (l.phase = .creep → s.planner.vRef ≠ 0 → s.params.tolerance < mag (l.aim - s.tach.position) →
            (l.dir = .forward ∧ l.aim < s.tach.position) ∨ (l.dir = .reverse ∧ s.tach.position < l.aim) →
            (3 ≤ l.attempts → ChaseEnds .locateUnitStep s .failed) ∧
            (l.attempts < 3 → forbidden s (if l.dir = .forward then .reverse else .forward) = true →
              ChaseEnds .locateUnitStep s .blocked))) ∧
      (s.locate = none → 4 * s.params.freewheel ≤ n + 1 → exec .locateUnitStep s = exec .chaseMasterLost s) ∧
      (s.locate = none → n + 1 < 4 * s.params.freewheel →
        (s.chase.state = .matching ∨ s.chase.state = .locked → n + 1 = 800 →
          ∃ t, exec .locateUnitStep s = .next t ∧ OnlyChanges [.chase, .planner, .lines, .link] s t ∧
            t.chase = { c with state := .freewheel, inRun := 0, outRun := 0 }) ∧
        (s.chase.state = .seek →
            ¬(s.chase.halting = true ∧ s.planner.vRef = 0 ∧ s.planner.pinch = .opened ∧ s.chase.master ≠ none) →
          exec .locateUnitStep s = .next ((s.onChase fun _ => c).onPlanner fun p => { p with goal := 0 })) ∧
        (s.chase.state = .parked →
          (s.chase.plan ≠ some .running → exec .locateUnitStep s = .next (s.onChase fun _ => c)) ∧
          ∀ (m : MasterRec) (rest dRun : Int), s.chase.plan = some .running → s.chase.master = some m →
            rest = s.chase.pPark - (m.position + divTrunc (m.speed * 80 * ((m.age + 1) / 4 : Nat)) 1000 + s.chase.offset) →
            dRun = divCeil (mmPerS s.capstan.vPlay ^ 2 * 40) (aAccEff s .forward) →
            (dRun < rest → exec .locateUnitStep s = .next (s.onChase fun _ => c)) ∧
            (rest ≤ dRun →
              ∃ t, exec .locateUnitStep s = .next t ∧ OnlyChanges [.chase, .planner, .lines, .link] s t ∧
                t.chase = { c with state := .runup } ∧
                t.planner =
                  { s.planner with goal := mmPerS s.capstan.vPlay, matchRun := 0, matchTimer := none })))

/-- A unit step of a host's locate (R130 to R134, R136). In TRAVEL and APPROACH the phase follows the distance D, CREEP is reached
from either, and each publishes its goal and drop point (Table 7-3). CREEP within the tolerance makes SETTLE; passed the aim it
re-approaches: attempts and LOCATE_APPROACHES count, the direction turns to the aim; a fourth is MISSED, one in a forbidden
direction BLOCKED. At v_ref 0 outside SETTLE a path to the aim with a boundary into a zone that forbids the direction ends it
BLOCKED (before the checks of CREEP: log entry 57), with HOLD after its LOCATE_DONE (log entry 28). In SETTLE the run counts steps
with |v_meas| below 2 mm/s; LOCATE_SETTLED is the step at which it reaches 40: out of tolerance it re-approaches, within it the
locate is DONE: HOLD, or, with then_play and forward allowed, ENGAGING as a PLAY from HOLD (its goal in mm/s, log entry 24).
Elsewhere LOCATE_SETTLED changes nothing (log entry 3). That a re-approach keeps the settle run is the model’s choice (log entry 78). -/
def Obligations.LocateSettlesIntoHold : Prop :=
  (∀ s : State, s.held = none → (∀ l, s.locate = some l → l.phase ≠ .settle) → exec .locateSettled s = .next s) ∧
  ∀ (l : LocateRec) (s : State) (x : Int) (dist run : Nat) (d : Dir) (barred : Prop) (goal : LocatePhase → Int)
    (points : LocatePhase → List DropPoint) (publish : LocateRec → State),
    s.held = none → s.chase.state = .off → s.locate = some l → l.owner = .host → s.planner.mode = .locate →
    s.planner.stopInForce = none → x = s.tach.position → dist = mag (l.aim - x) →
    d = (if x < l.aim then .forward else if l.aim < x then .reverse else l.dir) →
    run = (if mag s.tach.vMeas < 2000 then l.settleRun + 1 else 0) →
    (barred ↔ s.planner.vRef = 0 ∧ x ≠ l.aim ∧
      ∃ b ∈ boundariesAhead s.zones d x, aheadOf d l.aim b = false ∧ (attrsAt s.zones b).dirs.allows d = false) →
    (goal .travel = signedBy d (vMaxEff s) ∧ goal .approach = signedBy d s.params.approachSpeed ∧
      goal .creep = signedBy d (min 50 (isqrt (aDecEff s d * dist / 40).toNat) : Nat) ∧ goal .settle = 0) →
    (points .travel =
        [{ pos := l.aim - signedBy l.dir s.params.approachDist, limit := s.params.approachSpeed, guard := 0 }] ∧
      points .approach = [{ pos := l.aim - signedBy l.dir 1600, limit := 50, guard := 0 }] ∧ points .creep = [] ∧
      points .settle = []) →
    (∀ r, publish r =
      (s.onLocate fun _ => some r).onPlanner fun p => { p with goal := goal r.phase, unitPoints := points r.phase }) →
    (l.phase ≠ .settle → barred → LocateEnds .locateUnitStep s l .blocked) ∧
    (¬barred →
      (l.phase = .travel ∨ l.phase = .approach →
        exec .locateUnitStep s = .next (publish { l with phase :=
          if dist ≤ 1600 then .creep else if dist ≤ s.params.approachDist then .approach else l.phase })) ∧
      (l.phase = .creep → dist ≤ s.params.tolerance →
        exec .locateUnitStep s = .next (publish { l with phase := .settle, settleRun := 0 })) ∧
      (l.phase = .creep → s.params.tolerance < dist → d = l.dir → exec .locateUnitStep s = .next (publish l))) ∧
    (l.phase = .settle → run < 40 →
      exec .locateSettled s = .next s ∧ exec .locateUnitStep s = .next (publish { l with settleRun := run })) ∧
    (l.phase = .settle → 40 ≤ run → exec .locateSettled s = exec .locateUnitStep s) ∧
    (s.params.tolerance < dist → (l.phase = .creep ∧ ¬barred ∧ d ≠ l.dir) ∨ (l.phase = .settle ∧ 40 ≤ run) →
      (3 ≤ l.attempts → LocateEnds .locateUnitStep s l .missed) ∧
      (l.attempts < 3 → forbidden s d = true → LocateEnds .locateUnitStep s l .blocked) ∧
      (l.attempts < 3 → forbidden s d = false →
        ∃ t, exec .locateUnitStep s = .next t ∧ OnlyChanges [.planner, .locate, .monitor, .link] s t ∧
          t.locate = some
            { l with
              attempts := l.attempts + 1, dir := d, phase := .creep
              settleRun := if l.phase = .settle then run else l.settleRun } ∧
          t.planner = { s.planner with goal := goal .creep, unitPoints := [] } ∧ CountsOnce .locateApproaches s t)) ∧
    (l.phase = .settle → 40 ≤ run → dist ≤ s.params.tolerance →
      (l.thenPlay = false ∨ forbidden s .forward = true → LocateEnds .locateUnitStep s l .done) ∧
      (l.thenPlay = true → forbidden s .forward = false →
        ∃ t, exec .locateUnitStep s = .next t ∧
          OnlyChanges [.planner, .zones, .cues, .locate, .capstan, .lines, .fault, .link] s t ∧ t.locate = none ∧
          t.planner.mode = (if s.planner.pinch = .closed then .play else .engaging) ∧
          t.planner.goal = mmPerS t.capstan.vPlay ∧ t.planner.pinch = s.planner.pinch ∧ t.lines.pinch = s.lines.pinch ∧
          t.planner.matchRun = 0 ∧ t.planner.matchTimer = none ∧ t.planner.vRef = s.planner.vRef ∧
          t.capstan.lock = (if s.capstan.lock = .off then .spinup else s.capstan.lock) ∧
          (s.capstan.lock ≠ .off → t.capstan = s.capstan) ∧ t.zones = { s.zones with pendingBlock := none } ∧
          (∀ i, i ∈ t.planner.missed ↔
            ∃ c ∈ s.cues.list, c.id = i ∧ c.kind = .autoStop ∧ mag (c.position - x) ≤ 8) ∧
          t.cues.list.map (·.id) = s.cues.list.map (·.id) ∧ t.fault.record = s.fault.record ∧
          t.link = txTake (enqueueNotice (.mode t.planner.mode none .locate none .locate) (txTake (enqueueNotice
            (.locateDone .done l.target l.aim x (x - l.aim) l.attempts true) s.link)))))

/-! ## The Transport Monitor and the Tension Survey (chapter 9) -/

/-- SET_COUNTER (R166): with the apply flag clear it reports and changes nothing; with it set its checks run in their order,
and the control record is stored with holder HOST and the edge memory false; value, overflow flag and the other counters are
kept. FREEZE, UNFREEZE, RESET_COUNTERS and READ_COUNTERS (R167, R168, R171): UNFREEZE is refused BUSY, with its whole
payload, while an overflow flag stands with its notice on; a reset, or a clearing read after its snapshot, zeroes every
value and overflow flag but those of counters 2 and 3 while a survey runs. -/
def Obligations.CountersAreSetReadAndFrozen : Prop :=
  (∀ (tag : Byte) (n event qualifier edge invert threshold ovf enable : Nat) (s : State), Ready s →
     (n < 4 →
       Answered (.setCounter tag n 0 event qualifier edge invert threshold ovf enable) s 0xC8 tag .ok
         (counterBytes n (s.monitor.counters.get n)) (restartLinkTimer s)) ∧
     (3 < n ∨ 13 < event ∨ 7 < qualifier ∨ 1 < edge ∨ 1 < invert ∨ 1 < ovf ∨ 1 < enable ∨ (event = 5 ∧ n < 2) →
       Refuses (.setCounter tag n 1 event qualifier edge invert threshold ovf enable) s 0xC8 tag .badValue) ∧
     (n ≤ 3 → edge ≤ 1 → invert ≤ 1 → ovf ≤ 1 → enable ≤ 1 → ¬(event = 5 ∧ n < 2) →
       ∀ (ev : MonEvent) (q : Qualifier), ev.code = event → q.bits = qualifier →
         (2 ≤ n → surveyRuns s.survey = true →
           Refuses (.setCounter tag n 1 event qualifier edge invert threshold ovf enable) s 0xC8 tag .resourceHeld) ∧
         (n < 2 ∨ surveyRuns s.survey = false →
           ∃ t, Answered (.setCounter tag n 1 event qualifier edge invert threshold ovf enable) s 0xC8 tag
               (if threshold ≤ 1000 then .ok else .okClamped) (counterBytes n (t.monitor.counters.get n)) t ∧
             OnlyChanges [.monitor] (restartLinkTimer s) t ∧ t.monitor.frozen = s.monitor.frozen ∧
             t.monitor.counters.get n =
               { event := ev, qualifier := q, edge := edge == 1, invert := invert == 1, threshold := min 1000 threshold,
                 ovfNotice := ovf == 1, enable := enable == 1, holder := .host, value := (s.monitor.counters.get n).value,
                 overflow := (s.monitor.counters.get n).overflow, edgeMem := false } ∧
             ∀ k < 4, k ≠ n → t.monitor.counters.get k = s.monitor.counters.get k))) ∧
  (∀ (tag : Byte) (clear : Nat) (s : State), Ready s →
     Answered (.freeze tag) s 0xCA tag .ok (outFlag true ++ outU8 (overflowBits s.monitor))
       ((restartLinkTimer s).onMonitor fun m => { m with frozen := true }) ∧
     ((∃ n < 4, (s.monitor.counters.get n).overflow = true ∧ (s.monitor.counters.get n).ovfNotice = true) →
       Answered (.unfreeze tag) s 0xCB tag .busy (freezeReply s) (restartLinkTimer s)) ∧
     ((∀ n < 4, ¬((s.monitor.counters.get n).overflow = true ∧ (s.monitor.counters.get n).ovfNotice = true)) →
       Answered (.unfreeze tag) s 0xCB tag .ok (outFlag false ++ outU8 (overflowBits s.monitor))
         ((restartLinkTimer s).onMonitor fun m => { m with frozen := false })) ∧
     (1 < clear → Refuses (.readCounters tag clear) s 0xC9 tag .badValue) ∧
     Answered (.readCounters tag 0) s 0xC9 tag .ok (countersReply s.monitor) (restartLinkTimer s) ∧
     ∃ t, Answered (.resetCounters tag) s 0xCC tag .ok (freezeReply t) t ∧
       Answered (.readCounters tag 1) s 0xC9 tag .ok (countersReply s.monitor) t ∧ OnlyChanges [.monitor] (restartLinkTimer s) t ∧
       t.monitor.frozen = s.monitor.frozen ∧
       ∀ n < 4, t.monitor.counters.get n =
         if 2 ≤ n ∧ surveyRuns s.survey = true then s.monitor.counters.get n
         else { s.monitor.counters.get n with value := 0, overflow := false })

/-- R164: one occurrence of an edge-type event adds 1 to every enabled counter that selects it and whose qualifier admits it, and
nothing to any other: a per-reel event where its reel is in the qualifier, a capstan event where the capstan is, a whole-part
event by any non-empty qualifier. The edge memories stay. While the monitor is FROZEN none is added. -/
def Obligations.EdgeEventsAreCounted : Prop :=
  ∀ (ev : MonEvent) (source : EventSource) (s : State), ∃ t, monitorEvent ev source s = t ∧
    OnlyChanges [.monitor, .link] s t ∧ (s.monitor.frozen = true → t = s) ∧
    (s.monitor.frozen = false → ∀ n < 4, ∀ c, c = s.monitor.counters.get n →
      (t.monitor.counters.get n).edgeMem = c.edgeMem ∧ (t.monitor.counters.get n).enable = c.enable ∧
      (∀ r, source = .reel r → (t.monitor.counters.get n).value =
        if c.enable ∧ c.event = ev ∧ c.qualifier.hasReel r then (c.value + 1) % 4294967296 else c.value) ∧
      (source = .capstan → (t.monitor.counters.get n).value =
        if c.enable ∧ c.event = ev ∧ c.qualifier.capstan then (c.value + 1) % 4294967296 else c.value) ∧
      (source = .whole → (t.monitor.counters.get n).value =
        if c.enable ∧ c.event = ev ∧ (c.qualifier.supply ∨ c.qualifier.takeup ∨ c.qualifier.capstan) then
          (c.value + 1) % 4294967296
        else c.value))

/-- R163: at a monitor sample an enabled EXCURSION counter adds, for each qualified reel whose |p| exceeds the threshold, the amount
|p| − threshold: at most 2 000 with both arms within ±1 000. Edge and invert do not act on it, nor on an edge-type event; the
threshold acts on SLACK_SAMPLES, HIGH_SAMPLES and EXCURSION only; with threshold 0 and no invert nor edge, SLACK_SAMPLES counts
every sample with a qualified arm at or below centre, and EXCURSION sums the deflections. A servo sample with no run near its end
adds that to each counter, modulo 2^32, unless the monitor is FROZEN. SET_COUNTER refuses EXCURSION on counters 0 and 1. -/
def Obligations.ExcursionSumsTheDeflection : Prop :=
  ∀ (c : Counter) (v : SampleView),
    (c.event = .excursion → c.enable = true →
      c.sampleGain v =
        (if c.qualifier.supply ∧ c.threshold < mag v.p.supply then mag v.p.supply - c.threshold else 0) +
          (if c.qualifier.takeup ∧ c.threshold < mag v.p.takeup then mag v.p.takeup - c.threshold else 0)) ∧
    (c.event = .excursion → mag v.p.supply ≤ 1000 → mag v.p.takeup ≤ 1000 → c.sampleGain v ≤ 2000) ∧
    (c.event ∉ [MonEvent.servoSamples, .movingSamples, .slackSamples, .highSamples, .saturatedSamples] → ∀ e i,
      ({ c with edge := e, invert := i } : Counter).sampleGain v = c.sampleGain v) ∧
    (c.event ∉ [MonEvent.slackSamples, .highSamples, .excursion] → ∀ n,
      ({ c with threshold := n } : Counter).sampleGain v = c.sampleGain v) ∧
    (c.enable = true → c.threshold = 0 → c.edge = false → c.invert = false →
      (c.event = .slackSamples → (c.sampleGain v = 1 ↔
        (c.qualifier.supply = true ∧ v.p.supply ≤ 0) ∨ (c.qualifier.takeup = true ∧ v.p.takeup ≤ 0))) ∧
      (c.event = .excursion → c.qualifier.supply = true → c.qualifier.takeup = true →
        c.sampleGain v = mag v.p.supply + mag v.p.takeup)) ∧
    (∀ s t : State, s.held = none → s.servo.enabled = true → s.survey.state ≠ .running → s.monitor.frozen = false →
      (∀ r, (s.servo.reels.get r).satRun < 799 ∧ (s.servo.reels.get r).slackRun < 7 ∧ (s.servo.reels.get r).overRun < 7) →
      exec .servoSample s = .next t →
      v = { p := s.sense.arms.map (·.p), saturated := t.servo.reels.map (·.sat.isSome), vMeas := s.tach.vMeas } →
      ∀ n < 4, c = s.monitor.counters.get n → (t.monitor.counters.get n).value =
        if c.sampleGain v = 0 then c.value else (c.value + c.sampleGain v) % 4294967296) ∧
    ∀ (tag : Byte) (n qualifier edge invert threshold ovf enable : Nat) (s : State), Ready s → n < 2 →
      Refuses (.setCounter tag n 1 5 qualifier edge invert threshold ovf enable) s 0xC8 tag .badValue

/-- SURVEY_START (R170, R171): its seven checks in their order, TARGET_FORBIDDEN by the zone of `from` and by every boundary of the run,
DIRECTION_BLOCKED by a block of the survey direction or of the way to `from`; accepted, the mode is SURVEY, the request is stored with
its clamps and replied with the survey direction and the fast threshold, counters 2 and 3 are taken with their values kept, and a
locate to the start runs with owner SURVEY. SURVEY_ABORT (R176): OK with no change while no survey runs. A running survey ends ABORTED with reason
REQUEST, its counters released with their values kept, and the tape comes to HOLD, at once where v_ref is 0 and otherwise by
a CONTROLLED stop. The survey floor (R177): the lowest tension among the steps that were ended by DWELL or LIMIT with a
slack count of 0, and none if there is no such step. -/
def Obligations.SurveysStartAndAbort : Prop :=
  (∀ (tag : Byte) (start finish step : Int) (speed tension count dwell src limit slackThr excThr fast thres shift : Nat)
     (s : State) (c : Instr), Ready s →
     c = .surveyStart tag start finish speed tension step count dwell src limit slackThr excThr fast thres shift →
     (s.planner.mode ≠ .hold → Refuses c s 0xD0 tag .wrongMode) ∧
     (s.planner.mode = .hold → s.fault.record ≠ none → Refuses c s 0xD0 tag .faultLatched) ∧
     (s.planner.mode = .hold → s.fault.record = none →
       (start < -1000000000 ∨ 1000000000 < start ∨ finish < -1000000000 ∨ 1000000000 < finish ∨ start = finish ∨ step = 0 ∨
           count = 0 ∨ 32 < count ∨ 2 < src ∨ (src ≠ 0 ∧ limit = 0) ∨ 1 < fast ∨ 7 < thres ∨ 15 < shift →
         Refuses c s 0xD0 tag .badValue) ∧
       (-1000000000 ≤ start → start ≤ 1000000000 → -1000000000 ≤ finish → finish ≤ 1000000000 → start ≠ finish → step ≠ 0 →
           1 ≤ count → count ≤ 32 → src ≤ 2 → (src ≠ 0 → limit ≠ 0) → fast ≤ 1 → thres ≤ 7 → shift ≤ 15 →
         ((s.monitor.counters.c2.enable = true ∧ s.monitor.counters.c2.holder = .host) ∨
             (s.monitor.counters.c3.enable = true ∧ s.monitor.counters.c3.holder = .host) →
           Refuses c s 0xD0 tag .resourceHeld) ∧
         (¬(s.monitor.counters.c2.enable = true ∧ s.monitor.counters.c2.holder = .host) →
           ¬(s.monitor.counters.c3.enable = true ∧ s.monitor.counters.c3.holder = .host) →
           (s.monitor.frozen = true → Refuses c s 0xD0 tag .busy) ∧
           (s.monitor.frozen = false → ∀ (d : Dir) (forb blk : Prop), d = (if start < finish then .forward else .reverse) →
             (forb ↔ (attrsAt s.zones start).dirs = .none ∨ (attrsAt s.zones start).dirs.allows d = false ∨
               ∃ b ∈ boundariesAhead s.zones d start, aheadOf d finish b = false ∧ (attrsAt s.zones b).dirs.allows d = false) →
             (blk ↔ s.planner.blocked d = true ∨ (s.tach.position < start ∧ s.planner.fwdBlocked = true) ∨
               (start < s.tach.position ∧ s.planner.revBlocked = true)) →
             (forb → Refuses c s 0xD0 tag .targetForbidden) ∧
             (¬forb → blk → Refuses c s 0xD0 tag .directionBlocked) ∧
             (¬forb → ¬blk →
             ∃ t q l, Answered c s 0xD0 tag
                 (if q.speed = speed ∧ q.tension = tension ∧ q.step = step ∧ q.dwell = dwell ∧ q.slackThr = slackThr ∧
                   q.excThr = excThr then .ok else .okClamped)
                 (outS32 start ++ outS32 finish ++ outU16 q.speed ++ outU16 q.tension ++ outS8 q.step ++ outU8 count ++
                   outU16 q.dwell ++ outCode src ++ outU32 limit ++ outU16 q.slackThr ++ outU16 q.excThr ++ outFlag q.fast ++
                   outU8 thres ++ outU8 shift ++ outCode (dirCode d) ++ outU32 ((thres + 1) * 2 ^ shift : Nat)) t ∧
               OnlyChanges [.planner, .cues, .locate, .monitor, .survey, .lines, .fault, .link] s t ∧
               t.planner.mode = .survey ∧ t.planner.vRef = s.planner.vRef ∧ t.fault.record = none ∧
               t.survey.state = .positioning ∧ t.survey.request = some q ∧ t.survey.table = [] ∧ t.survey.outcome = none ∧
               t.survey.reason = none ∧ t.survey.floor = none ∧ q.start = start ∧ q.finish = finish ∧ q.speed = max 100 (min 2000 speed) ∧
               q.tension = max 20 (min 600 tension) ∧ q.step = max (-100) (min 100 step) ∧ q.stepCount = count ∧
               q.dwell = max 100 (min 65535 dwell) ∧ q.limitSource.code = src ∧ q.limitValue = limit ∧ q.slackThr = min 1000 slackThr ∧
               q.excThr = min 1000 excThr ∧ q.thres = thres ∧ q.shift = shift ∧ q.fast = (fast == 1) ∧
               t.locate = some l ∧ l.owner = .survey ∧ l.aim = start ∧ l.thenPlay = false ∧
               t.monitor.counters.c2.event = .slackSamples ∧ t.monitor.counters.c2.threshold = q.slackThr ∧
               t.monitor.counters.c3.event = .excursion ∧ t.monitor.counters.c3.threshold = q.excThr ∧
               (∀ n, n = 2 ∨ n = 3 → (t.monitor.counters.get n).enable = true ∧ (t.monitor.counters.get n).holder = .survey ∧
                 (t.monitor.counters.get n).value = (s.monitor.counters.get n).value ∧
                 (t.monitor.counters.get n).overflow = (s.monitor.counters.get n).overflow) ∧
               (∀ n < 2, t.monitor.counters.get n = s.monitor.counters.get n))))))) ∧
  (∀ (tag : Byte) (s : State), Ready s →
     (surveyRuns s.survey = false → Answered (.surveyAbort tag) s 0xD1 tag .ok [] (restartLinkTimer s)) ∧
     (surveyRuns s.survey = true → s.planner.mode = .survey → s.planner.stopInForce = none →
       ∃ t, Answered (.surveyAbort tag) s 0xD1 tag .ok [] t ∧
         OnlyChanges [.planner, .zones, .cues, .locate, .monitor, .survey, .lines, .fault, .link] s t ∧ t.survey.state = .ended ∧
         t.survey.outcome = some .aborted ∧ t.survey.reason = some .request ∧ t.survey.stepTension = none ∧
         t.survey.floor = surveyFloor t.survey.table ∧ t.locate.map (·.owner) ≠ some .survey ∧
         t.planner.mode = (if s.planner.vRef = 0 then .hold else .stopping) ∧
         t.planner.stopInForce = (if s.planner.vRef = 0 then none else some .controlled) ∧
         (∀ n, n = 2 ∨ n = 3 → t.monitor.counters.get n =
           { s.monitor.counters.get n with enable := false, holder := .host }) ∧
         (∀ n < 2, t.monitor.counters.get n = s.monitor.counters.get n) ∧ t.fault.record = s.fault.record)) ∧
  (∀ table : List StepEntry,
     (∀ f, surveyFloor table = some f ↔
       (∃ e ∈ table, (e.endedBy = some .dwell ∨ e.endedBy = some .limit) ∧ e.slack = 0 ∧ e.tension = f) ∧
         ∀ e ∈ table, (e.endedBy = some .dwell ∨ e.endedBy = some .limit) → e.slack = 0 → f ≤ e.tension) ∧
     (surveyFloor table = none ↔ ∀ e ∈ table, (e.endedBy = some .dwell ∨ e.endedBy = some .limit) → e.slack ≠ 0))

/-! ## Events of the Sense Scanner (R2, R3, R6, R9 to R14) -/

/-- ARM_MEASUREMENT_COMPLETE, PRESENCE_MEASUREMENT_COMPLETE and MEASUREMENT_STALLED while the part runs. A count inside the window of
an arm sets p by R9 where the arm has a calibration; one outside it, or a stall, keeps p, and each gives ARM_SENSOR while the drives
are enabled. The measurement on the shared counter debounces its channel by Table 1-4, passes the counter to the next channel in the
order PS, PT, PH, and hands a change of state on: PATH_LOST for PS and PT in a loaded mode, the tape-end event for PH, and the direction
blocks cleared when PH becomes PRESENT. -/
def Obligations.MeasurementsAreTaken : Prop :=
  ∀ s : State, s.held = none →
    (∀ (r : Reel) (c : Nat) (a : ArmChannel), a = s.sense.arms.get r →
      (a.range = .off →
        exec (.armMeasurementComplete r c) s = .next s ∧ exec (.measurementStalled (.arm r)) s = .next s) ∧
      (a.range ≠ .off → a.cMin ≤ c → c ≤ a.cMax →
        (a.cal = none → exec (.armMeasurementComplete r c) s = .next (s.onArm r fun x => { x with last := c, outcome := .ok })) ∧
        ∀ m f : Nat, a.cal = some (m, f) →
          exec (.armMeasurementComplete r c) s =
            .next (s.onArm r fun x =>
              { x with last := c, outcome := .ok, p := max (-1000) (min 1000 (divTrunc (((c : Int) - m) * 1000) ((f : Int) - m))) })) ∧
      (a.range ≠ .off → s.servo.enabled = false →
        (c < a.cMin ∨ a.cMax < c →
          exec (.armMeasurementComplete r c) s = .next (s.onArm r fun x => { x with last := c, outcome := .outOfRange })) ∧
        exec (.measurementStalled (.arm r)) s = .next (s.onArm r fun x => { x with outcome := .stalled })) ∧
      (a.range ≠ .off → s.servo.enabled = true → s.fault.record = none → c < a.cMin ∨ a.cMax < c →
        ∃ t f, exec (.armMeasurementComplete r c) s = .next t ∧
          t.sense = (s.onArm r fun x => { x with last := c, outcome := .outOfRange }).sense ∧ t.fault.record = some f ∧
          f.primary = { kind := .armSensor, reel := some r } ∧ f.severity = .brake ∧ f.mode = s.planner.mode) ∧
      (a.range ≠ .off → s.servo.enabled = true → s.fault.record = none →
        ∃ t f, exec (.measurementStalled (.arm r)) s = .next t ∧
          t.sense = (s.onArm r fun x => { x with outcome := .stalled }).sense ∧ t.fault.record = some f ∧
          f.primary = { kind := .armSensor, reel := some r } ∧ f.severity = .brake ∧ f.mode = s.planner.mode)) ∧
    (s.sense.turn = none → ∀ c,
      exec (.presenceMeasurementComplete c) s = .next s ∧ exec (.measurementStalled .presence) s = .next s) ∧
    ∀ (i : PresenceId) (q : PresenceChannel) (turn : Option PresenceId), s.sense.turn = some i → q = s.sense.presence i →
      turn =
        (if (s.sense.presence i.next).range ≠ .off then some i.next
         else if (s.sense.presence i.next.next).range ≠ .off then some i.next.next
         else if q.range ≠ .off then some i else none) →
      (∃ t, exec (.measurementStalled .presence) s = .next t ∧ OnlyChanges [.sense] s t ∧ t.sense.turn = turn ∧
        t.sense.presence i = { q with outcome := .stalled } ∧ (∀ j, j ≠ i → t.sense.presence j = s.sense.presence j) ∧
        t.sense.arms = s.sense.arms) ∧
      ∀ (c : Nat) (x : Presence) (q' : PresenceChannel),
        ((c < q.cMin ∨ q.cMax < c) ∧ q' = { q with last := c, outcome := .outOfRange }) ∨
          (q.cMin ≤ c ∧ c ≤ q.cMax ∧ q.tOff < c ∧ c < q.tOn ∧
            q' = { q with last := c, outcome := .ok, candidate := none, run := 0 }) ∨
          (q.cMin ≤ c ∧ c ≤ q.cMax ∧ ((x = .present ∧ q.tOn ≤ c) ∨ (x = .absent ∧ c < q.tOn ∧ c ≤ q.tOff)) ∧
            q' =
              { q with
                last := c, outcome := .ok
                state := if q.candidate = some x ∧ 3 ≤ q.run then x else q.state
                candidate := if q.state = x ∨ (q.candidate = some x ∧ 3 ≤ q.run) then none else some x
                run := if q.state = x ∨ (q.candidate = some x ∧ 3 ≤ q.run) then 0
                       else if q.candidate = some x then q.run + 1 else 1 }) →
        ∃ t, exec (.presenceMeasurementComplete c) s = .next t ∧ t.sense.turn = turn ∧ t.sense.presence i = q' ∧
          (∀ j, j ≠ i → t.sense.presence j = s.sense.presence j) ∧ t.sense.arms = s.sense.arms ∧
          t.sense.tensionLost = s.sense.tensionLost ∧
          (q'.state = q.state ∨ (q'.state = .absent ∧ q.suppress = true) ∨ (q'.state = .present ∧ i ≠ .ph) →
            OnlyChanges [.sense] s t) ∧
          (q'.state ≠ q.state → q'.state = .present → i = .ph →
            OnlyChanges [.sense, .planner] s t ∧ t.planner = { s.planner with fwdBlocked := false, revBlocked := false }) ∧
          (q'.state ≠ q.state → q'.state = .absent → q.suppress = false →
            (i = .ph → s.planner.mode = .wind → s.planner.stopInForce = none → 0 < s.planner.vRef →
              t.planner.fwdBlocked = true ∧ t.planner.revBlocked = s.planner.revBlocked ∧ t.planner.mode = .stopping ∧
                t.planner.stopInForce = some .fast ∧ t.planner.stopCause = some .tapeEnd) ∧
            ∀ r, (i = .ps ∧ r = .supply) ∨ (i = .pt ∧ r = .takeup) → s.fault.record = none →
              (s.planner.mode = .idle → OnlyChanges [.sense] s t) ∧
              (s.planner.mode ≠ .idle →
                ∃ f, t.fault.record = some f ∧ f.primary = { kind := .pathLost, reel := some r } ∧ f.severity = .brake))

/-! ## Events of the Position and Tach Unit and the Pack Estimator (R18, R22 to R26, R31 to R37) -/

/-- ROLLER_EDGE (R18, R31, R114, R123). Every edge moves the position by one, modulo 2^32, and while the part is held that is all (R19;
that nothing else follows is inferred, log entry 5). While it runs the edge also enters the speed slot and the windows of both
records. A cue at the new position is reached, with CUE_PASSED; an AUTO_STOP cue that is a drop point of a WIND, in force since a step
of the planner (R120, log entry 52), caps it at 0, also one whose pinch is still OPENING (inferred, log entry 70). A new zone in force is published, and ZONE_ENTRIES counts it; one that forbids the
direction of a PLAY stops the tape. Zone, cues and stop are taken in that order (the model’s choice, log entry 53). -/
def Obligations.RollerEdgesCountPosition : Prop :=
  ∀ (d : Dir) (s : State) (x0 x1 : Int), x0 = s.tach.position → -2147483648 ≤ x0 → x0 ≤ 2147483647 →
    x1 =
      (match d with
       | .forward => if x0 = 2147483647 then -2147483648 else x0 + 1
       | .reverse => if x0 = -2147483648 then 2147483647 else x0 - 1) →
    (s.held ≠ none → exec (.rollerEdge d) s = .next (s.onTach fun x => { x with position := x1 })) ∧
    (s.held = none →
      ∃ t, exec (.rollerEdge d) s = .next t ∧
        t.tach =
          { s.tach with
            position := x1, rollerNet := s.tach.rollerNet + (if d = .forward then 1 else -1)
            rollerEdges := s.tach.rollerEdges + 1 } ∧
        t.zones.index = zoneAt s.zones x1 ∧ t.cues.list.map (·.id) = s.cues.list.map (·.id) ∧ t.sense = s.sense ∧
        t.packs.profile = s.packs.profile ∧
        (s.planner.mode = .play ∨ s.planner.mode = .wind →
          (∀ r k, k = s.packs.pack.get r →
            (k.status = .unknown → t.packs.pack.get r = k) ∧
            (k.status ≠ .unknown → k.winDir = none ∨ k.winDir = some d →
              t.packs.pack.get r = { k with winDir := some d, lAcc := min 16777215 (k.lAcc + 1) }) ∧
            (k.status ≠ .unknown → ∀ w, k.winDir = some w → w ≠ d →
              t.packs.pack.get r = { k with winDir := some d, wAcc := 0, lAcc := 0 })) ∧
          (s.survey.state ≠ .running →
            (zoneAt s.zones x1 = s.zones.index → t.monitor = s.monitor) ∧
            (zoneAt s.zones x1 ≠ s.zones.index → CountsOnce .zoneEntries s t)) ∧
          (s.zones.current.dirs = .both → zoneAt s.zones x1 = s.zones.index → s.survey.state ≠ .running →
            ((∀ c ∈ s.cues.list, c.position ≠ x1) →
              OnlyChanges [.tach, .packs, .cues] s t ∧ t.cues.list = s.cues.list ∧ t.cues.pendingStop = s.cues.pendingStop) ∧
            (∀ before c after, s.cues.list = before ++ c :: after → (∀ x ∈ before ++ after, x.position ≠ x1) →
              c.position = x1 → mag x1 ≤ 1000000000 → s.cues.lastReached ≠ some c.id →
              OnlyChanges [.tach, .packs, .cues, .planner, .link] s t ∧ t.cues.lastReached = some c.id ∧
                t.cues.list = s.cues.list ∧
                t.link = txTake (enqueueNotice
                  (.cuePassed c.id c.position c.kind d s.planner.mode (c.mark == .missed) c.label) s.link) ∧
                (s.planner.mode = .play → t.planner = s.planner ∧ t.cues.pendingStop = s.cues.pendingStop) ∧
                ((c.id, c.position) ∉ s.planner.inForce → t.planner = s.planner ∧ t.cues.pendingStop = s.cues.pendingStop) ∧
                (s.planner.mode = .wind → c.kind = .autoStop → c.id ∉ s.planner.missed →
                  (c.id, c.position) ∈ s.planner.inForce → s.planner.travel = some d →
                  t.planner = { s.planner with autoStopCap := true } ∧
                    (s.cues.pendingStop = none →
                      t.cues.pendingStop = some { id := c.id, position := c.position, label := c.label })))) ∧
          (s.planner.mode = .play → (∀ c ∈ s.cues.list, c.position ≠ x1) → s.survey.state ≠ .running →
            zoneAt s.zones x1 ≠ s.zones.index → s.planner.heading = some .forward →
            ((attrsAt s.zones x1).dirs.allows .forward = true →
              OnlyChanges [.tach, .packs, .cues, .zones, .lines, .monitor, .link] s t ∧
                t.lines.recordInhibit = (attrsAt s.zones x1).inhibit) ∧
            ((attrsAt s.zones x1).dirs.allows .forward = false → s.planner.stopInForce = none →
              t.planner.mode = .stopping ∧ t.planner.stopInForce = some .controlled ∧ t.planner.stopCause = some .zone ∧
                t.lines.recordInhibit = true ∧ t.zones.pendingBlock = some (zoneAt s.zones x1, .forward)))))

/-- REEL_TACH_EDGE (R24, R31 to R37), and PREDICTION_COUNT_FULL, PACK_WINDOW_COMPLETE and PACK_RESYNC, which are the edge at which their
count is reached and elsewhere change nothing. An UNKNOWN record takes no edge. A TRACKING record is predicted one thickness on,
clamped to its profile, with J recomputed every 256 edges; an edge against the window direction restarts the window. A window of 32
edges in PROBE, or of 256, measures the radius of R32: the first in PROBE makes the record TRACKING; within 3 % of the
prediction it is accepted; elsewhere it is rejected, and the third rejection in a row is accepted. That a row named for a
threshold changes nothing where the threshold is not reached is the model’s choice (log entry 3). -/
def Obligations.ReelEdgesFillTheWindow : Prop :=
  ∀ (r : Reel) (winding : Bool) (s s' : State) (q : ReelProfile) (d : Dir) (k k1 : Pack) (n m kept : Nat), s.held = none →
    q = s.packs.profile.get r → q.hub ≤ q.flange → k = s.packs.pack.get r →
    d = (if (r = .takeup ↔ winding = true) then .forward else .reverse) →
    s' = s.onReelTach r (fun x => { x with edges := x.edges + 1 }) →
    n = max (256 * q.hub) (min (256 * q.flange) (if winding then k.rq + s.packs.tape.t else k.rq - s.packs.tape.t)) →
    k1 =
      (if k.status = .tracking then
         { k with
           rq := n, predCount := if k.predCount = 255 then 0 else k.predCount + 1
           j := if k.predCount = 255 then inertiaAt q s.packs.tape.kj (n / 256) else k.j }
       else k) →
    (k.status = .unknown → exec (.reelTachEdge r winding) s = .next s' ∧
      exec (.predictionCountFull r winding) s = .next s ∧ exec (.packWindowComplete r winding) s = .next s ∧
      exec (.packResync r winding) s = .next s) ∧
    (k.status = .tracking →
      exec (.predictionCountFull r winding) s =
        (if k.predCount = 255 then exec (.reelTachEdge r winding) s else .next s)) ∧
    (k.status ≠ .unknown → ∀ w, k.winDir = some w → w ≠ d →
      exec (.reelTachEdge r winding) s = .next (s'.onPack r fun _ => { k1 with winDir := some d, wAcc := 0, lAcc := 0 }) ∧
      exec (.packWindowComplete r winding) s = .next s ∧ exec (.packResync r winding) s = .next s) ∧
    (k.status ≠ .unknown → k.winDir = none ∨ k.winDir = some d →
      (k.wAcc + 1 < (if k.status = .probe then 32 else 256) →
        exec (.reelTachEdge r winding) s = .next (s'.onPack r fun _ => { k1 with winDir := some d, wAcc := k.wAcc + 1 }) ∧
        exec (.packWindowComplete r winding) s = .next s ∧ exec (.packResync r winding) s = .next s) ∧
      (k.status = .tracking → k.wAcc = 255 → m = (k.lAcc * 3200000 + 804224) / 1608448 →
          kept = max q.hub (min q.flange m) →
        ∃ t, exec (.reelTachEdge r winding) s = .next t ∧ exec (.packWindowComplete r winding) s = .next t ∧
          OnlyChanges [.tach, .packs, .planner, .monitor, .link] s t ∧ t.tach = s'.tach ∧ t.packs.profile = s.packs.profile ∧
          t.packs.tape = s.packs.tape ∧ t.packs.a0 = s.packs.a0 ∧
          (∀ r', r' ≠ r → t.packs.pack.get r' = s.packs.pack.get r') ∧
          (100 * mag ((m : Int) - (n / 256 : Nat)) ≤ 3 * (n / 256) ∨ k.rejectRun = 2 →
            t.packs.pack.get r =
              { k1 with
                winDir := some d, wAcc := 0, lAcc := 0, rq := 256 * kept, rejectRun := 0, predCount := 0
                j := inertiaAt q s.packs.tape.kj kept } ∧
            t.planner = { s.planner with torque := torqueLimits t }) ∧
          (¬100 * mag ((m : Int) - (n / 256 : Nat)) ≤ 3 * (n / 256) →
            (k.rejectRun = 2 → exec (.packResync r winding) s = .next t) ∧
            (k.rejectRun ≠ 2 → t.packs.pack.get r =
                { k1 with winDir := some d, wAcc := 0, lAcc := 0, rejectRun := k.rejectRun + 1 } ∧
              t.planner = s.planner ∧ exec (.packResync r winding) s = .next s))) ∧
      (k.status = .probe → k.wAcc = 31 → m = (k.lAcc * 3200000 + 100528) / 201056 → kept = max q.hub (min q.flange m) →
        ∃ t, exec (.reelTachEdge r winding) s = .next t ∧ exec (.packWindowComplete r winding) s = .next t ∧
          t.tach = s'.tach ∧
          t.packs.pack.get r =
            { k with
              status := .tracking, winDir := some d, wAcc := 0, lAcc := 0, rq := 256 * kept, rejectRun := 0, predCount := 0
              j := inertiaAt q s.packs.tape.kj kept } ∧
          (∀ r', r' ≠ r → t.packs.pack.get r' = s.packs.pack.get r') ∧
          ((∀ r', r' ≠ r → (s.packs.pack.get r').status ≠ .tracking) →
            OnlyChanges [.tach, .packs, .planner, .monitor, .link] s t ∧
              t.planner = { s.planner with torque := torqueLimits t }) ∧
          ((∀ r', r' ≠ r → (s.packs.pack.get r').status = .tracking) → s.planner.mode = .loading →
              s.planner.sub = some .probeCreep →
            t.packs.a0 = some (packArea t.packs) ∧ t.planner.mode = .stopping ∧ t.planner.stopInForce = some .controlled ∧
              t.planner.stopCause = some .complete ∧
              t.capstan.lock = (if s.capstan.lock = .off then .spinup else s.capstan.lock))))

/-- SPEED_SAMPLE (R22 to R26): the slot of the roller joins the history, v_meas is the net count of the 32 newest slots times
1 562.5 µm/s, toward zero; the reel slots close, with their quiet and drive runs. ROLLER_SILENT and TACH_SILENT are taken where
their rules say, and with none of them nothing else changes. Where both reels fall TACH_SILENT at one sample, the supply reel is the
primary: R151 leaves that order open (inferred, log entry 35). -/
def Obligations.SpeedIsSampled : Prop :=
  ∀ (s : State) (hist : List (Int × Nat)) (n : Int) (x : Reel → ReelTach), s.held = none →
    hist = ((s.tach.rollerNet, s.tach.rollerEdges) :: s.tach.rollerHist).take 2000 →
    n = ((hist.take 32).map (·.1)).sum →
    (∀ r, x r =
      { edgeHist := ((s.tach.reels.get r).edges :: (s.tach.reels.get r).edgeHist).take 400
        edges := 0
        quietRun := if (s.tach.reels.get r).edges = 0 then min 2000 ((s.tach.reels.get r).quietRun + 1) else 0
        driveRun := if 8192 ≤ mag (s.servo.reels.get r).code then min 2000 ((s.tach.reels.get r).driveRun + 1) else 0 }) →
    ∃ t, exec .speedSample s = .next t ∧
      t.tach =
        { s.tach with
          rollerHist := hist, rollerNet := 0, rollerEdges := 0, vMeas := divTrunc (n * 3125) 2
          reels := { supply := x .supply, takeup := x .takeup } } ∧
      (s.servo.enabled = false ∨ s.planner.vRef = 0 ∨ 0 < ((hist.take 400).map (·.2)).sum →
        (∀ r, (x r).quietRun < 2000 ∨ (x r).driveRun < 2000 ∨ (hist.map (·.2)).sum < 800) → OnlyChanges [.tach] s t) ∧
      (s.fault.record = none → s.servo.enabled = true → s.planner.vRef ≠ 0 → ((hist.take 400).map (·.2)).sum = 0 →
        (∀ r, 16 ≤ (x r).edgeHist.sum) →
          ∃ f, t.fault.record = some f ∧ f.primary = { kind := .rollerSilent, reel := none } ∧ f.severity.code ≥ 2) ∧
      (s.fault.record = none → 0 < ((hist.take 400).map (·.2)).sum → 800 ≤ (hist.map (·.2)).sum → ∀ r,
        (x r).quietRun = 2000 → (x r).driveRun = 2000 → (r = .takeup → (x .supply).quietRun < 2000) →
          ∃ f, t.fault.record = some f ∧ f.primary = { kind := .tachSilent, reel := some r } ∧ f.severity = .brake)

/-! ## Events of the Tension Servo, the lines and the Fault Unit (R43 to R63, R149 to R158) -/

/-- SERVO_SAMPLE with the drives ENABLED, no survey running (R43 to R61): T_eff moves by its slew toward the target, and the sum of R55
gives each reel's code, saturation, integrator, runs and estimated tension. SATURATION, SLACK and OVERTENSION are the samples at
which their run reaches 800, 8 and 8, and take the fault of their reel; elsewhere they change nothing. With the drives DISABLED no
sample runs. That a row named for a threshold changes nothing where the threshold is not reached is the model’s choice (log
entry 3). -/
def Obligations.ServoSamplesSetTheDrives : Prop :=
  ∀ (s : State) (lim sum : Reel → Int) (sat : Reel → Option SatEnd) (tEff16 : Nat) (tEff : Int), s.held = none →
    tEff16 =
      (if s.servo.tEff16 < 16 * zonedTension s then min (16 * zonedTension s) (s.servo.tEff16 + 4 * s.servo.slew)
       else max (16 * zonedTension s) (s.servo.tEff16 - 4 * s.servo.slew)).toNat →
    tEff = (tEff16 / 16 : Nat) →
    (∀ r, lim r = (if s.servo.reduced then (s.packs.profile.get r).tauLim / 2 else (s.packs.profile.get r).tauLim : Nat)) →
    (∀ r, sum r =
      (tEff * publishedRadius s.packs r + 5000) / 10000 +
        divTrunc (-((s.servo.reels.get r).kp * (s.sense.arms.get r).p + (s.servo.reels.get r).ki * (s.servo.reels.get r).integ)) 256 +
        (if r = .takeup then 1 else -1) *
          (divHalfAway (publishedInertia s.packs r * s.planner.aRef * 10) (publishedRadius s.packs r) +
            (s.packs.profile.get r).f * (if 5000 ≤ s.tach.vMeas then 1 else if s.tach.vMeas ≤ -5000 then -1 else 0) +
            speedTermOf s r)) →
    (∀ r, sat r = if lim r < sum r then some .high else if sum r < -lim r then some .low else none) →
    (s.servo.enabled = false →
      exec .servoSample s = .next s ∧
        ∀ r, exec (.saturation r) s = .next s ∧ exec (.slack r) s = .next s ∧ exec (.overtension r) s = .next s) ∧
    (s.servo.enabled = true → s.survey.state ≠ .running →
      ((∀ r, (s.servo.reels.get r).satRun < 799 ∧ (s.servo.reels.get r).slackRun < 7 ∧ (s.servo.reels.get r).overRun < 7) →
        ∃ t, exec .servoSample s = .next t ∧ OnlyChanges [.sense, .servo, .monitor, .link] s t ∧
          t.sense =
            { s.sense with
              tensionLost := s.sense.tensionLost || s.sense.arms.supply.p ≤ -950 || s.sense.arms.takeup.p ≤ -950 } ∧
          t.servo =
            { s.servo with tEff16 := tEff16, settled := ((tEff16 : Int) == 16 * zonedTension s), reels := t.servo.reels } ∧
          ∀ (r : Reel) (x : ReelServo) (p : Int), x = s.servo.reels.get r → p = (s.sense.arms.get r).p →
            t.servo.reels.get r =
              { x with
                sat := sat r
                integ := if (sat r = some .high ∧ p < 0) ∨ (sat r = some .low ∧ 0 < p) then x.integ
                         else max (-(x.iMax : Int)) (min x.iMax (x.integ + p))
                satRun := if reelDriven s = true ∧ sat r ≠ none then x.satRun + 1 else 0
                slackRun := if p ≤ -950 ∧ ¬(s.planner.mode = .loading ∧ s.planner.sub = some .takeUp) then x.slackRun + 1 else 0
                overRun := if 950 ≤ p then x.overRun + 1 else 0
                code := max (-32767) (min 32767
                  (divHalfAway (max (-lim r) (min (lim r) (sum r)) * 32767) (s.packs.profile.get r).tauFs))
                tEst := tEff + divTrunc (p * s.packs.tape.tSpan) 1000 }) ∧
      ∀ r, s.fault.record = none → (∀ r', r' ≠ r → (s.servo.reels.get r').satRun < 799 ∧ mag (s.sense.arms.get r').p < 950) →
        ((s.servo.reels.get r).slackRun = 7 → (s.servo.reels.get r).satRun < 799 → (s.sense.arms.get r).p ≤ -950 →
          ¬(s.planner.mode = .loading ∧ s.planner.sub = some .takeUp) →
          ∃ t f, exec (.slack r) s = .next t ∧ exec .servoSample s = .next t ∧ t.fault.record = some f ∧
            f.primary = { kind := .slack, reel := some r } ∧ f.severity = .fast) ∧
        ((s.servo.reels.get r).overRun = 7 → (s.servo.reels.get r).satRun < 799 → 950 ≤ (s.sense.arms.get r).p →
          ∃ t f, exec (.overtension r) s = .next t ∧ exec .servoSample s = .next t ∧ t.fault.record = some f ∧
            f.primary = { kind := .overtension, reel := some r } ∧ f.severity = .fast) ∧
        ((s.servo.reels.get r).satRun = 799 → mag (s.sense.arms.get r).p < 950 → reelDriven s = true → sat r ≠ none →
          ∃ t f, exec (.saturation r) s = .next t ∧ exec .servoSample s = .next t ∧ t.fault.record = some f ∧
            f.primary = { kind := .saturation, reel := some r } ∧ f.severity = .controlled) ∧
        ((s.servo.reels.get r).slackRun ≠ 7 → exec (.slack r) s = .next s) ∧
        ((s.servo.reels.get r).overRun ≠ 7 → exec (.overtension r) s = .next s) ∧
        ((s.servo.reels.get r).satRun ≠ 799 → exec (.saturation r) s = .next s))

/-- SUPPLY_LOW and the recovery timer (R62, R63, R156): the line asserted makes the drive state REDUCED, with both codes clamped to half
of τ_lim, the planner's limits recomputed and a DRIVE notice, and stops the timer; deasserted in REDUCED it starts the timer;
DRIVE_RECOVERY_EXPIRY makes the state FULL. A POWER_FAIL fault below BRAKE that is still asserted is escalated to BRAKE. Held in a
reset, the line's level is all that changes (R65; that nothing else does is inferred, log entry 5). That an expiry is taken at its word
while its timer runs is the model’s choice (log entry 6). -/
def Obligations.SupplyLowReducesTheDrives : Prop :=
  ∀ s : State,
    (s.held ≠ none →
      exec .supplyLowAssert s = .next (s.onLines fun l => { l with supplyLow := true }) ∧
      exec .supplyLowDeassert s = .next (s.onLines fun l => { l with supplyLow := false }) ∧
      exec .driveRecoveryExpiry s = .next s) ∧
    (s.held = none →
      (s.servo.reduced = true → s.fault.record = none →
        exec .supplyLowAssert s =
          .next ((s.onLines fun l => { l with supplyLow := true }).onServo fun v => { v with recovery := none })) ∧
      (s.servo.reduced = false → s.fault.record = none →
        ∃ t, exec .supplyLowAssert s = .next t ∧ OnlyChanges [.servo, .planner, .lines, .link] s t ∧
          t.lines = { s.lines with supplyLow := true } ∧
          t.servo = { s.servo with reduced := true, recovery := none, reels := t.servo.reels } ∧
          t.planner = { s.planner with torque := torqueLimits t } ∧ t.link = txTake (enqueueNotice (.drive true) s.link) ∧
          ∀ (r : Reel) (b : Int), b = codeOf ((s.packs.profile.get r).tauLim / 2 : Nat) (s.packs.profile.get r).tauFs →
            t.servo.reels.get r = { s.servo.reels.get r with code := max (-b) (min b (s.servo.reels.get r).code) }) ∧
      (s.lines.powerFail = true → s.fault.powerFailTaken = true → ∀ f, s.fault.record = some f → f.severity ≠ .brake →
        s.planner.mode = .stopping → (∀ x, s.planner.stopInForce = some x → x ≠ .brake) →
          ∃ t, exec .supplyLowAssert s = .next t ∧ t.fault.record = some { f with severity := .brake } ∧
            t.planner.mode = .braking ∧ t.planner.stopInForce = some .brake ∧ t.planner.stopCause = some .fault ∧
            t.servo.reduced = true) ∧
      exec .supplyLowDeassert s =
        .next ((s.onLines fun l => { l with supplyLow := false }).onServo fun v =>
          { v with recovery := if v.reduced then some 0 else v.recovery }) ∧
      (s.servo.recovery = none → exec .driveRecoveryExpiry s = .next s) ∧
      (s.servo.recovery ≠ none →
        ∃ t, exec .driveRecoveryExpiry s = .next t ∧ OnlyChanges [.servo, .planner, .link] s t ∧
          t.servo = { s.servo with reduced := false, recovery := none } ∧
          t.planner = { s.planner with torque := torqueLimits t } ∧ t.link = txTake (enqueueNotice (.drive false) s.link)))

/-- POWER_FAIL and LINK_SILENCE (R149, R150, R155, R158): with no fault latched the condition becomes the primary of a record that
holds the mode, sub-stage, speed and position of that moment, and a stop of its severity is demanded: FAST for POWER_FAIL, or BRAKE
with SUPPLY_LOW asserted, CONTROLLED for LINK_SILENCE, which ends a load in BRAKED and leaves an unload and a stop as they are. With
one latched a new condition is a secondary while three are not listed, and is lost after that, and one that is listed is not listed
again; a LINK_SILENCE demands nothing then and posts its FAULT notice only where it is listed. POWER_FAIL deasserted changes its line alone; so does POWER_FAIL asserted while the part is held (R160; that nothing else
happens is inferred, log entry 5). That an expiry is taken at its word while its timer runs is the
model’s choice (log entry 6). -/
def Obligations.FaultsAreTaken : Prop :=
  ∀ (s : State) (sev : Severity) (f0 : FaultRecord), sev = (if s.lines.supplyLow then .brake else .fast) →
    f0 =
      { primary := { kind := .powerFail, reel := none }, mode := s.planner.mode, sub := s.planner.sub
        vMeas := mmPerS s.tach.vMeas, position := s.tach.position, secondaries := [], lost := false, severity := sev } →
    exec .powerFailDeassert s = .next (s.onLines fun l => { l with powerFail := false }) ∧
    (s.held ≠ none → exec .powerFailAssert s = .next (s.onLines fun l => { l with powerFail := true })) ∧
    (s.held = none →
      (∃ t, exec .powerFailAssert s = .next t ∧ t.lines.powerFail = true ∧ t.fault.powerFailTaken = true ∧
        t.tach = s.tach ∧ t.sense = s.sense ∧ t.monitor.frozen = s.monitor.frozen ∧
        (s.fault.record = none → t.fault.record = some f0 ∧
          (s.planner.mode = .idle ∨ s.planner.mode = .braked → t.planner = s.planner ∧
            t.link = txTake (enqueueNotice (.fault false f0.primary true sev f0.mode f0.vMeas f0.position) s.link)) ∧
          (s.planner.mode ∈ [Mode.hold, .wind, .locate, .engaging, .play, .chase, .survey] → s.planner.stopInForce = none →
            t.planner.mode = (if sev = .brake then .braking else .stopping) ∧ t.planner.stopInForce = some sev ∧
              t.planner.stopCause = some .fault ∧ t.planner.pinch.commandedClosed = false ∧
              (sev = .brake → t.servo.enabled = false ∧ t.planner.vRef = 0 ∧ t.lines.brakeS = true ∧ t.lines.brakeT = true ∧
                t.capstan.lock = .off) ∧
              (sev = .fast → t.servo = s.servo ∧ t.planner.vRef = s.planner.vRef ∧ t.capstan.lock = s.capstan.lock))) ∧
        (∀ f, s.fault.record = some f → f.primary.kind ≠ .powerFail → (∀ c ∈ f.secondaries, c.kind ≠ .powerFail) →
          t.fault.record =
            some { f with
              secondaries := if f.secondaries.length < 3 then f.secondaries ++ [f0.primary] else f.secondaries
              lost := f.lost || decide (3 ≤ f.secondaries.length)
              severity := if f.severity.code < sev.code then sev else f.severity })) ∧
      (s.fault.linkTimer = none → exec .linkSilence s = .next s) ∧
      (s.fault.linkTimer ≠ none → s.fault.record = none → s.planner.mode.quiet = false →
        ∃ t, exec .linkSilence s = .next t ∧ t.fault.linkTimer = none ∧ t.tach = s.tach ∧
          t.fault.record = some { f0 with primary := { kind := .linkSilence, reel := none }, severity := .controlled } ∧
          (s.planner.mode ∈ [Mode.wind, .locate, .engaging, .play, .chase, .survey] → s.planner.stopInForce = none →
            OnlyChanges [.planner, .zones, .cues, .locate, .chase, .capstan, .monitor, .survey, .lines, .fault, .link] s t ∧
              t.planner.mode = .stopping ∧ t.planner.stopInForce = some .controlled ∧ t.planner.stopCause = some .fault ∧
              t.planner.vRef = s.planner.vRef ∧ t.planner.pinch.commandedClosed = false ∧ t.capstan.lock = s.capstan.lock) ∧
          (s.planner.mode = .loading → t.planner.mode = .braked ∧ t.servo.enabled = false ∧ t.lines.brakeS = true ∧
            t.lines.brakeT = true) ∧
          (s.planner.mode = .unloading ∨ (s.planner.mode = .stopping ∧ s.planner.stopInForce ≠ none) →
            OnlyChanges [.fault, .link] s t)) ∧
      ∀ (f : FaultRecord) (k : Condition) (isNew : Prop), s.fault.linkTimer ≠ none → s.fault.record = some f →
        k = { kind := .linkSilence, reel := none } → (isNew ↔ f.primary ≠ k ∧ k ∉ f.secondaries) →
        ∃ t, exec .linkSilence s = .next t ∧ OnlyChanges [.fault, .link] s t ∧
          (¬isNew → t.fault = { s.fault with linkTimer := none } ∧ t.link = s.link) ∧
          (isNew → f.secondaries.length < 3 →
            t.fault = { s.fault with linkTimer := none, record := some { f with secondaries := f.secondaries ++ [k] } } ∧
              t.link = txTake (enqueueNotice
                (.fault true k true f.severity s.planner.mode (mmPerS s.tach.vMeas) s.tach.position) s.link)) ∧
          (isNew → 3 ≤ f.secondaries.length →
            t.fault = { s.fault with linkTimer := none, record := some { f with lost := true } } ∧ t.link = s.link))

/-! ## Events of the Capstan Controller (R67 to R76, R80) -/

/-- CAPSTAN_ENCODER_EDGE (R71, R74, R80): an edge counts into E while the capstan is not OFF; in UNLOCKED an |e_φ| beyond 512 is
pulled to 512, and 64 edges in a row with |e_φ| at most w give LOCKED; in LOCKED 8 edges in a row beyond w give UNLOCKED, with the
lock-lost latch, a CAPSTAN_UNLOCKS for the counters that admit the capstan, and a LOCK notice where the choice asks for one, as for
LOCKED. CAPSTAN_LOCK_GAINED and CAPSTAN_LOCK_LOST are those edges, and elsewhere change nothing. That the pull keeps the
remainders of the advance of R is the model’s choice (log entry 37). That a row named for a
threshold changes nothing where the threshold is not reached is the model’s choice (log entry 3). -/
def Obligations.EncoderEdgesKeepThePhase : Prop :=
  ∀ (d : Dir) (s : State) (c c1 : Capstan) (e φ pulled : Int) (lockRun unlockRun : Nat), s.held = none → c = s.capstan →
    e = c.e + (if d = .forward then 1 else -1) → φ = divTrunc (e * 65536 - c.r) 65536 → pulled = max (-512) (min 512 φ) →
    c1 = { c with e := e, stepNet := c.stepNet + (if d = .forward then 1 else -1), edgeSeen := true, quiet := 0 } →
    lockRun = (if mag pulled ≤ c.w then c.lockRun + 1 else 0) → unlockRun = (if c.w < mag φ then c.unlockRun + 1 else 0) →
    (c.lock = .off → exec (.capstanEncoderEdge d) s = .next s) ∧
    (c.lock = .spinup → exec (.capstanEncoderEdge d) s = .next (s.onCapstan fun _ => c1)) ∧
    (c.lock = .holdover → exec (.capstanEncoderEdge d) s = .next (s.onCapstan fun _ => { c1 with ePhi := φ })) ∧
    (c.lock = .unlocked → ∀ c2 : Capstan,
      c2 = { c1 with ePhi := pulled, r := if φ = pulled then c.r else (e - pulled) * 65536, lockRun := lockRun } →
      (lockRun < 64 → exec (.capstanEncoderEdge d) s = .next (s.onCapstan fun _ => c2) ∧
        exec (.capstanLockGained d) s = .next s) ∧
      (64 ≤ lockRun →
        ∃ t, exec (.capstanEncoderEdge d) s = .next t ∧ exec (.capstanLockGained d) s = .next t ∧
          OnlyChanges [.capstan, .link] s t ∧ t.capstan = { c2 with lock := .locked, lockRun := 0, unlockRun := 0 } ∧
          (c.lockChoice = .none ∨ c.lockChoice = .loss → t.link = s.link) ∧
          (c.lockChoice = .gain ∨ c.lockChoice = .both →
            t.link = txTake (enqueueNotice (.lock .locked .gain pulled) s.link)))) ∧
    (c.lock = .locked → ∀ c2 : Capstan, c2 = { c1 with ePhi := φ, unlockRun := unlockRun } →
      (unlockRun < 8 → exec (.capstanEncoderEdge d) s = .next (s.onCapstan fun _ => c2) ∧
        exec (.capstanLockLost d) s = .next s) ∧
      (8 ≤ unlockRun →
        ∃ t, exec (.capstanEncoderEdge d) s = .next t ∧ exec (.capstanLockLost d) s = .next t ∧
          OnlyChanges [.capstan, .monitor, .link] s t ∧
          t.capstan = { c2 with lock := .unlocked, lockRun := 0, unlockRun := 0, lockLost := true } ∧
          CountsWhere (·.capstan) .capstanUnlocks s t ∧
          (c.lockChoice = .none ∨ c.lockChoice = .gain → t.monitor.frozen = s.monitor.frozen → t.link = s.link) ∧
          (c.lockChoice = .loss ∨ c.lockChoice = .both → PostsUnlessFreezing (.lock .unlocked .loss φ) s t))) ∧
    (c.lock ≠ .unlocked → exec (.capstanLockGained d) s = .next s) ∧
    (c.lock ≠ .locked → exec (.capstanLockLost d) s = .next s)

/-- CAPSTAN_STEP (R69, R71, R73, R80): the applied varispeed moves by ρ toward its target. While the capstan is not OFF the step's net
count joins the rate window, SPINUP ends within 2 % of the target rate, in UNLOCKED with R aligned or, with the reference ABSENT, in
HOLDOVER; HOLDOVER advances R; a step without an edge is counted, and the 200th in a row, CAPSTAN_STALL, stops the capstan with
the fault. The drive code sent is left open (log entry 11). That vs is slewed first, so that the spin-up test and the advance in
HOLDOVER take the new f_t, with the step’s own count in the window, is the model’s choice (log entry 56); how far R stands after the
step that enters HOLDOVER is not stated (log entry 38). That a row named for a threshold changes
nothing where the threshold is not reached is the model’s choice (log entry 3). -/
def Obligations.CapstanStepsFollowTheTarget : Prop :=
  ∀ (s : State) (c : Capstan) (vs rate : Int) (quiet : Nat) (window : List Int) (atSpeed : Prop), s.held = none → c = s.capstan →
    vs = (if c.vs < c.vsTarget then min c.vsTarget (c.vs + c.rho) else max c.vsTarget (c.vs - c.rho)) →
    rate = c.base * (10000 + vs) / 10000 → quiet = (if c.edgeSeen then 0 else c.quiet + 1) →
    window = (c.stepNet :: c.rateWindow).take 32 → (atSpeed ↔ 100 * (mag (window.sum * 31250 - rate) : Int) ≤ 2 * rate) →
    (c.lock = .off → exec .capstanStep s = .next (s.onCapstan fun c => { c with vs := vs }) ∧ exec .capstanStall s = .next s) ∧
    (c.lock ≠ .off → quiet < 200 →
      exec .capstanStall s = .next s ∧
      ∃ t, exec .capstanStep s = .next t ∧ OnlyChanges [.capstan, .freeIndex] s t ∧ t.capstan.vs = vs ∧ t.capstan.quiet = quiet ∧
        t.capstan.rateWindow = window ∧ t.capstan.stepNet = 0 ∧ t.capstan.edgeSeen = false ∧ t.capstan.e = c.e ∧
        (c.lock ≠ .spinup ∨ ¬atSpeed → t.capstan.lock = c.lock ∧ t.capstan.ePhi = c.ePhi ∧ t.capstan.frozenBase = c.frozenBase) ∧
        (c.lock = .spinup → atSpeed →
          (c.present = true → t.capstan.lock = .unlocked ∧ t.capstan.r = c.e * 65536 ∧ t.capstan.ePhi = 0) ∧
          (c.present = false → t.capstan.lock = .holdover ∧ t.capstan.frozenBase = some c.base)) ∧
        (c.lock = .unlocked ∨ c.lock = .locked → t.capstan.r = c.r) ∧
        (c.lock = .holdover →
          1000000 * t.capstan.r + t.capstan.remHold = 1000000 * c.r + rate * 65536 + c.remHold ∧
            0 ≤ t.capstan.remHold ∧ t.capstan.remHold < 1000000)) ∧
    (c.lock ≠ .off → 200 ≤ quiet → s.fault.record = none → s.planner.stopInForce = none →
      ∃ t f, exec .capstanStep s = .next t ∧ exec .capstanStall s = .next t ∧ t.capstan.lock = .off ∧ t.capstan.driveCode = 0 ∧
        t.fault.record = some f ∧ f.primary = { kind := .capstanStall, reel := none } ∧ f.severity = .fast)

/-- REF_IN_EDGE, INTERNAL_REFERENCE_EDGE, REFERENCE_RETURNED and REFERENCE_LOST (R67, R68, R71, R75). The edges of the source in
force act, those of the other do not, and an edge within 240 counts of the last is not accepted. A period of 240 to 1 500 counts
enters S and while PRESENT gives f_ref, and in UNLOCKED and LOCKED the edge advances R. 64 periods in range make an ABSENT
reference PRESENT; in HOLDOVER the capstan then returns to UNLOCKED within 2 % and to SPINUP beyond it. A loss posts its REF notice,
is counted as a REFERENCE_LOSSES by the counters that admit the capstan, and freezes the base rate of UNLOCKED and LOCKED, in
HOLDOVER. That R keeps its value while the capstan is OFF is inferred (log entry 63). That the returning edge does not advance R, and that the periods of an ABSENT reference enter S, is inferred
(log entry 39). That a row named for a threshold changes nothing where the threshold is not reached is the model’s choice (log
entry 3). -/
def Obligations.ReferenceEdgesAreFollowed : Prop :=
  ∀ (s : State) (p : Nat) (c : Capstan) (edge : Instr) (periods : List Nat), s.held = none → c = s.capstan →
    (edge = .refInEdge p ∧ c.source = .external) ∨ (edge = .internalReferenceEdge ∧ c.source = .internal ∧ p = 1000) →
    periods = (if p ≤ 1500 then (p :: c.periods).take 64 else c.periods) →
    (c.source = .internal → ∀ n, exec (.refInEdge n) s = .next s) ∧
    (c.source = .external → exec .internalReferenceEdge s = .next s) ∧
    (p < 240 → exec edge s = .next s) ∧
    (240 ≤ p → c.present = true →
      exec (.referenceReturned p) s = .next s ∧
      ∃ t, exec edge s = .next t ∧ OnlyChanges [.capstan] s t ∧
        t.capstan =
          { c with
            periods := periods, fRef := if p ≤ 1500 then 3072000000000 / periods.sum else c.fRef
            r := t.capstan.r, remRef := t.capstan.remRef } ∧
        (c.lock ≠ .unlocked → c.lock ≠ .locked → t.capstan.r = c.r ∧ t.capstan.remRef = c.remRef) ∧
        (c.lock = .unlocked ∨ c.lock = .locked → 1 ≤ c.d →
          c.d * 10000 * t.capstan.r + t.capstan.remRef = c.d * 10000 * c.r + c.m * (10000 + c.vs) * 65536 + c.remRef ∧
            0 ≤ t.capstan.remRef ∧ t.capstan.remRef < c.d * 10000)) ∧
    (240 ≤ p → c.present = false → ∀ run, run = (if p ≤ 1500 then c.presentRun + 1 else 0) →
      (run < 64 → exec edge s = .next (s.onCapstan fun c => { c with periods := periods, presentRun := run }) ∧
        exec (.referenceReturned p) s = .next s) ∧
      (run = 64 →
        ∃ t b, exec edge s = .next t ∧ exec (.referenceReturned p) s = .next t ∧ OnlyChanges [.capstan, .link] s t ∧
          t.capstan.present = true ∧ t.capstan.presentRun = 0 ∧ t.capstan.periods = periods ∧
          t.capstan.fRef = 3072000000000 / periods.sum ∧ t.link = txTake (enqueueNotice (.ref .returned c.source true) s.link) ∧
          b = t.capstan.fRef * c.m / c.d ∧
          (c.lock ≠ .holdover → t.capstan.lock = c.lock ∧ t.capstan.r = c.r ∧ t.capstan.frozenBase = c.frozenBase) ∧
          (c.lock = .holdover → c.frozenBase ≠ none → t.capstan.frozenBase = none ∧
            t.capstan.lock = (if 100 * mag ((b : Int) - c.base) ≤ 2 * b then .unlocked else .spinup) ∧
            (t.capstan.lock = .unlocked → t.capstan.r = c.e * 65536 ∧ t.capstan.ePhi = 0)))) ∧
    (c.source = .internal ∨ c.present = false → exec .referenceLost s = .next s) ∧
    (c.source = .external → c.present = true →
      ∃ t, exec .referenceLost s = .next t ∧ OnlyChanges [.capstan, .monitor, .link] s t ∧
        CountsWhere (·.capstan) .referenceLosses s t ∧
        PostsUnlessFreezing (.ref .lost .external false) s t ∧
        (c.lock ≠ .unlocked → c.lock ≠ .locked → t.capstan = { c with present := false, presentRun := 0 }) ∧
        (c.lock = .unlocked ∨ c.lock = .locked →
          t.capstan =
            { c with
              present := false, presentRun := 0, lock := .holdover, frozenBase := some c.base, lockRun := 0, unlockRun := 0 }))

/-! ## Steps of the Motion Planner (R82 to R101) and the survey's samples (R173, R174) -/

/-- PLANNER_STEP (R82, R88, R90, R94, R95, R98 to R106, R142). v_ref is 0 at rest and in the stages of LOADING and UNLOADING but the
probe creep; TAKE_UP counts its arm run and stage timer (to 12 000 steps, log entry 36), RAMP_DOWN waits for the setpoint to settle.
With the pinch OPEN, v_ref in WIND, LOCATE, SURVEY, CHASE and ENGAGING moves by a quarter of the limit in force toward the goal, or
first toward 0 where it runs the other way: a_dec_eff, or where it looks ahead the torque-available limit while a drop point is out
of reach at a_dec_eff (R105); a cue out of reach even at that is missed (log entry 34). ENGAGING and RUNUP count their match run and
timer (log entry 36); the goal is in mm/s (log entry 24). With the pinch commanded closed v_ref is v_play, and while it opens v_ref is
held (log entry 25), with no cue judged in WIND (log entry 70). In STOPPING v_ref moves toward 0, at the torque-available limit in a FAST stop, and at 0 the mode is HOLD, as it is
in WIND under the auto-stop cap. In ENGAGING and PLAY a zone boundary that forbids forward within the stopping distance stops the
tape, and so it does in CHASE with the pinch commanded closed, whatever cue is due at the same step (inferred, log entry 32); in PLAY
a cue within it does, and one first seen too late is missed
(R106; what "first seen" and "in force" come to is log entry 52; that d_dec takes the forward rate even at a negative v_ref is log
entry 72). In the look-ahead modes |v_goal_eff| keeps below every limit and
every drop point’s v_allow. BRAKING_STANDSTILL is the step at which 40 in a row saw the tape still with the brakes applied: the mode
is BRAKED. The order inside a step (checks and runs first, then v_ref) is log entry 33; that a row named for a threshold changes
nothing where it is not reached is log entry 3. That MODE is posted before AUTO_STOP at the end of a capped WIND is the model’s choice
(log entry 75), and so are that the goal stays in PLAY (log entry 83), and that the stop cause becomes none with the stop in force (log
entry 86). -/
def Obligations.PlannerStepsMoveTheReference : Prop :=
  (∀ s : State, s.planner.mode.looksAhead = true →
    mag (goalEff s) ≤ mag s.planner.goal ∧ mag (goalEff s) ≤ vMaxEff s ∧ mag (goalEff s) ≤ s.zones.current.limit ∧
      ∀ d q, s.planner.travel = some d → q ∈ dropPoints s d →
        mag (goalEff s) ^ 2 ≤ q.limit ^ 2 + (aDecEff s d * distanceTo s.tach.position q.pos q.guard / 40).toNat) ∧
  ∀ s : State, s.held = none →
    (s.planner.mode = .idle ∨ s.planner.mode = .hold ∨ s.planner.mode = .braked →
      exec .plannerStep s = .next (s.onPlanner fun p => { p with vRef := 0, aRef := 0 })) ∧
    (∀ (dist : Int) (far : Prop) (stops : List (Nat × Int)),
      dist = (if s.planner.pinch.commandedClosed then divCeil (mag s.planner.vRef / 1000 * 16) 5 else 0) +
        divCeil ((mag s.planner.vRef / 1000) ^ 2 * 40) (aDecEff s .forward) →
      (far ↔ ∀ b ∈ forbiddingAhead s.zones .forward s.tach.position,
        dist < (mag (b - s.tach.position) - s.planner.guard : Nat)) →
      stops = (s.cues.list.filter fun c => c.kind == .autoStop).map (fun c => (c.id, c.position)) →
      (far → s.planner.mode = .play → s.cues.list = [] →
        exec .plannerStep s =
          .next (s.onPlanner fun p => { p with vRef := s.capstan.vPlay, aRef := 0, inForce := [], seen := [] })) ∧
      (far → s.planner.mode = .engaging →
        (s.planner.pinch.commandedClosed = true →
          exec .plannerStep s =
            .next (s.onPlanner fun p =>
              { p with goal := mmPerS s.capstan.vPlay, vRef := s.capstan.vPlay, aRef := 0, inForce := stops, seen := [] })) ∧
        (s.planner.pinch = .opening →
          exec .plannerStep s =
            .next (s.onPlanner fun p =>
              { p with goal := mmPerS s.capstan.vPlay, aRef := 0, inForce := stops, seen := [] })) ∧
        ∀ (run : Nat) (timer : Option Nat) (v g : Int) (move : Int → Int → State), s.planner.pinch = .opened →
          run = (if (mag (s.tach.vMeas - s.capstan.vPlay) : Int) ≤ s.capstan.vPlay / 100 then min 40 (s.planner.matchRun + 1)
            else 0) →
          timer = (if s.planner.matchTimer = none ∧ run = 40 then some 0 else s.planner.matchTimer.map (· + 1)) →
          ¬(run = 40 ∧ (s.capstan.lock = .locked ∨ s.capstan.lock = .holdover)) → (∀ k, timer = some k → k < 12000) →
          v = s.planner.vRef → g = 1000 * mmPerS s.capstan.vPlay → 0 < g →
          (∀ v1 a1, move v1 a1 = s.onPlanner fun p =>
            { p with
              goal := mmPerS s.capstan.vPlay, matchRun := run, matchTimer := timer, vRef := v1, aRef := a1, inForce := stops
              seen := [] }) →
          (0 ≤ v → v < g → 4 ≤ aAccEff s .forward →
            exec .plannerStep s = .next (move (min g (v + aAccEff s .forward / 4)) (aAccEff s .forward))) ∧
          (g < v → 4 ≤ aDecEff s .forward →
            exec .plannerStep s = .next (move (max g (v - aDecEff s .forward / 4)) (-aDecEff s .forward))) ∧
          (v = g → 0 ≤ aDecEff s .forward → exec .plannerStep s = .next (move v 0)) ∧
          (v < 0 → 4 ≤ aDecEff s .reverse →
            exec .plannerStep s = .next (move (min 0 (v + aDecEff s .reverse / 4)) (aDecEff s .reverse)))) ∧
      (¬far → s.planner.mode = .engaging ∨ s.planner.mode = .play → s.planner.pinch.commandedClosed = true →
        s.planner.stopInForce = none →
          ∃ t, exec .plannerStep s = .next t ∧ OnlyChanges [.planner, .zones, .cues, .lines, .fault, .link] s t ∧
            t.planner.mode = .stopping ∧ t.planner.stopInForce = some .controlled ∧ t.planner.stopCause = some .zone ∧
            t.planner.pinch = .opening ∧ t.planner.vRef = s.planner.vRef ∧ t.fault.record = s.fault.record) ∧
      (¬far → s.planner.mode = .engaging → s.planner.pinch = .opened → s.planner.stopInForce = none →
        4 ≤ aDecEff s .forward → aDecEff s .forward / 4 < s.planner.vRef →
          ∃ t, exec .plannerStep s = .next t ∧ OnlyChanges [.planner, .zones, .cues, .lines, .fault, .link] s t ∧
            t.planner.mode = .stopping ∧ t.planner.stopInForce = some .controlled ∧ t.planner.stopCause = some .zone ∧
            t.planner.vRef = s.planner.vRef - aDecEff s .forward / 4 ∧ t.fault.record = s.fault.record) ∧
      ∀ clear : Prop, s.planner.mode = .chase → s.planner.pinch.commandedClosed = true →
        (clear ↔ ∀ q ∈ s.planner.unitPoints, s.tach.position < q.pos → dist < (mag (q.pos - s.tach.position) - q.guard : Nat)) →
        (clear → exec .plannerStep s = .next (s.onPlanner fun p => { p with vRef := s.capstan.vPlay, aRef := 0 })) ∧
        (¬clear → s.planner.stopInForce = none →
          ∃ t, exec .plannerStep s = .next t ∧
            OnlyChanges [.planner, .zones, .cues, .locate, .chase, .capstan, .lines, .fault, .link] s t ∧
            t.planner.mode = .stopping ∧ t.planner.stopInForce = some .controlled ∧ t.planner.stopCause = some .zone ∧
            t.planner.pinch = .opening ∧ t.planner.vRef = s.planner.vRef ∧ t.chase.state = .off ∧
            t.fault.record = s.fault.record)) ∧
    (∀ g v : Int, s.planner.mode = .wind → s.planner.pinch = .opened → s.planner.autoStopCap = false → s.planner.unitPoints = [] →
      s.cues.list = [] → (∀ z ∈ s.zones.entries, z.enabled = false) → 0 < s.planner.goal →
      g = 1000 * min (min s.planner.goal (vMaxEff s)) s.zones.current.limit → v = s.planner.vRef → 0 ≤ v →
      (v < g → 4 ≤ aAccEff s .forward →
        exec .plannerStep s =
          .next (s.onPlanner fun p =>
            { p with
              vRef := min g (v + aAccEff s .forward / 4), aRef := aAccEff s .forward, inForce := [], seen := [] })) ∧
      (g < v → 4 ≤ aDecEff s .forward →
        exec .plannerStep s =
          .next (s.onPlanner fun p =>
            { p with
              vRef := max g (v - aDecEff s .forward / 4), aRef := -aDecEff s .forward, inForce := [], seen := [] })) ∧
      (v = g → 0 ≤ aDecEff s .forward →
        exec .plannerStep s = .next (s.onPlanner fun p => { p with aRef := 0, inForce := [], seen := [] }))) ∧
    (s.planner.mode = .loading →
      (s.planner.sub ≠ some .takeUp → s.planner.sub ≠ some .probeCreep →
        exec .plannerStep s = .next (s.onPlanner fun p => { p with vRef := 0, aRef := 0 })) ∧
      (∀ run time : Nat, s.planner.sub = some .takeUp → s.planner.stageTimer = some time → run < 40 →
        run = (if mag s.sense.arms.supply.p ≤ 200 ∧ mag s.sense.arms.takeup.p ≤ 200 then s.planner.armRun + 1 else 0) →
        (time + 1 < 12000 →
          exec .plannerStep s =
            .next (s.onPlanner fun p => { p with armRun := run, stageTimer := some (time + 1), vRef := 0, aRef := 0 })) ∧
        (12000 ≤ time + 1 → exec .plannerStep s = exec .loadTimeout s)) ∧
      (∀ g v : Int, s.planner.sub = some .probeCreep → g = 1000 * s.planner.goal → v = s.planner.vRef → 0 < g → 0 ≤ v → v ≤ g →
        4 ≤ aAccEff s .forward → 0 ≤ aDecEff s .forward →
          exec .plannerStep s =
            .next (s.onPlanner fun p =>
              { p with
                vRef := min g (v + aAccEff s .forward / 4), aRef := if v = g then 0 else aAccEff s .forward }))) ∧
    (s.planner.mode = .unloading →
      (s.planner.sub ≠ some .rampDown ∨ s.servo.settled = false →
        exec .plannerStep s = .next (s.onPlanner fun p => { p with vRef := 0, aRef := 0 })) ∧
      (s.planner.sub = some .rampDown → s.servo.settled = true →
        ∃ t, exec .plannerStep s = .next t ∧ OnlyChanges [.planner, .lines, .fault, .link] s t ∧
          t.planner.mode = .unloading ∧ t.planner.sub = some .brakeSet ∧ t.planner.vRef = 0 ∧
          t.planner.brake = (if s.planner.brake = .applied then .applied else .applying) ∧ t.lines.brakeS = true ∧
          t.lines.brakeT = true ∧ t.fault.record = s.fault.record)) ∧
    (s.planner.mode = .locate ∨ s.planner.mode = .survey ∨ s.planner.mode = .chase →
      s.planner.pinch = .opening → exec .plannerStep s = .next (s.onPlanner fun p => { p with aRef := 0 })) ∧
    (s.planner.mode = .stopping → s.planner.pinch ≠ .opened →
      exec .plannerStep s = .next (s.onPlanner fun p => { p with aRef := 0 })) ∧
    (s.planner.mode = .wind → s.planner.pinch = .opening →
      exec .plannerStep s =
        .next (s.onPlanner fun p =>
          { p with
            aRef := 0, inForce := (s.cues.list.filter fun c => c.kind == .autoStop).map fun c => (c.id, c.position), seen := [] })) ∧
    (s.planner.mode = .locate ∨ s.planner.mode = .survey ∨ (s.planner.mode = .chase ∧ s.chase.state ≠ .runup) →
      s.planner.pinch = .opened → s.planner.vRef = 0 → s.planner.goal = 0 →
        exec .plannerStep s = .next (s.onPlanner fun p => { p with aRef := 0 })) ∧
    (∀ (d : Dir) (v g acc dec : Int) (run : Nat) (timer : Option Nat) (move : Int → Int → State), s.planner.pinch = .opened →
      run = (if (mag (s.tach.vMeas - s.capstan.vPlay) : Int) ≤ s.capstan.vPlay / 100 then min 40 (s.planner.matchRun + 1)
        else 0) →
      timer = (if s.planner.matchTimer = none ∧ run = 40 then some 0 else s.planner.matchTimer.map (· + 1)) →
      s.planner.mode = .locate ∨ s.planner.mode = .survey ∨
        (s.planner.mode = .chase ∧
          (s.chase.state = .runup →
            ¬(run = 40 ∧ (s.capstan.lock = .locked ∨ s.capstan.lock = .holdover)) ∧ ∀ k, timer = some k → k < 12000)) ∨
        (s.planner.mode = .wind ∧ (s.planner.autoStopCap = false ∨ dec / 4 < mag v)) →
      v = s.planner.vRef → g = 1000 * goalEff s → s.planner.travel = some d → acc = aAccEff s d →
      ((∀ q ∈ dropPoints s d, neededDistance (mag v / 1000) q.limit (aDecEff s d) ≤ distanceTo s.tach.position q.pos q.guard) →
        dec = aDecEff s d) →
      ((∃ q ∈ dropPoints s d,
          (distanceTo s.tach.position q.pos q.guard : Int) < neededDistance (mag v / 1000) q.limit (aDecEff s d)) →
        dec = s.planner.torque.dec d) →
      (∀ v1 a1, move v1 a1 = s.onPlanner fun p =>
        { p with
          vRef := v1, aRef := a1
          inForce := if s.planner.mode = .wind then
            (s.cues.list.filter fun c => c.kind == .autoStop).map fun c => (c.id, c.position) else p.inForce
          seen := if s.planner.mode = .wind then [] else p.seen
          matchRun := if s.planner.mode = .chase ∧ s.chase.state = .runup then run else p.matchRun
          matchTimer := if s.planner.mode = .chase ∧ s.chase.state = .runup then timer else p.matchTimer }) →
      ((∀ c ∈ cuePoints s d, neededDistance (mag v / 1000) 0 (s.planner.torque.dec d) ≤ mag (c.position - s.tach.position)) →
        (mag v < mag g → 0 ≤ v * g → 4 ≤ acc →
          exec .plannerStep s = .next (if 0 < g then move (min g (v + acc / 4)) acc else move (max g (v - acc / 4)) (-acc))) ∧
        (mag g < mag v → 0 ≤ v * g → 4 ≤ dec →
          exec .plannerStep s = .next (if 0 < v then move (max g (v - dec / 4)) (-dec) else move (min g (v + dec / 4)) dec)) ∧
        (v * g < 0 → 4 ≤ dec →
          exec .plannerStep s = .next (if 0 < v then move (max 0 (v - dec / 4)) (-dec) else move (min 0 (v + dec / 4)) dec)) ∧
        (v = g → 0 ≤ dec → exec .plannerStep s = .next (move v 0))) ∧
      (s.planner.mode = .wind →
        ∃ t, exec .plannerStep s = .next t ∧ OnlyChanges [.planner, .cues] s t ∧
          ∀ i, i ∈ t.planner.missed ↔ i ∈ s.planner.missed ∨ ∃ c ∈ cuePoints s d, c.id = i ∧
            (mag (c.position - s.tach.position) : Int) < neededDistance (mag v / 1000) 0 (s.planner.torque.dec d))) ∧
    (s.planner.mode = .wind → s.planner.pinch = .opened → s.planner.autoStopCap = true →
      (∀ d, s.planner.travel = some d → (mag s.planner.vRef : Int) ≤ aDecEff s d / 4) →
        ∃ t, exec .plannerStep s = .next t ∧ OnlyChanges [.planner, .cues, .lines, .fault, .link] s t ∧
          t.planner.mode = .hold ∧ t.planner.vRef = 0 ∧ t.planner.goal = 0 ∧ t.planner.stopInForce = none ∧
          t.cues.pendingStop = none ∧ t.fault.record = s.fault.record ∧
          ∀ r, s.cues.pendingStop = some r →
            t.link = txTake (enqueueNotice
              (.autoStop r.id r.position s.tach.position (s.tach.position - r.position) r.label)
              (txTake (enqueueNotice (.mode .hold none .wind none .autoStop) s.link)))) ∧
    (∀ (c : Cue) (dist slow fast : Int), s.planner.mode = .play → s.planner.pinch = .closed → s.planner.stopInForce = none →
      (∀ z ∈ s.zones.entries, z.enabled = false) → s.cues.list = [c] → c.kind = .autoStop → c.id ∉ s.planner.missed →
      dist = c.position - s.tach.position → 0 < dist →
      slow = divCeil (mag s.planner.vRef / 1000 * 16) 5 + divCeil ((mag s.planner.vRef / 1000) ^ 2 * 40) (aDecEff s .forward) →
      fast = divCeil (mag s.planner.vRef / 1000 * 16) 5 + divCeil ((mag s.planner.vRef / 1000) ^ 2 * 40) s.planner.torque.fwdDec →
      ((c.id, c.position) ∉ s.planner.seen → dist < fast →
        ∃ t, exec .plannerStep s = .next t ∧ OnlyChanges [.planner, .cues] s t ∧ t.planner.mode = .play ∧
          t.planner.vRef = s.capstan.vPlay ∧ t.planner.missed = s.planner.missed ++ [c.id] ∧
          t.cues = { s.cues with list := [{ c with mark := .missed }] }) ∧
      ((c.id, c.position) ∈ s.planner.seen ∨ fast ≤ dist →
        (dist ≤ slow →
          ∃ t, exec .plannerStep s = .next t ∧ OnlyChanges [.planner, .zones, .cues, .lines, .fault, .link] s t ∧
            t.planner.mode = .stopping ∧ t.planner.stopInForce = some .controlled ∧ t.planner.stopCause = some .autoStop ∧
            t.planner.pinch = .opening ∧ t.planner.vRef = s.planner.vRef ∧ t.planner.missed = s.planner.missed ∧
            t.cues = { s.cues with pendingStop := some { id := c.id, position := c.position, label := c.label } } ∧
            t.fault.record = s.fault.record) ∧
        (slow < dist →
          exec .plannerStep s =
            .next (s.onPlanner fun p =>
              { p with
                vRef := s.capstan.vPlay, aRef := 0, inForce := [(c.id, c.position)], seen := [(c.id, c.position)] })))) ∧
    (∀ (d : Dir) (v a : Int), s.planner.mode = .stopping → s.planner.pinch = .opened → v = s.planner.vRef → dirOf v = some d →
      a = (if s.planner.stopInForce = some .fast then s.planner.torque.dec d else aDecEff s d) → 4 ≤ a → a / 4 < mag v →
        exec .plannerStep s =
          .next (s.onPlanner fun p =>
            { p with vRef := if d = .forward then v - a / 4 else v + a / 4, aRef := if d = .forward then -a else a })) ∧
    (s.planner.mode = .stopping → s.planner.pinch = .opened →
      (s.planner.vRef = 0 ∧ s.planner.goal = 0) ∨
          (∃ (d : Dir) (a : Int), dirOf s.planner.vRef = some d ∧ 4 ≤ a ∧ mag s.planner.vRef ≤ a / 4 ∧
            a = (if s.planner.stopInForce = some .fast then s.planner.torque.dec d else aDecEff s d)) →
        ∃ t, exec .plannerStep s = .next t ∧ OnlyChanges [.planner, .zones, .cues, .lines, .fault, .link] s t ∧
          t.planner.mode = .hold ∧ t.planner.vRef = 0 ∧ t.planner.goal = 0 ∧ t.planner.stopInForce = none ∧
          t.planner.stopCause = none ∧ t.lines.brakeS = s.lines.brakeS ∧ t.zones.entries = s.zones.entries ∧
          (s.planner.stopCause = some .autoStop → t.cues.pendingStop = none) ∧
          (s.planner.stopCause = some .zone → t.zones.pendingBlock = none) ∧ t.fault.record = s.fault.record ∧
          ∀ k, s.planner.stopCause = some k → k ≠ .autoStop → k ≠ .zone →
            t.link = txTake (enqueueNotice (.mode .hold none .stopping none (modeCauseOf k)) s.link)) ∧
    (∀ run, s.planner.mode = .braking → s.planner.standRun < 40 →
      run = (if s.planner.brake = .applied ∧ mag s.tach.vMeas < 5000 then s.planner.standRun + 1 else 0) →
      (run < 40 →
        exec .plannerStep s = .next (s.onPlanner fun p => { p with standRun := run, vRef := 0, aRef := 0 }) ∧
        exec .brakingStandstill s = .next s) ∧
      (run = 40 →
        ∃ t, exec .plannerStep s = .next t ∧ exec .brakingStandstill s = .next t ∧
          OnlyChanges [.planner, .lines, .fault, .link] s t ∧ t.planner.mode = .braked ∧ t.planner.vRef = 0 ∧
          t.planner.stopInForce = none ∧ t.planner.stopCause = none ∧ t.planner.brake = s.planner.brake ∧
          t.fault.record = s.fault.record))

/-- BRAKE_COMPLETE, LOAD_TAKE_UP_DONE and LOAD_TIMEOUT (R83, R87 to R90, R42). A transition of the brakes ends, and with it
RELEASE of a load, in TAKE_UP with the drives ENABLED, and BRAKE_SET of an unload, in IDLE. In TAKE_UP the step at which 40 in a
row saw both arms within ±200 begins the probe creep at 100 mm/s with both records in PROBE, and is taken before the timer’s
expiry at the same step (inferred, log entry 33); the timer's expiry ends the load in BRAKED. That a row named for a threshold
changes nothing where the threshold is not reached is the model’s choice (log entry 3). That an expiry is taken at its word while
its timer runs is the model’s choice (log entry 6). Of the packs at the entry to IDLE R29 gives the status; that their other members
become what a reset leaves is the model’s choice (log entry 68, and 48 for J). The model’s choice too are
that a failed load stops the stage timer (log entry 82), and has v_ref at 0 at once (log entry 86). -/
def Obligations.LoadingRunsThroughItsStages : Prop :=
  ∀ s : State, s.held = none →
    (s.planner.brake = .applied ∨ s.planner.brake = .released → exec .brakeComplete s = .next s) ∧
    (s.planner.brake = .releasing →
      (¬(s.planner.mode = .loading ∧ s.planner.sub = some .release) →
        exec .brakeComplete s = .next (s.onPlanner fun p => { p with brake := .released })) ∧
      (s.planner.mode = .loading → s.planner.sub = some .release → s.servo.enabled = false →
        (∀ r, (s.sense.arms.get r).outcome ≠ .stalled ∧ (s.sense.arms.get r).outcome ≠ .outOfRange) →
        ∃ t, exec .brakeComplete s = .next t ∧ OnlyChanges [.planner, .servo, .lines, .fault, .link] s t ∧
          t.planner =
            { s.planner with
              brake := .released, sub := some .takeUp, armRun := 0, stageTimer := some 0, drivesCmd := true } ∧
          t.servo = { s.servo with enabled := true, tEff16 := 320, reels := t.servo.reels } ∧
          ∀ r, t.servo.reels.get r =
            { s.servo.reels.get r with integ := 0, sat := none, satRun := 0, slackRun := 0, overRun := 0 })) ∧
    (s.planner.brake = .applying →
      (¬(s.planner.mode = .unloading ∧ s.planner.sub = some .brakeSet) →
        exec .brakeComplete s = .next (s.onPlanner fun p => { p with brake := .applied })) ∧
      (s.planner.mode = .unloading → s.planner.sub = some .brakeSet →
        ∃ t, exec .brakeComplete s = .next t ∧ t.planner.mode = .idle ∧ t.planner.sub = none ∧ t.planner.brake = .applied ∧
          t.servo.enabled = false ∧ t.packs.pack = .both .unknown ∧ t.packs.a0 = none ∧ t.packs.mismatch = false ∧
          t.capstan.lock = .off ∧ t.sense = s.sense ∧ t.tach = s.tach ∧ t.fault.record = s.fault.record)) ∧
    (s.planner.mode = .loading → s.planner.sub = some .takeUp →
      (∃ t, exec .loadTimeout s = .next t ∧ OnlyChanges [.planner, .packs, .servo, .lines, .fault, .link] s t ∧
        t.planner.mode = .braked ∧ t.planner.sub = none ∧ t.servo.enabled = false ∧ t.planner.stageTimer = none ∧
        t.planner.vRef = 0 ∧ t.lines.brakeS = true ∧ t.lines.brakeT = true ∧ t.lines.pinch = false ∧
        t.fault.record = s.fault.record) ∧
      (s.planner.armRun = 39 → (∀ r, mag (s.sense.arms.get r).p ≤ 200) →
        ∃ t, exec .loadTakeUpDone s = .next t ∧ exec .plannerStep s = .next t ∧
          OnlyChanges [.planner, .packs, .lines, .fault, .link] s t ∧ t.planner.mode = .loading ∧
          t.planner.sub = some .probeCreep ∧ t.planner.goal = (if s.planner.creep = .forward then 100 else -100) ∧
          t.planner.stageTimer = none ∧ t.planner.refPos = s.tach.position ∧
          t.packs = { s.packs with pack := .both { Pack.unknown with status := .probe } }) ∧
      (s.planner.armRun < 39 ∨ (∃ r, 200 < mag (s.sense.arms.get r).p) → exec .loadTakeUpDone s = .next s)) ∧
    (¬(s.planner.mode = .loading ∧ s.planner.sub = some .takeUp) →
      exec .loadTimeout s = .next s ∧ exec .loadTakeUpDone s = .next s)

/-- ENGAGE_MATCH, PINCH_CLOSE_COMMAND, ENGAGE_TIMEOUT and PINCH_COMPLETE (R84, R94, R142), and the planner steps at which they fall, in
ENGAGING and in the RUNUP of a chase, with cues and zones as they may be: in ENGAGING with no zone that forbids forward within the
stopping distance, where the step is a ZONE stop instead (R106, Obligations.PlannerStepsMoveTheReference). With the pinch OPEN, 40 steps
in a row within 1 % of v_play start the match timer and, with the capstan LOCKED or in HOLDOVER, command the pinch closed, and v_ref is
v_play from that step. A timer that a step brings to 12 000 steps of 250 µs, 3 000 ms, with the pinch not closed at it, stops the
tape with ENGAGE_FAILED, and the same step moves v_ref once toward 0; `EngagementFails` says what the stop does, and that a chase ends
by it. The pinch CLOSED makes ENGAGING PLAY, and the RUNUP of a chase MATCH. That
the closing comes before the expiry at the same step, and v_ref after both, is inferred (log entry 33), and so are the timer’s 0
at the step that starts it (log entry 36) and v_ref at v_play from the closing on (log entry 25). That a row named for a threshold
changes nothing where the threshold is not reached is the model’s choice (log entry 3). That an expiry is taken at its word while
its timer runs is the model’s choice (log entry 6), and so are that MATCH keeps the plan of the chase (log entry 77) and that the
timer stops and the run stays where the engagement ends (log entry 81). The lead and doublings of the CHASE notice of MATCH are
inferred (log entry 79). -/
def Obligations.EngagingClosesThePinch : Prop :=
  ∀ s : State, s.held = none →
    (∀ (near fit : Prop) (run : Nat) (timer : Option Nat) (taken : Planner → Planner),
      s.planner.mode = .engaging ∨ (s.planner.mode = .chase ∧ s.chase.state = .runup) → s.planner.pinch = .opened →
      (near ↔ (mag (s.tach.vMeas - s.capstan.vPlay) : Int) ≤ s.capstan.vPlay / 100) →
      (fit ↔ s.capstan.lock = .locked ∨ s.capstan.lock = .holdover) →
      ((near → run = min 40 (s.planner.matchRun + 1)) ∧ (¬near → run = 0)) →
      timer = (if s.planner.matchTimer = none ∧ run = 40 then some 0 else s.planner.matchTimer.map (· + 1)) →
      (∀ p, taken p =
        if s.planner.mode = .engaging then
          { p with
            goal := mmPerS s.capstan.vPlay
            inForce := (s.cues.list.filter fun c => c.kind == .autoStop).map (fun c => (c.id, c.position)), seen := [] }
        else p) →
      (run < 40 ∨ s.planner.matchTimer ≠ none → exec .engageMatch s = .next s) ∧
      (run < 40 ∨ ¬fit → exec .pinchCloseCommand s = .next s) ∧
      (s.planner.matchTimer = none → exec .engageTimeout s = .next s) ∧
      (s.planner.matchTimer ≠ none → s.planner.stopInForce = none →
        ∃ t, exec .engageTimeout s = .next t ∧ EngagementFails s t) ∧
      ((s.planner.mode = .engaging → ForwardPathClear s) →
        (run = 40 → s.planner.matchTimer = none → exec .engageMatch s = exec .plannerStep s) ∧
        (run = 40 → fit → ∀ t : State,
          t = (s.onPlanner fun p =>
              taken { p with pinch := .closing, matchRun := 40, matchTimer := none, vRef := s.capstan.vPlay, aRef := 0 }).onLines
            (fun l => { l with pinch := true }) →
          exec .plannerStep s = .next t ∧ exec .pinchCloseCommand s = .next t) ∧
        (run < 40 ∨ ¬fit →
          ((∀ k, timer = some k → k < 12000) →
            ∃ v a, exec .plannerStep s = .next (s.onPlanner fun p =>
              taken { p with matchRun := run, matchTimer := timer, vRef := v, aRef := a })) ∧
          (∀ k, s.planner.matchTimer = some k → 12000 ≤ k + 1 → s.planner.stopInForce = none →
            ∃ u, EngagementFails s u ∧ exec .engageTimeout s = .next u ∧ exec .plannerStep s = exec .plannerStep u ∧
              (∀ (d : Dir) (v a : Int), v = s.planner.vRef → dirOf v = some d → a = aDecEff s d → 4 ≤ a → a / 4 < mag v →
                exec .plannerStep s =
                  .next (u.onPlanner fun p =>
                    { p with vRef := if d = .forward then v - a / 4 else v + a / 4, aRef := if d = .forward then -a else a })) ∧
              ((s.planner.vRef = 0 ∨ ∃ d, dirOf s.planner.vRef = some d ∧ 4 ≤ aDecEff s d ∧
                  (mag s.planner.vRef : Int) ≤ aDecEff s d / 4) →
                ∃ t, exec .plannerStep s = .next t ∧ t.planner.mode = .hold ∧ t.planner.vRef = 0 ∧ t.planner.goal = 0 ∧
                  t.planner.stopInForce = none ∧ t.planner.stopCause = none ∧ t.planner.pinch = .opened ∧
                  t.chase = u.chase ∧ t.capstan = u.capstan ∧ t.locate = u.locate ∧ t.fault.record = s.fault.record ∧
                  t.link = u.link.posted [.mode .hold none .stopping none .engageFailed]))))) ∧
    (s.planner.pinch ≠ .opened ∨ (s.planner.mode ≠ .engaging ∧ ¬(s.planner.mode = .chase ∧ s.chase.state = .runup)) →
      exec .engageMatch s = .next s ∧ exec .pinchCloseCommand s = .next s ∧ exec .engageTimeout s = .next s) ∧
    (s.planner.pinch = .opened ∨ s.planner.pinch = .closed → exec .pinchComplete s = .next s) ∧
    (s.planner.pinch = .opening → exec .pinchComplete s = .next (s.onPlanner fun p => { p with pinch := .opened })) ∧
    (s.planner.pinch = .closing →
      (s.planner.mode = .engaging →
        ∃ t, exec .pinchComplete s = .next t ∧ OnlyChanges [.planner, .lines, .fault, .link] s t ∧ t.planner.mode = .play ∧
          t.planner.pinch = .closed ∧ t.lines = { s.lines with recordInhibit := s.zones.current.inhibit } ∧
          t.fault.record = s.fault.record ∧
          t.link = s.link.posted [.mode .play none .engaging s.planner.stopInForce .complete]) ∧
      (s.planner.mode = .chase → s.chase.state = .runup →
        ∃ t, exec .pinchComplete s = .next t ∧ OnlyChanges [.planner, .chase, .lines, .link] s t ∧
          t.planner = { s.planner with pinch := .closed } ∧
          t.chase = { s.chase with state := .matching, inRun := 0, outRun := 0, lead := s.params.lead, doublings := 0 } ∧
          t.link = s.link.posted [.chase .matching .runup .acquire s.chase.e s.capstan.trim s.params.lead 0]) ∧
      (s.planner.mode ≠ .engaging → ¬(s.planner.mode = .chase ∧ s.chase.state = .runup) →
        exec .pinchComplete s = .next (s.onPlanner fun p => { p with pinch := .closed })))

/-- The run of a survey (R172 to R176). POSITIONING: at the unit step that ends its locate, DONE makes it RUNNING in RAMP, with the goal
the signed survey speed and no drop point; MISSED and BLOCKED end it ABORTED, with LOCATE_MISSED or LOCATE_BLOCKED; at every other the
locate goes on. RUNNING, at each servo sample, with no run of the servo near its end: a boundary before `to` into a zone that forbids
the survey direction ends it ABORTED with ZONE, before its step is looked at (log entry 31). Elsewhere RAMP begins step 0 where v_ref
equals v_goal_eff, formed anew at the sample (log entry 30); the 100th sample of SETTLE begins COUNT, with the base values of counters 2
and 3; each sample of COUNT takes their gains. A step ends by LIMIT where the source is SLACK or EXCURSION and its gain has reached
the limit value, or else by DWELL at its dwell: the entry is recorded and SURVEY_STEP posted, and the survey ends FAST_END (the fast
flag and its threshold), ends COMPLETE (the last step), or begins the next step in SETTLE. A roller edge that reaches `to` ends it
RANGE_END, its step in progress ended by RANGE with no SURVEY_STEP. `SurveyEnds` says what every ending does. SURVEY_SETTLE_DONE and
SURVEY_STEP_END are the samples at which their threshold is reached, and elsewhere change nothing (log entry 3). That a sample’s
additions are seen at that sample, which comes last, is the model’s choice (log entry 51), and so is that zone and cues are taken
before the range (log entry 53). That what times the settle run is a count of steps is log entry 36. That a barred path ends the
POSITIONING part BLOCKED before the checks of CREEP is the model’s choice (log entry 57), and so are the two clauses of `SurveyEnds` that
R176 does not give: k is kept at an ending (log entry 66), and the step phase is absent after it (DEDUCED, log entry 41). -/
def Obligations.SurveyStepsCountTheirSamples : Prop :=
  (∀ (s : State) (q : SurveyRequest) (l : LocateRec) (x : Int) (dist run : Nat) (d : Dir) (barred again : Prop),
    s.held = none → s.chase.state = .off → s.locate = some l → l.owner = .survey → s.survey.state = .positioning →
    s.survey.request = some q → x = s.tach.position → dist = mag (l.aim - x) →
    d = (if x < l.aim then .forward else if l.aim < x then .reverse else l.dir) →
    run = (if mag s.tach.vMeas < 2000 then l.settleRun + 1 else 0) →
    (barred ↔ l.phase ≠ .settle ∧ s.planner.vRef = 0 ∧ x ≠ l.aim ∧
      ∃ b ∈ boundariesAhead s.zones d x, aheadOf d l.aim b = false ∧ (attrsAt s.zones b).dirs.allows d = false) →
    (again ↔ s.params.tolerance < dist ∧ ((l.phase = .creep ∧ ¬barred ∧ d ≠ l.dir) ∨ (l.phase = .settle ∧ 40 ≤ run))) →
    (l.phase = .settle → 40 ≤ run → dist ≤ s.params.tolerance → ∀ t : State,
      t = ((s.onLocate fun _ => none).onSurvey fun v => { v with state := .running, phase := some .ramp }).onPlanner (fun p =>
        { p with goal := if q.start < q.finish then (q.speed : Int) else -(q.speed : Int), unitPoints := [] }) →
      exec .locateUnitStep s = .next t ∧ exec .locateSettled s = .next t) ∧
    (∀ table, StepClosed .abort s.survey.table table →
      (again → 3 ≤ l.attempts →
        ∃ t, exec .locateUnitStep s = .next t ∧ t.monitor.frozen = s.monitor.frozen ∧
          SurveyEnds [] [] .aborted (some .locateMissed) table s t) ∧
      (barred ∨ (again ∧ l.attempts < 3 ∧ forbidden s d = true) →
        ∃ t, exec .locateUnitStep s = .next t ∧ t.monitor.frozen = s.monitor.frozen ∧
          SurveyEnds [] [] .aborted (some .locateBlocked) table s t)) ∧
    (¬barred → ¬(again ∧ (3 ≤ l.attempts ∨ forbidden s d = true)) →
      ¬(l.phase = .settle ∧ 40 ≤ run ∧ dist ≤ s.params.tolerance) →
      ∃ t r, exec .locateUnitStep s = .next t ∧ OnlyChanges [.planner, .locate, .monitor, .link] s t ∧ t.locate = some r ∧
        r.owner = .survey ∧ r.aim = l.aim ∧ t.planner.mode = s.planner.mode ∧ t.planner.vRef = s.planner.vRef)) ∧
  (∀ (s : State) (q : SurveyRequest) (barred : Prop), s.held = none → s.servo.enabled = true → s.survey.state = .running →
    s.survey.request = some q →
    (barred ↔ ∃ b ∈ boundariesAhead s.zones q.dir s.tach.position,
      aheadOf q.dir q.finish b = false ∧ (attrsAt s.zones b).dirs.allows q.dir = false) →
    (∀ r, (s.servo.reels.get r).satRun < 799 ∧ (s.servo.reels.get r).slackRun < 7 ∧ (s.servo.reels.get r).overRun < 7) →
    (barred → ∀ table, StepClosed .abort s.survey.table table →
      ∃ t, exec .servoSample s = .next t ∧ SurveyEnds [.sense, .servo] [] .aborted (some .zone) table s t) ∧
    (¬barred → s.survey.phase = some .ramp →
      exec .surveySettleDone s = .next s ∧ exec .surveyStepEnd s = .next s ∧
      ∃ t, exec .servoSample s = .next t ∧ OnlyChanges [.sense, .servo, .monitor, .survey, .link] s t ∧
        (s.planner.vRef ≠ goalEff s * 1000 → t.survey = s.survey) ∧
        (s.planner.vRef = goalEff s * 1000 → 20 ≤ s.packs.tape.tMax → ∀ T : Int,
          T = max 20 (min (s.packs.tape.tMax : Int) q.tension) →
          t.survey =
            { s.survey with
              k := 0, phase := some .settle, phaseCount := 0, stepTension := some T
              table := s.survey.table ++
                [{ tension := T, clamped := T != q.tension, samples := 0, slack := 0, excursion := 0, endedBy := none
                   frozen := false }] })) ∧
    (¬barred → s.survey.phase = some .settle →
      (s.survey.phaseCount < 99 →
        exec .surveySettleDone s = .next s ∧
        ∃ t, exec .servoSample s = .next t ∧ OnlyChanges [.sense, .servo, .monitor, .survey, .link] s t ∧
          t.survey = { s.survey with phaseCount := s.survey.phaseCount + 1 }) ∧
      (s.survey.phaseCount = 99 →
        ∃ t, exec .servoSample s = .next t ∧ exec .surveySettleDone s = .next t ∧
          OnlyChanges [.sense, .servo, .monitor, .survey, .link] s t ∧
          t.survey =
            { s.survey with
              phase := some .count, phaseCount := 0, base2 := t.monitor.counters.c2.value, base3 := t.monitor.counters.c3.value
              frozenSeen := false })) ∧
    (¬barred → ∀ (done : List StepEntry) (e : StepEntry), s.survey.phase = some .count → s.survey.table = done ++ [e] →
      e.endedBy = none → s.survey.k = done.length →
      ∃ (t : State) (f : StepEntry) (limit fast : Prop), exec .servoSample s = .next t ∧
        f =
          { e with
            samples := s.survey.phaseCount + 1, slack := gainOver t.monitor.counters.c2 s.survey.base2
            excursion := gainOver t.monitor.counters.c3 s.survey.base3, frozen := s.survey.frozenSeen || t.monitor.frozen } ∧
        (limit ↔ (q.limitSource = .slack ∧ q.limitValue ≤ f.slack) ∨ (q.limitSource = .excursion ∧ q.limitValue ≤ f.excursion)) ∧
        (fast ↔ q.fast = true ∧ (q.thres + 1) * 2 ^ q.shift ≤ f.slack) ∧
        (¬limit → s.survey.phaseCount + 1 < q.dwell →
          exec .surveyStepEnd s = .next s ∧ OnlyChanges [.sense, .servo, .monitor, .survey, .link] s t ∧
          t.survey =
            { s.survey with
              phaseCount := s.survey.phaseCount + 1, frozenSeen := s.survey.frozenSeen || t.monitor.frozen
              table := done ++ [f] }) ∧
        ∀ (by_ : EndedBy) (g : StepEntry) (note : Notice),
          (by_ = .limit ∧ limit) ∨ (by_ = .dwell ∧ ¬limit ∧ q.dwell ≤ s.survey.phaseCount + 1) →
          g = { f with endedBy := some by_ } → note = .surveyStep s.survey.k g →
          exec .surveyStepEnd s = .next t ∧
          (fast → SurveyEnds [.sense, .servo] [note] .fastEnd none (done ++ [g]) s t) ∧
          (¬fast → s.survey.k + 1 = q.stepCount → SurveyEnds [.sense, .servo] [note] .complete none (done ++ [g]) s t) ∧
          (¬fast → s.survey.k + 1 ≠ q.stepCount → 20 ≤ s.packs.tape.tMax → ∀ T : Int,
            T = max 20 (min (s.packs.tape.tMax : Int) (q.tension + (s.survey.k + 1 : Nat) * q.step)) →
            OnlyChanges [.sense, .servo, .monitor, .survey, .link] s t ∧ t.survey.state = .running ∧
              t.survey.k = s.survey.k + 1 ∧ t.survey.phase = some .settle ∧ t.survey.phaseCount = 0 ∧
              t.survey.stepTension = some T ∧
              t.survey.table =
                done ++
                  [g, { tension := T, clamped := T != q.tension + (s.survey.k + 1 : Nat) * q.step, samples := 0, slack := 0,
                        excursion := 0, endedBy := none, frozen := false }] ∧
              PostsUnlessFreezing note s t))) ∧
  (∀ (s : State) (q : SurveyRequest) (d : Dir) (x0 x1 : Int) (reached : Prop), s.held = none → s.survey.state = .running →
    s.survey.request = some q → x0 = s.tach.position → -2147483648 ≤ x0 → x0 ≤ 2147483647 →
    x1 =
      (match d with
       | .forward => if x0 = 2147483647 then -2147483648 else x0 + 1
       | .reverse => if x0 = -2147483648 then 2147483647 else x0 - 1) →
    (reached ↔ (q.start < q.finish ∧ q.finish ≤ x1) ∨ (q.finish ≤ q.start ∧ x1 ≤ q.finish)) →
    zoneAt s.zones x1 = s.zones.index → (∀ h, s.planner.heading = some h → s.zones.current.dirs.allows h = true) →
    (∀ c ∈ s.cues.list, c.position ≠ x1) →
    ∃ t, exec (.rollerEdge d) s = .next t ∧ t.tach.position = x1 ∧ t.monitor.frozen = s.monitor.frozen ∧
      (¬reached → t.survey = s.survey ∧ (s.planner.mode = .survey → OnlyChanges [.tach, .packs, .cues] s t)) ∧
      (reached → ∀ table, StepClosed .range s.survey.table table →
        SurveyEnds [.tach, .packs] [] .rangeEnd none table s t))

/-! ## Invariants of every step -/

/-- R113, R114, R118: every step keeps the current zone the zone in force at the position, and the RECORD_INHIBIT line at what
that zone, the mode and the chase state give. -/
def Obligations.ZoneAndInhibitFollowEveryStep : Prop :=
  (∀ s t : State, InhibitFollows s → step s = .next t → InhibitFollows t) ∧
    ∀ s t : State, ZoneInForce s → step s = .next t → ZoneInForce t

/-- R83 to R85, R42, R69, R70, R72, R143: every step keeps the brake and pinch lines at what the planner commands, the drives
disabled at rest with their codes 0, and the varispeed values in range with no drive sent to a capstan that is OFF. -/
def Obligations.OutputsFollowTheCommandsInEveryStep : Prop :=
  (∀ s t : State, LinesFollow s → step s = .next t → LinesFollow t) ∧
    (∀ s t : State, DrivesSafe s → step s = .next t → DrivesSafe t) ∧
    ∀ s t : State, CapstanInRange s → step s = .next t → CapstanInRange t

/-- R181 to R186, R190: every step keeps the link served, with nothing waiting for an idle transmitter and a pending reset's reply on
its way, and the notice queue bounded, in order of priority and age, with one notice of a state kind at most. -/
def Obligations.EveryStepKeepsTheLinkServed : Prop :=
  (∀ s t : State, LinkServed s → step s = .next t → LinkServed t) ∧
    ∀ s t : State, NoticesOrdered s.link → step s = .next t → NoticesOrdered t.link

/-- R111, R120: every step keeps the cue list in ascending order with distinct ids, and each zone entry aligned and in range. -/
def Obligations.EveryStepKeepsTheTablesInRange : Prop :=
  (∀ s t : State, CuesOrdered s.cues.list → step s = .next t → CuesOrdered t.cues.list) ∧
    ∀ s t : State, ZonesInRange s.zones → step s = .next t → ZonesInRange t.zones

/-- R96, R98, R128, R137, R149, R170: in every step a locate, a chase or a survey runs exactly in its mode, a stop is in force
exactly in STOPPING and BRAKING, and with a fault latched no motion but a stop runs. -/
def Obligations.EveryStepKeepsUnitsInTheirModes : Prop :=
  ∀ s t : State, UnitsOwnModes s → step s = .next t → UnitsOwnModes t

/-- R149, R150, R153: every step keeps at most three secondaries, none listed twice, and none lost before three are listed. -/
def Obligations.EveryStepKeepsTheFaultRecordSound : Prop :=
  ∀ s t : State, FaultRecordSound s.fault → step s = .next t → FaultRecordSound t.fault

/-- The reset state meets every invariant, and so does the state that a power-on reset with both supply lines deasserted leaves. -/
def Obligations.TheResetStateIsSafe : Prop :=
  Safe State.reset ∧
    ∀ s t u : State, s.lines.supplyLow = false → s.lines.powerFail = false → exec .powerOn s = .next t → exec .resetEnd t = .next u →
      Safe u
end

