-- ==== Sys2Proof/Laws/State.lean ====
section
/-! SUPPORT. Laws/State.lean: what each update of one block does to each field of the state, so that no later proof unfolds a
record update. -/

namespace Sys2Proof.Machine

/-! ## onSense -/

@[simp] theorem State.onSense_sense (s : State) (f : Sense → Sense) : (s.onSense f).sense = f s.sense := rfl
@[simp] theorem State.onSense_tach (s : State) (f : Sense → Sense) : (s.onSense f).tach = s.tach := rfl
@[simp] theorem State.onSense_packs (s : State) (f : Sense → Sense) : (s.onSense f).packs = s.packs := rfl
@[simp] theorem State.onSense_servo (s : State) (f : Sense → Sense) : (s.onSense f).servo = s.servo := rfl
@[simp] theorem State.onSense_capstan (s : State) (f : Sense → Sense) : (s.onSense f).capstan = s.capstan := rfl
@[simp] theorem State.onSense_planner (s : State) (f : Sense → Sense) : (s.onSense f).planner = s.planner := rfl
@[simp] theorem State.onSense_zones (s : State) (f : Sense → Sense) : (s.onSense f).zones = s.zones := rfl
@[simp] theorem State.onSense_cues (s : State) (f : Sense → Sense) : (s.onSense f).cues = s.cues := rfl
@[simp] theorem State.onSense_params (s : State) (f : Sense → Sense) : (s.onSense f).params = s.params := rfl
@[simp] theorem State.onSense_locate (s : State) (f : Sense → Sense) : (s.onSense f).locate = s.locate := rfl
@[simp] theorem State.onSense_chase (s : State) (f : Sense → Sense) : (s.onSense f).chase = s.chase := rfl
@[simp] theorem State.onSense_fault (s : State) (f : Sense → Sense) : (s.onSense f).fault = s.fault := rfl
@[simp] theorem State.onSense_monitor (s : State) (f : Sense → Sense) : (s.onSense f).monitor = s.monitor := rfl
@[simp] theorem State.onSense_survey (s : State) (f : Sense → Sense) : (s.onSense f).survey = s.survey := rfl
@[simp] theorem State.onSense_link (s : State) (f : Sense → Sense) : (s.onSense f).link = s.link := rfl
@[simp] theorem State.onSense_lines (s : State) (f : Sense → Sense) : (s.onSense f).lines = s.lines := rfl
@[simp] theorem State.onSense_held (s : State) (f : Sense → Sense) : (s.onSense f).held = s.held := rfl
@[simp] theorem State.onSense_freeIndex (s : State) (f : Sense → Sense) : (s.onSense f).freeIndex = s.freeIndex := rfl
@[simp] theorem State.onSense_pending (s : State) (f : Sense → Sense) : (s.onSense f).pending = s.pending := rfl

/-! ## onTach -/

@[simp] theorem State.onTach_sense (s : State) (f : Tach → Tach) : (s.onTach f).sense = s.sense := rfl
@[simp] theorem State.onTach_tach (s : State) (f : Tach → Tach) : (s.onTach f).tach = f s.tach := rfl
@[simp] theorem State.onTach_packs (s : State) (f : Tach → Tach) : (s.onTach f).packs = s.packs := rfl
@[simp] theorem State.onTach_servo (s : State) (f : Tach → Tach) : (s.onTach f).servo = s.servo := rfl
@[simp] theorem State.onTach_capstan (s : State) (f : Tach → Tach) : (s.onTach f).capstan = s.capstan := rfl
@[simp] theorem State.onTach_planner (s : State) (f : Tach → Tach) : (s.onTach f).planner = s.planner := rfl
@[simp] theorem State.onTach_zones (s : State) (f : Tach → Tach) : (s.onTach f).zones = s.zones := rfl
@[simp] theorem State.onTach_cues (s : State) (f : Tach → Tach) : (s.onTach f).cues = s.cues := rfl
@[simp] theorem State.onTach_params (s : State) (f : Tach → Tach) : (s.onTach f).params = s.params := rfl
@[simp] theorem State.onTach_locate (s : State) (f : Tach → Tach) : (s.onTach f).locate = s.locate := rfl
@[simp] theorem State.onTach_chase (s : State) (f : Tach → Tach) : (s.onTach f).chase = s.chase := rfl
@[simp] theorem State.onTach_fault (s : State) (f : Tach → Tach) : (s.onTach f).fault = s.fault := rfl
@[simp] theorem State.onTach_monitor (s : State) (f : Tach → Tach) : (s.onTach f).monitor = s.monitor := rfl
@[simp] theorem State.onTach_survey (s : State) (f : Tach → Tach) : (s.onTach f).survey = s.survey := rfl
@[simp] theorem State.onTach_link (s : State) (f : Tach → Tach) : (s.onTach f).link = s.link := rfl
@[simp] theorem State.onTach_lines (s : State) (f : Tach → Tach) : (s.onTach f).lines = s.lines := rfl
@[simp] theorem State.onTach_held (s : State) (f : Tach → Tach) : (s.onTach f).held = s.held := rfl
@[simp] theorem State.onTach_freeIndex (s : State) (f : Tach → Tach) : (s.onTach f).freeIndex = s.freeIndex := rfl
@[simp] theorem State.onTach_pending (s : State) (f : Tach → Tach) : (s.onTach f).pending = s.pending := rfl

/-! ## onPacks -/

@[simp] theorem State.onPacks_sense (s : State) (f : Packs → Packs) : (s.onPacks f).sense = s.sense := rfl
@[simp] theorem State.onPacks_tach (s : State) (f : Packs → Packs) : (s.onPacks f).tach = s.tach := rfl
@[simp] theorem State.onPacks_packs (s : State) (f : Packs → Packs) : (s.onPacks f).packs = f s.packs := rfl
@[simp] theorem State.onPacks_servo (s : State) (f : Packs → Packs) : (s.onPacks f).servo = s.servo := rfl
@[simp] theorem State.onPacks_capstan (s : State) (f : Packs → Packs) : (s.onPacks f).capstan = s.capstan := rfl
@[simp] theorem State.onPacks_planner (s : State) (f : Packs → Packs) : (s.onPacks f).planner = s.planner := rfl
@[simp] theorem State.onPacks_zones (s : State) (f : Packs → Packs) : (s.onPacks f).zones = s.zones := rfl
@[simp] theorem State.onPacks_cues (s : State) (f : Packs → Packs) : (s.onPacks f).cues = s.cues := rfl
@[simp] theorem State.onPacks_params (s : State) (f : Packs → Packs) : (s.onPacks f).params = s.params := rfl
@[simp] theorem State.onPacks_locate (s : State) (f : Packs → Packs) : (s.onPacks f).locate = s.locate := rfl
@[simp] theorem State.onPacks_chase (s : State) (f : Packs → Packs) : (s.onPacks f).chase = s.chase := rfl
@[simp] theorem State.onPacks_fault (s : State) (f : Packs → Packs) : (s.onPacks f).fault = s.fault := rfl
@[simp] theorem State.onPacks_monitor (s : State) (f : Packs → Packs) : (s.onPacks f).monitor = s.monitor := rfl
@[simp] theorem State.onPacks_survey (s : State) (f : Packs → Packs) : (s.onPacks f).survey = s.survey := rfl
@[simp] theorem State.onPacks_link (s : State) (f : Packs → Packs) : (s.onPacks f).link = s.link := rfl
@[simp] theorem State.onPacks_lines (s : State) (f : Packs → Packs) : (s.onPacks f).lines = s.lines := rfl
@[simp] theorem State.onPacks_held (s : State) (f : Packs → Packs) : (s.onPacks f).held = s.held := rfl
@[simp] theorem State.onPacks_freeIndex (s : State) (f : Packs → Packs) : (s.onPacks f).freeIndex = s.freeIndex := rfl
@[simp] theorem State.onPacks_pending (s : State) (f : Packs → Packs) : (s.onPacks f).pending = s.pending := rfl

/-! ## onServo -/

@[simp] theorem State.onServo_sense (s : State) (f : Servo → Servo) : (s.onServo f).sense = s.sense := rfl
@[simp] theorem State.onServo_tach (s : State) (f : Servo → Servo) : (s.onServo f).tach = s.tach := rfl
@[simp] theorem State.onServo_packs (s : State) (f : Servo → Servo) : (s.onServo f).packs = s.packs := rfl
@[simp] theorem State.onServo_servo (s : State) (f : Servo → Servo) : (s.onServo f).servo = f s.servo := rfl
@[simp] theorem State.onServo_capstan (s : State) (f : Servo → Servo) : (s.onServo f).capstan = s.capstan := rfl
@[simp] theorem State.onServo_planner (s : State) (f : Servo → Servo) : (s.onServo f).planner = s.planner := rfl
@[simp] theorem State.onServo_zones (s : State) (f : Servo → Servo) : (s.onServo f).zones = s.zones := rfl
@[simp] theorem State.onServo_cues (s : State) (f : Servo → Servo) : (s.onServo f).cues = s.cues := rfl
@[simp] theorem State.onServo_params (s : State) (f : Servo → Servo) : (s.onServo f).params = s.params := rfl
@[simp] theorem State.onServo_locate (s : State) (f : Servo → Servo) : (s.onServo f).locate = s.locate := rfl
@[simp] theorem State.onServo_chase (s : State) (f : Servo → Servo) : (s.onServo f).chase = s.chase := rfl
@[simp] theorem State.onServo_fault (s : State) (f : Servo → Servo) : (s.onServo f).fault = s.fault := rfl
@[simp] theorem State.onServo_monitor (s : State) (f : Servo → Servo) : (s.onServo f).monitor = s.monitor := rfl
@[simp] theorem State.onServo_survey (s : State) (f : Servo → Servo) : (s.onServo f).survey = s.survey := rfl
@[simp] theorem State.onServo_link (s : State) (f : Servo → Servo) : (s.onServo f).link = s.link := rfl
@[simp] theorem State.onServo_lines (s : State) (f : Servo → Servo) : (s.onServo f).lines = s.lines := rfl
@[simp] theorem State.onServo_held (s : State) (f : Servo → Servo) : (s.onServo f).held = s.held := rfl
@[simp] theorem State.onServo_freeIndex (s : State) (f : Servo → Servo) : (s.onServo f).freeIndex = s.freeIndex := rfl
@[simp] theorem State.onServo_pending (s : State) (f : Servo → Servo) : (s.onServo f).pending = s.pending := rfl

/-! ## onCapstan -/

@[simp] theorem State.onCapstan_sense (s : State) (f : Capstan → Capstan) : (s.onCapstan f).sense = s.sense := rfl
@[simp] theorem State.onCapstan_tach (s : State) (f : Capstan → Capstan) : (s.onCapstan f).tach = s.tach := rfl
@[simp] theorem State.onCapstan_packs (s : State) (f : Capstan → Capstan) : (s.onCapstan f).packs = s.packs := rfl
@[simp] theorem State.onCapstan_servo (s : State) (f : Capstan → Capstan) : (s.onCapstan f).servo = s.servo := rfl
@[simp] theorem State.onCapstan_capstan (s : State) (f : Capstan → Capstan) : (s.onCapstan f).capstan = f s.capstan := rfl
@[simp] theorem State.onCapstan_planner (s : State) (f : Capstan → Capstan) : (s.onCapstan f).planner = s.planner := rfl
@[simp] theorem State.onCapstan_zones (s : State) (f : Capstan → Capstan) : (s.onCapstan f).zones = s.zones := rfl
@[simp] theorem State.onCapstan_cues (s : State) (f : Capstan → Capstan) : (s.onCapstan f).cues = s.cues := rfl
@[simp] theorem State.onCapstan_params (s : State) (f : Capstan → Capstan) : (s.onCapstan f).params = s.params := rfl
@[simp] theorem State.onCapstan_locate (s : State) (f : Capstan → Capstan) : (s.onCapstan f).locate = s.locate := rfl
@[simp] theorem State.onCapstan_chase (s : State) (f : Capstan → Capstan) : (s.onCapstan f).chase = s.chase := rfl
@[simp] theorem State.onCapstan_fault (s : State) (f : Capstan → Capstan) : (s.onCapstan f).fault = s.fault := rfl
@[simp] theorem State.onCapstan_monitor (s : State) (f : Capstan → Capstan) : (s.onCapstan f).monitor = s.monitor := rfl
@[simp] theorem State.onCapstan_survey (s : State) (f : Capstan → Capstan) : (s.onCapstan f).survey = s.survey := rfl
@[simp] theorem State.onCapstan_link (s : State) (f : Capstan → Capstan) : (s.onCapstan f).link = s.link := rfl
@[simp] theorem State.onCapstan_lines (s : State) (f : Capstan → Capstan) : (s.onCapstan f).lines = s.lines := rfl
@[simp] theorem State.onCapstan_held (s : State) (f : Capstan → Capstan) : (s.onCapstan f).held = s.held := rfl
@[simp] theorem State.onCapstan_freeIndex (s : State) (f : Capstan → Capstan) : (s.onCapstan f).freeIndex = s.freeIndex := rfl
@[simp] theorem State.onCapstan_pending (s : State) (f : Capstan → Capstan) : (s.onCapstan f).pending = s.pending := rfl

/-! ## onPlanner -/

@[simp] theorem State.onPlanner_sense (s : State) (f : Planner → Planner) : (s.onPlanner f).sense = s.sense := rfl
@[simp] theorem State.onPlanner_tach (s : State) (f : Planner → Planner) : (s.onPlanner f).tach = s.tach := rfl
@[simp] theorem State.onPlanner_packs (s : State) (f : Planner → Planner) : (s.onPlanner f).packs = s.packs := rfl
@[simp] theorem State.onPlanner_servo (s : State) (f : Planner → Planner) : (s.onPlanner f).servo = s.servo := rfl
@[simp] theorem State.onPlanner_capstan (s : State) (f : Planner → Planner) : (s.onPlanner f).capstan = s.capstan := rfl
@[simp] theorem State.onPlanner_planner (s : State) (f : Planner → Planner) : (s.onPlanner f).planner = f s.planner := rfl
@[simp] theorem State.onPlanner_zones (s : State) (f : Planner → Planner) : (s.onPlanner f).zones = s.zones := rfl
@[simp] theorem State.onPlanner_cues (s : State) (f : Planner → Planner) : (s.onPlanner f).cues = s.cues := rfl
@[simp] theorem State.onPlanner_params (s : State) (f : Planner → Planner) : (s.onPlanner f).params = s.params := rfl
@[simp] theorem State.onPlanner_locate (s : State) (f : Planner → Planner) : (s.onPlanner f).locate = s.locate := rfl
@[simp] theorem State.onPlanner_chase (s : State) (f : Planner → Planner) : (s.onPlanner f).chase = s.chase := rfl
@[simp] theorem State.onPlanner_fault (s : State) (f : Planner → Planner) : (s.onPlanner f).fault = s.fault := rfl
@[simp] theorem State.onPlanner_monitor (s : State) (f : Planner → Planner) : (s.onPlanner f).monitor = s.monitor := rfl
@[simp] theorem State.onPlanner_survey (s : State) (f : Planner → Planner) : (s.onPlanner f).survey = s.survey := rfl
@[simp] theorem State.onPlanner_link (s : State) (f : Planner → Planner) : (s.onPlanner f).link = s.link := rfl
@[simp] theorem State.onPlanner_lines (s : State) (f : Planner → Planner) : (s.onPlanner f).lines = s.lines := rfl
@[simp] theorem State.onPlanner_held (s : State) (f : Planner → Planner) : (s.onPlanner f).held = s.held := rfl
@[simp] theorem State.onPlanner_freeIndex (s : State) (f : Planner → Planner) : (s.onPlanner f).freeIndex = s.freeIndex := rfl
@[simp] theorem State.onPlanner_pending (s : State) (f : Planner → Planner) : (s.onPlanner f).pending = s.pending := rfl

/-! ## onZones -/

@[simp] theorem State.onZones_sense (s : State) (f : Zones → Zones) : (s.onZones f).sense = s.sense := rfl
@[simp] theorem State.onZones_tach (s : State) (f : Zones → Zones) : (s.onZones f).tach = s.tach := rfl
@[simp] theorem State.onZones_packs (s : State) (f : Zones → Zones) : (s.onZones f).packs = s.packs := rfl
@[simp] theorem State.onZones_servo (s : State) (f : Zones → Zones) : (s.onZones f).servo = s.servo := rfl
@[simp] theorem State.onZones_capstan (s : State) (f : Zones → Zones) : (s.onZones f).capstan = s.capstan := rfl
@[simp] theorem State.onZones_planner (s : State) (f : Zones → Zones) : (s.onZones f).planner = s.planner := rfl
@[simp] theorem State.onZones_zones (s : State) (f : Zones → Zones) : (s.onZones f).zones = f s.zones := rfl
@[simp] theorem State.onZones_cues (s : State) (f : Zones → Zones) : (s.onZones f).cues = s.cues := rfl
@[simp] theorem State.onZones_params (s : State) (f : Zones → Zones) : (s.onZones f).params = s.params := rfl
@[simp] theorem State.onZones_locate (s : State) (f : Zones → Zones) : (s.onZones f).locate = s.locate := rfl
@[simp] theorem State.onZones_chase (s : State) (f : Zones → Zones) : (s.onZones f).chase = s.chase := rfl
@[simp] theorem State.onZones_fault (s : State) (f : Zones → Zones) : (s.onZones f).fault = s.fault := rfl
@[simp] theorem State.onZones_monitor (s : State) (f : Zones → Zones) : (s.onZones f).monitor = s.monitor := rfl
@[simp] theorem State.onZones_survey (s : State) (f : Zones → Zones) : (s.onZones f).survey = s.survey := rfl
@[simp] theorem State.onZones_link (s : State) (f : Zones → Zones) : (s.onZones f).link = s.link := rfl
@[simp] theorem State.onZones_lines (s : State) (f : Zones → Zones) : (s.onZones f).lines = s.lines := rfl
@[simp] theorem State.onZones_held (s : State) (f : Zones → Zones) : (s.onZones f).held = s.held := rfl
@[simp] theorem State.onZones_freeIndex (s : State) (f : Zones → Zones) : (s.onZones f).freeIndex = s.freeIndex := rfl
@[simp] theorem State.onZones_pending (s : State) (f : Zones → Zones) : (s.onZones f).pending = s.pending := rfl

/-! ## onCues -/

@[simp] theorem State.onCues_sense (s : State) (f : Cues → Cues) : (s.onCues f).sense = s.sense := rfl
@[simp] theorem State.onCues_tach (s : State) (f : Cues → Cues) : (s.onCues f).tach = s.tach := rfl
@[simp] theorem State.onCues_packs (s : State) (f : Cues → Cues) : (s.onCues f).packs = s.packs := rfl
@[simp] theorem State.onCues_servo (s : State) (f : Cues → Cues) : (s.onCues f).servo = s.servo := rfl
@[simp] theorem State.onCues_capstan (s : State) (f : Cues → Cues) : (s.onCues f).capstan = s.capstan := rfl
@[simp] theorem State.onCues_planner (s : State) (f : Cues → Cues) : (s.onCues f).planner = s.planner := rfl
@[simp] theorem State.onCues_zones (s : State) (f : Cues → Cues) : (s.onCues f).zones = s.zones := rfl
@[simp] theorem State.onCues_cues (s : State) (f : Cues → Cues) : (s.onCues f).cues = f s.cues := rfl
@[simp] theorem State.onCues_params (s : State) (f : Cues → Cues) : (s.onCues f).params = s.params := rfl
@[simp] theorem State.onCues_locate (s : State) (f : Cues → Cues) : (s.onCues f).locate = s.locate := rfl
@[simp] theorem State.onCues_chase (s : State) (f : Cues → Cues) : (s.onCues f).chase = s.chase := rfl
@[simp] theorem State.onCues_fault (s : State) (f : Cues → Cues) : (s.onCues f).fault = s.fault := rfl
@[simp] theorem State.onCues_monitor (s : State) (f : Cues → Cues) : (s.onCues f).monitor = s.monitor := rfl
@[simp] theorem State.onCues_survey (s : State) (f : Cues → Cues) : (s.onCues f).survey = s.survey := rfl
@[simp] theorem State.onCues_link (s : State) (f : Cues → Cues) : (s.onCues f).link = s.link := rfl
@[simp] theorem State.onCues_lines (s : State) (f : Cues → Cues) : (s.onCues f).lines = s.lines := rfl
@[simp] theorem State.onCues_held (s : State) (f : Cues → Cues) : (s.onCues f).held = s.held := rfl
@[simp] theorem State.onCues_freeIndex (s : State) (f : Cues → Cues) : (s.onCues f).freeIndex = s.freeIndex := rfl
@[simp] theorem State.onCues_pending (s : State) (f : Cues → Cues) : (s.onCues f).pending = s.pending := rfl

/-! ## onParams -/

@[simp] theorem State.onParams_sense (s : State) (f : LocateParams → LocateParams) : (s.onParams f).sense = s.sense := rfl
@[simp] theorem State.onParams_tach (s : State) (f : LocateParams → LocateParams) : (s.onParams f).tach = s.tach := rfl
@[simp] theorem State.onParams_packs (s : State) (f : LocateParams → LocateParams) : (s.onParams f).packs = s.packs := rfl
@[simp] theorem State.onParams_servo (s : State) (f : LocateParams → LocateParams) : (s.onParams f).servo = s.servo := rfl
@[simp] theorem State.onParams_capstan (s : State) (f : LocateParams → LocateParams) : (s.onParams f).capstan = s.capstan := rfl
@[simp] theorem State.onParams_planner (s : State) (f : LocateParams → LocateParams) : (s.onParams f).planner = s.planner := rfl
@[simp] theorem State.onParams_zones (s : State) (f : LocateParams → LocateParams) : (s.onParams f).zones = s.zones := rfl
@[simp] theorem State.onParams_cues (s : State) (f : LocateParams → LocateParams) : (s.onParams f).cues = s.cues := rfl
@[simp] theorem State.onParams_params (s : State) (f : LocateParams → LocateParams) : (s.onParams f).params = f s.params := rfl
@[simp] theorem State.onParams_locate (s : State) (f : LocateParams → LocateParams) : (s.onParams f).locate = s.locate := rfl
@[simp] theorem State.onParams_chase (s : State) (f : LocateParams → LocateParams) : (s.onParams f).chase = s.chase := rfl
@[simp] theorem State.onParams_fault (s : State) (f : LocateParams → LocateParams) : (s.onParams f).fault = s.fault := rfl
@[simp] theorem State.onParams_monitor (s : State) (f : LocateParams → LocateParams) : (s.onParams f).monitor = s.monitor := rfl
@[simp] theorem State.onParams_survey (s : State) (f : LocateParams → LocateParams) : (s.onParams f).survey = s.survey := rfl
@[simp] theorem State.onParams_link (s : State) (f : LocateParams → LocateParams) : (s.onParams f).link = s.link := rfl
@[simp] theorem State.onParams_lines (s : State) (f : LocateParams → LocateParams) : (s.onParams f).lines = s.lines := rfl
@[simp] theorem State.onParams_held (s : State) (f : LocateParams → LocateParams) : (s.onParams f).held = s.held := rfl
@[simp] theorem State.onParams_freeIndex (s : State) (f : LocateParams → LocateParams) : (s.onParams f).freeIndex = s.freeIndex := rfl
@[simp] theorem State.onParams_pending (s : State) (f : LocateParams → LocateParams) : (s.onParams f).pending = s.pending := rfl

/-! ## onLocate -/

@[simp] theorem State.onLocate_sense (s : State) (f : Option LocateRec → Option LocateRec) : (s.onLocate f).sense = s.sense := rfl
@[simp] theorem State.onLocate_tach (s : State) (f : Option LocateRec → Option LocateRec) : (s.onLocate f).tach = s.tach := rfl
@[simp] theorem State.onLocate_packs (s : State) (f : Option LocateRec → Option LocateRec) : (s.onLocate f).packs = s.packs := rfl
@[simp] theorem State.onLocate_servo (s : State) (f : Option LocateRec → Option LocateRec) : (s.onLocate f).servo = s.servo := rfl
@[simp] theorem State.onLocate_capstan (s : State) (f : Option LocateRec → Option LocateRec) : (s.onLocate f).capstan = s.capstan := rfl
@[simp] theorem State.onLocate_planner (s : State) (f : Option LocateRec → Option LocateRec) : (s.onLocate f).planner = s.planner := rfl
@[simp] theorem State.onLocate_zones (s : State) (f : Option LocateRec → Option LocateRec) : (s.onLocate f).zones = s.zones := rfl
@[simp] theorem State.onLocate_cues (s : State) (f : Option LocateRec → Option LocateRec) : (s.onLocate f).cues = s.cues := rfl
@[simp] theorem State.onLocate_params (s : State) (f : Option LocateRec → Option LocateRec) : (s.onLocate f).params = s.params := rfl
@[simp] theorem State.onLocate_locate (s : State) (f : Option LocateRec → Option LocateRec) : (s.onLocate f).locate = f s.locate := rfl
@[simp] theorem State.onLocate_chase (s : State) (f : Option LocateRec → Option LocateRec) : (s.onLocate f).chase = s.chase := rfl
@[simp] theorem State.onLocate_fault (s : State) (f : Option LocateRec → Option LocateRec) : (s.onLocate f).fault = s.fault := rfl
@[simp] theorem State.onLocate_monitor (s : State) (f : Option LocateRec → Option LocateRec) : (s.onLocate f).monitor = s.monitor := rfl
@[simp] theorem State.onLocate_survey (s : State) (f : Option LocateRec → Option LocateRec) : (s.onLocate f).survey = s.survey := rfl
@[simp] theorem State.onLocate_link (s : State) (f : Option LocateRec → Option LocateRec) : (s.onLocate f).link = s.link := rfl
@[simp] theorem State.onLocate_lines (s : State) (f : Option LocateRec → Option LocateRec) : (s.onLocate f).lines = s.lines := rfl
@[simp] theorem State.onLocate_held (s : State) (f : Option LocateRec → Option LocateRec) : (s.onLocate f).held = s.held := rfl
@[simp] theorem State.onLocate_freeIndex (s : State) (f : Option LocateRec → Option LocateRec) : (s.onLocate f).freeIndex = s.freeIndex := rfl
@[simp] theorem State.onLocate_pending (s : State) (f : Option LocateRec → Option LocateRec) : (s.onLocate f).pending = s.pending := rfl

/-! ## onChase -/

@[simp] theorem State.onChase_sense (s : State) (f : Chase → Chase) : (s.onChase f).sense = s.sense := rfl
@[simp] theorem State.onChase_tach (s : State) (f : Chase → Chase) : (s.onChase f).tach = s.tach := rfl
@[simp] theorem State.onChase_packs (s : State) (f : Chase → Chase) : (s.onChase f).packs = s.packs := rfl
@[simp] theorem State.onChase_servo (s : State) (f : Chase → Chase) : (s.onChase f).servo = s.servo := rfl
@[simp] theorem State.onChase_capstan (s : State) (f : Chase → Chase) : (s.onChase f).capstan = s.capstan := rfl
@[simp] theorem State.onChase_planner (s : State) (f : Chase → Chase) : (s.onChase f).planner = s.planner := rfl
@[simp] theorem State.onChase_zones (s : State) (f : Chase → Chase) : (s.onChase f).zones = s.zones := rfl
@[simp] theorem State.onChase_cues (s : State) (f : Chase → Chase) : (s.onChase f).cues = s.cues := rfl
@[simp] theorem State.onChase_params (s : State) (f : Chase → Chase) : (s.onChase f).params = s.params := rfl
@[simp] theorem State.onChase_locate (s : State) (f : Chase → Chase) : (s.onChase f).locate = s.locate := rfl
@[simp] theorem State.onChase_chase (s : State) (f : Chase → Chase) : (s.onChase f).chase = f s.chase := rfl
@[simp] theorem State.onChase_fault (s : State) (f : Chase → Chase) : (s.onChase f).fault = s.fault := rfl
@[simp] theorem State.onChase_monitor (s : State) (f : Chase → Chase) : (s.onChase f).monitor = s.monitor := rfl
@[simp] theorem State.onChase_survey (s : State) (f : Chase → Chase) : (s.onChase f).survey = s.survey := rfl
@[simp] theorem State.onChase_link (s : State) (f : Chase → Chase) : (s.onChase f).link = s.link := rfl
@[simp] theorem State.onChase_lines (s : State) (f : Chase → Chase) : (s.onChase f).lines = s.lines := rfl
@[simp] theorem State.onChase_held (s : State) (f : Chase → Chase) : (s.onChase f).held = s.held := rfl
@[simp] theorem State.onChase_freeIndex (s : State) (f : Chase → Chase) : (s.onChase f).freeIndex = s.freeIndex := rfl
@[simp] theorem State.onChase_pending (s : State) (f : Chase → Chase) : (s.onChase f).pending = s.pending := rfl

/-! ## onFault -/

@[simp] theorem State.onFault_sense (s : State) (f : FaultUnit → FaultUnit) : (s.onFault f).sense = s.sense := rfl
@[simp] theorem State.onFault_tach (s : State) (f : FaultUnit → FaultUnit) : (s.onFault f).tach = s.tach := rfl
@[simp] theorem State.onFault_packs (s : State) (f : FaultUnit → FaultUnit) : (s.onFault f).packs = s.packs := rfl
@[simp] theorem State.onFault_servo (s : State) (f : FaultUnit → FaultUnit) : (s.onFault f).servo = s.servo := rfl
@[simp] theorem State.onFault_capstan (s : State) (f : FaultUnit → FaultUnit) : (s.onFault f).capstan = s.capstan := rfl
@[simp] theorem State.onFault_planner (s : State) (f : FaultUnit → FaultUnit) : (s.onFault f).planner = s.planner := rfl
@[simp] theorem State.onFault_zones (s : State) (f : FaultUnit → FaultUnit) : (s.onFault f).zones = s.zones := rfl
@[simp] theorem State.onFault_cues (s : State) (f : FaultUnit → FaultUnit) : (s.onFault f).cues = s.cues := rfl
@[simp] theorem State.onFault_params (s : State) (f : FaultUnit → FaultUnit) : (s.onFault f).params = s.params := rfl
@[simp] theorem State.onFault_locate (s : State) (f : FaultUnit → FaultUnit) : (s.onFault f).locate = s.locate := rfl
@[simp] theorem State.onFault_chase (s : State) (f : FaultUnit → FaultUnit) : (s.onFault f).chase = s.chase := rfl
@[simp] theorem State.onFault_fault (s : State) (f : FaultUnit → FaultUnit) : (s.onFault f).fault = f s.fault := rfl
@[simp] theorem State.onFault_monitor (s : State) (f : FaultUnit → FaultUnit) : (s.onFault f).monitor = s.monitor := rfl
@[simp] theorem State.onFault_survey (s : State) (f : FaultUnit → FaultUnit) : (s.onFault f).survey = s.survey := rfl
@[simp] theorem State.onFault_link (s : State) (f : FaultUnit → FaultUnit) : (s.onFault f).link = s.link := rfl
@[simp] theorem State.onFault_lines (s : State) (f : FaultUnit → FaultUnit) : (s.onFault f).lines = s.lines := rfl
@[simp] theorem State.onFault_held (s : State) (f : FaultUnit → FaultUnit) : (s.onFault f).held = s.held := rfl
@[simp] theorem State.onFault_freeIndex (s : State) (f : FaultUnit → FaultUnit) : (s.onFault f).freeIndex = s.freeIndex := rfl
@[simp] theorem State.onFault_pending (s : State) (f : FaultUnit → FaultUnit) : (s.onFault f).pending = s.pending := rfl

/-! ## onMonitor -/

@[simp] theorem State.onMonitor_sense (s : State) (f : Monitor → Monitor) : (s.onMonitor f).sense = s.sense := rfl
@[simp] theorem State.onMonitor_tach (s : State) (f : Monitor → Monitor) : (s.onMonitor f).tach = s.tach := rfl
@[simp] theorem State.onMonitor_packs (s : State) (f : Monitor → Monitor) : (s.onMonitor f).packs = s.packs := rfl
@[simp] theorem State.onMonitor_servo (s : State) (f : Monitor → Monitor) : (s.onMonitor f).servo = s.servo := rfl
@[simp] theorem State.onMonitor_capstan (s : State) (f : Monitor → Monitor) : (s.onMonitor f).capstan = s.capstan := rfl
@[simp] theorem State.onMonitor_planner (s : State) (f : Monitor → Monitor) : (s.onMonitor f).planner = s.planner := rfl
@[simp] theorem State.onMonitor_zones (s : State) (f : Monitor → Monitor) : (s.onMonitor f).zones = s.zones := rfl
@[simp] theorem State.onMonitor_cues (s : State) (f : Monitor → Monitor) : (s.onMonitor f).cues = s.cues := rfl
@[simp] theorem State.onMonitor_params (s : State) (f : Monitor → Monitor) : (s.onMonitor f).params = s.params := rfl
@[simp] theorem State.onMonitor_locate (s : State) (f : Monitor → Monitor) : (s.onMonitor f).locate = s.locate := rfl
@[simp] theorem State.onMonitor_chase (s : State) (f : Monitor → Monitor) : (s.onMonitor f).chase = s.chase := rfl
@[simp] theorem State.onMonitor_fault (s : State) (f : Monitor → Monitor) : (s.onMonitor f).fault = s.fault := rfl
@[simp] theorem State.onMonitor_monitor (s : State) (f : Monitor → Monitor) : (s.onMonitor f).monitor = f s.monitor := rfl
@[simp] theorem State.onMonitor_survey (s : State) (f : Monitor → Monitor) : (s.onMonitor f).survey = s.survey := rfl
@[simp] theorem State.onMonitor_link (s : State) (f : Monitor → Monitor) : (s.onMonitor f).link = s.link := rfl
@[simp] theorem State.onMonitor_lines (s : State) (f : Monitor → Monitor) : (s.onMonitor f).lines = s.lines := rfl
@[simp] theorem State.onMonitor_held (s : State) (f : Monitor → Monitor) : (s.onMonitor f).held = s.held := rfl
@[simp] theorem State.onMonitor_freeIndex (s : State) (f : Monitor → Monitor) : (s.onMonitor f).freeIndex = s.freeIndex := rfl
@[simp] theorem State.onMonitor_pending (s : State) (f : Monitor → Monitor) : (s.onMonitor f).pending = s.pending := rfl

/-! ## onSurvey -/

@[simp] theorem State.onSurvey_sense (s : State) (f : Survey → Survey) : (s.onSurvey f).sense = s.sense := rfl
@[simp] theorem State.onSurvey_tach (s : State) (f : Survey → Survey) : (s.onSurvey f).tach = s.tach := rfl
@[simp] theorem State.onSurvey_packs (s : State) (f : Survey → Survey) : (s.onSurvey f).packs = s.packs := rfl
@[simp] theorem State.onSurvey_servo (s : State) (f : Survey → Survey) : (s.onSurvey f).servo = s.servo := rfl
@[simp] theorem State.onSurvey_capstan (s : State) (f : Survey → Survey) : (s.onSurvey f).capstan = s.capstan := rfl
@[simp] theorem State.onSurvey_planner (s : State) (f : Survey → Survey) : (s.onSurvey f).planner = s.planner := rfl
@[simp] theorem State.onSurvey_zones (s : State) (f : Survey → Survey) : (s.onSurvey f).zones = s.zones := rfl
@[simp] theorem State.onSurvey_cues (s : State) (f : Survey → Survey) : (s.onSurvey f).cues = s.cues := rfl
@[simp] theorem State.onSurvey_params (s : State) (f : Survey → Survey) : (s.onSurvey f).params = s.params := rfl
@[simp] theorem State.onSurvey_locate (s : State) (f : Survey → Survey) : (s.onSurvey f).locate = s.locate := rfl
@[simp] theorem State.onSurvey_chase (s : State) (f : Survey → Survey) : (s.onSurvey f).chase = s.chase := rfl
@[simp] theorem State.onSurvey_fault (s : State) (f : Survey → Survey) : (s.onSurvey f).fault = s.fault := rfl
@[simp] theorem State.onSurvey_monitor (s : State) (f : Survey → Survey) : (s.onSurvey f).monitor = s.monitor := rfl
@[simp] theorem State.onSurvey_survey (s : State) (f : Survey → Survey) : (s.onSurvey f).survey = f s.survey := rfl
@[simp] theorem State.onSurvey_link (s : State) (f : Survey → Survey) : (s.onSurvey f).link = s.link := rfl
@[simp] theorem State.onSurvey_lines (s : State) (f : Survey → Survey) : (s.onSurvey f).lines = s.lines := rfl
@[simp] theorem State.onSurvey_held (s : State) (f : Survey → Survey) : (s.onSurvey f).held = s.held := rfl
@[simp] theorem State.onSurvey_freeIndex (s : State) (f : Survey → Survey) : (s.onSurvey f).freeIndex = s.freeIndex := rfl
@[simp] theorem State.onSurvey_pending (s : State) (f : Survey → Survey) : (s.onSurvey f).pending = s.pending := rfl

/-! ## onLink -/

@[simp] theorem State.onLink_sense (s : State) (f : Link → Link) : (s.onLink f).sense = s.sense := rfl
@[simp] theorem State.onLink_tach (s : State) (f : Link → Link) : (s.onLink f).tach = s.tach := rfl
@[simp] theorem State.onLink_packs (s : State) (f : Link → Link) : (s.onLink f).packs = s.packs := rfl
@[simp] theorem State.onLink_servo (s : State) (f : Link → Link) : (s.onLink f).servo = s.servo := rfl
@[simp] theorem State.onLink_capstan (s : State) (f : Link → Link) : (s.onLink f).capstan = s.capstan := rfl
@[simp] theorem State.onLink_planner (s : State) (f : Link → Link) : (s.onLink f).planner = s.planner := rfl
@[simp] theorem State.onLink_zones (s : State) (f : Link → Link) : (s.onLink f).zones = s.zones := rfl
@[simp] theorem State.onLink_cues (s : State) (f : Link → Link) : (s.onLink f).cues = s.cues := rfl
@[simp] theorem State.onLink_params (s : State) (f : Link → Link) : (s.onLink f).params = s.params := rfl
@[simp] theorem State.onLink_locate (s : State) (f : Link → Link) : (s.onLink f).locate = s.locate := rfl
@[simp] theorem State.onLink_chase (s : State) (f : Link → Link) : (s.onLink f).chase = s.chase := rfl
@[simp] theorem State.onLink_fault (s : State) (f : Link → Link) : (s.onLink f).fault = s.fault := rfl
@[simp] theorem State.onLink_monitor (s : State) (f : Link → Link) : (s.onLink f).monitor = s.monitor := rfl
@[simp] theorem State.onLink_survey (s : State) (f : Link → Link) : (s.onLink f).survey = s.survey := rfl
@[simp] theorem State.onLink_link (s : State) (f : Link → Link) : (s.onLink f).link = f s.link := rfl
@[simp] theorem State.onLink_lines (s : State) (f : Link → Link) : (s.onLink f).lines = s.lines := rfl
@[simp] theorem State.onLink_held (s : State) (f : Link → Link) : (s.onLink f).held = s.held := rfl
@[simp] theorem State.onLink_freeIndex (s : State) (f : Link → Link) : (s.onLink f).freeIndex = s.freeIndex := rfl
@[simp] theorem State.onLink_pending (s : State) (f : Link → Link) : (s.onLink f).pending = s.pending := rfl

/-! ## onLines -/

@[simp] theorem State.onLines_sense (s : State) (f : Lines → Lines) : (s.onLines f).sense = s.sense := rfl
@[simp] theorem State.onLines_tach (s : State) (f : Lines → Lines) : (s.onLines f).tach = s.tach := rfl
@[simp] theorem State.onLines_packs (s : State) (f : Lines → Lines) : (s.onLines f).packs = s.packs := rfl
@[simp] theorem State.onLines_servo (s : State) (f : Lines → Lines) : (s.onLines f).servo = s.servo := rfl
@[simp] theorem State.onLines_capstan (s : State) (f : Lines → Lines) : (s.onLines f).capstan = s.capstan := rfl
@[simp] theorem State.onLines_planner (s : State) (f : Lines → Lines) : (s.onLines f).planner = s.planner := rfl
@[simp] theorem State.onLines_zones (s : State) (f : Lines → Lines) : (s.onLines f).zones = s.zones := rfl
@[simp] theorem State.onLines_cues (s : State) (f : Lines → Lines) : (s.onLines f).cues = s.cues := rfl
@[simp] theorem State.onLines_params (s : State) (f : Lines → Lines) : (s.onLines f).params = s.params := rfl
@[simp] theorem State.onLines_locate (s : State) (f : Lines → Lines) : (s.onLines f).locate = s.locate := rfl
@[simp] theorem State.onLines_chase (s : State) (f : Lines → Lines) : (s.onLines f).chase = s.chase := rfl
@[simp] theorem State.onLines_fault (s : State) (f : Lines → Lines) : (s.onLines f).fault = s.fault := rfl
@[simp] theorem State.onLines_monitor (s : State) (f : Lines → Lines) : (s.onLines f).monitor = s.monitor := rfl
@[simp] theorem State.onLines_survey (s : State) (f : Lines → Lines) : (s.onLines f).survey = s.survey := rfl
@[simp] theorem State.onLines_link (s : State) (f : Lines → Lines) : (s.onLines f).link = s.link := rfl
@[simp] theorem State.onLines_lines (s : State) (f : Lines → Lines) : (s.onLines f).lines = f s.lines := rfl
@[simp] theorem State.onLines_held (s : State) (f : Lines → Lines) : (s.onLines f).held = s.held := rfl
@[simp] theorem State.onLines_freeIndex (s : State) (f : Lines → Lines) : (s.onLines f).freeIndex = s.freeIndex := rfl
@[simp] theorem State.onLines_pending (s : State) (f : Lines → Lines) : (s.onLines f).pending = s.pending := rfl

/-! ## takeFree -/

@[simp] theorem State.takeFree_sense (s : State) : s.takeFree.sense = s.sense := rfl
@[simp] theorem State.takeFree_tach (s : State) : s.takeFree.tach = s.tach := rfl
@[simp] theorem State.takeFree_packs (s : State) : s.takeFree.packs = s.packs := rfl
@[simp] theorem State.takeFree_servo (s : State) : s.takeFree.servo = s.servo := rfl
@[simp] theorem State.takeFree_capstan (s : State) : s.takeFree.capstan = s.capstan := rfl
@[simp] theorem State.takeFree_planner (s : State) : s.takeFree.planner = s.planner := rfl
@[simp] theorem State.takeFree_zones (s : State) : s.takeFree.zones = s.zones := rfl
@[simp] theorem State.takeFree_cues (s : State) : s.takeFree.cues = s.cues := rfl
@[simp] theorem State.takeFree_params (s : State) : s.takeFree.params = s.params := rfl
@[simp] theorem State.takeFree_locate (s : State) : s.takeFree.locate = s.locate := rfl
@[simp] theorem State.takeFree_chase (s : State) : s.takeFree.chase = s.chase := rfl
@[simp] theorem State.takeFree_fault (s : State) : s.takeFree.fault = s.fault := rfl
@[simp] theorem State.takeFree_monitor (s : State) : s.takeFree.monitor = s.monitor := rfl
@[simp] theorem State.takeFree_survey (s : State) : s.takeFree.survey = s.survey := rfl
@[simp] theorem State.takeFree_link (s : State) : s.takeFree.link = s.link := rfl
@[simp] theorem State.takeFree_lines (s : State) : s.takeFree.lines = s.lines := rfl
@[simp] theorem State.takeFree_held (s : State) : s.takeFree.held = s.held := rfl
@[simp] theorem State.takeFree_freeIndex (s : State) : s.takeFree.freeIndex = s.freeIndex + 1 := rfl
@[simp] theorem State.takeFree_pending (s : State) : s.takeFree.pending = s.pending := rfl

/-! ## onArm -/

@[simp] theorem State.onArm_tach (s : State) (r : Reel) (f : ArmChannel → ArmChannel) : (s.onArm r f).tach = s.tach := rfl
@[simp] theorem State.onArm_packs (s : State) (r : Reel) (f : ArmChannel → ArmChannel) : (s.onArm r f).packs = s.packs := rfl
@[simp] theorem State.onArm_servo (s : State) (r : Reel) (f : ArmChannel → ArmChannel) : (s.onArm r f).servo = s.servo := rfl
@[simp] theorem State.onArm_capstan (s : State) (r : Reel) (f : ArmChannel → ArmChannel) : (s.onArm r f).capstan = s.capstan := rfl
@[simp] theorem State.onArm_planner (s : State) (r : Reel) (f : ArmChannel → ArmChannel) : (s.onArm r f).planner = s.planner := rfl
@[simp] theorem State.onArm_zones (s : State) (r : Reel) (f : ArmChannel → ArmChannel) : (s.onArm r f).zones = s.zones := rfl
@[simp] theorem State.onArm_cues (s : State) (r : Reel) (f : ArmChannel → ArmChannel) : (s.onArm r f).cues = s.cues := rfl
@[simp] theorem State.onArm_params (s : State) (r : Reel) (f : ArmChannel → ArmChannel) : (s.onArm r f).params = s.params := rfl
@[simp] theorem State.onArm_locate (s : State) (r : Reel) (f : ArmChannel → ArmChannel) : (s.onArm r f).locate = s.locate := rfl
@[simp] theorem State.onArm_chase (s : State) (r : Reel) (f : ArmChannel → ArmChannel) : (s.onArm r f).chase = s.chase := rfl
@[simp] theorem State.onArm_fault (s : State) (r : Reel) (f : ArmChannel → ArmChannel) : (s.onArm r f).fault = s.fault := rfl
@[simp] theorem State.onArm_monitor (s : State) (r : Reel) (f : ArmChannel → ArmChannel) : (s.onArm r f).monitor = s.monitor := rfl
@[simp] theorem State.onArm_survey (s : State) (r : Reel) (f : ArmChannel → ArmChannel) : (s.onArm r f).survey = s.survey := rfl
@[simp] theorem State.onArm_link (s : State) (r : Reel) (f : ArmChannel → ArmChannel) : (s.onArm r f).link = s.link := rfl
@[simp] theorem State.onArm_lines (s : State) (r : Reel) (f : ArmChannel → ArmChannel) : (s.onArm r f).lines = s.lines := rfl
@[simp] theorem State.onArm_held (s : State) (r : Reel) (f : ArmChannel → ArmChannel) : (s.onArm r f).held = s.held := rfl
@[simp] theorem State.onArm_freeIndex (s : State) (r : Reel) (f : ArmChannel → ArmChannel) : (s.onArm r f).freeIndex = s.freeIndex := rfl
@[simp] theorem State.onArm_pending (s : State) (r : Reel) (f : ArmChannel → ArmChannel) : (s.onArm r f).pending = s.pending := rfl

/-! ## onPresence -/

@[simp] theorem State.onPresence_tach (s : State) (i : PresenceId) (f : PresenceChannel → PresenceChannel) : (s.onPresence i f).tach = s.tach := rfl
@[simp] theorem State.onPresence_packs (s : State) (i : PresenceId) (f : PresenceChannel → PresenceChannel) : (s.onPresence i f).packs = s.packs := rfl
@[simp] theorem State.onPresence_servo (s : State) (i : PresenceId) (f : PresenceChannel → PresenceChannel) : (s.onPresence i f).servo = s.servo := rfl
@[simp] theorem State.onPresence_capstan (s : State) (i : PresenceId) (f : PresenceChannel → PresenceChannel) : (s.onPresence i f).capstan = s.capstan := rfl
@[simp] theorem State.onPresence_planner (s : State) (i : PresenceId) (f : PresenceChannel → PresenceChannel) : (s.onPresence i f).planner = s.planner := rfl
@[simp] theorem State.onPresence_zones (s : State) (i : PresenceId) (f : PresenceChannel → PresenceChannel) : (s.onPresence i f).zones = s.zones := rfl
@[simp] theorem State.onPresence_cues (s : State) (i : PresenceId) (f : PresenceChannel → PresenceChannel) : (s.onPresence i f).cues = s.cues := rfl
@[simp] theorem State.onPresence_params (s : State) (i : PresenceId) (f : PresenceChannel → PresenceChannel) : (s.onPresence i f).params = s.params := rfl
@[simp] theorem State.onPresence_locate (s : State) (i : PresenceId) (f : PresenceChannel → PresenceChannel) : (s.onPresence i f).locate = s.locate := rfl
@[simp] theorem State.onPresence_chase (s : State) (i : PresenceId) (f : PresenceChannel → PresenceChannel) : (s.onPresence i f).chase = s.chase := rfl
@[simp] theorem State.onPresence_fault (s : State) (i : PresenceId) (f : PresenceChannel → PresenceChannel) : (s.onPresence i f).fault = s.fault := rfl
@[simp] theorem State.onPresence_monitor (s : State) (i : PresenceId) (f : PresenceChannel → PresenceChannel) : (s.onPresence i f).monitor = s.monitor := rfl
@[simp] theorem State.onPresence_survey (s : State) (i : PresenceId) (f : PresenceChannel → PresenceChannel) : (s.onPresence i f).survey = s.survey := rfl
@[simp] theorem State.onPresence_link (s : State) (i : PresenceId) (f : PresenceChannel → PresenceChannel) : (s.onPresence i f).link = s.link := rfl
@[simp] theorem State.onPresence_lines (s : State) (i : PresenceId) (f : PresenceChannel → PresenceChannel) : (s.onPresence i f).lines = s.lines := rfl
@[simp] theorem State.onPresence_held (s : State) (i : PresenceId) (f : PresenceChannel → PresenceChannel) : (s.onPresence i f).held = s.held := rfl
@[simp] theorem State.onPresence_freeIndex (s : State) (i : PresenceId) (f : PresenceChannel → PresenceChannel) : (s.onPresence i f).freeIndex = s.freeIndex := rfl
@[simp] theorem State.onPresence_pending (s : State) (i : PresenceId) (f : PresenceChannel → PresenceChannel) : (s.onPresence i f).pending = s.pending := rfl

/-! ## onReelTach -/

@[simp] theorem State.onReelTach_sense (s : State) (r : Reel) (f : ReelTach → ReelTach) : (s.onReelTach r f).sense = s.sense := rfl
@[simp] theorem State.onReelTach_packs (s : State) (r : Reel) (f : ReelTach → ReelTach) : (s.onReelTach r f).packs = s.packs := rfl
@[simp] theorem State.onReelTach_servo (s : State) (r : Reel) (f : ReelTach → ReelTach) : (s.onReelTach r f).servo = s.servo := rfl
@[simp] theorem State.onReelTach_capstan (s : State) (r : Reel) (f : ReelTach → ReelTach) : (s.onReelTach r f).capstan = s.capstan := rfl
@[simp] theorem State.onReelTach_planner (s : State) (r : Reel) (f : ReelTach → ReelTach) : (s.onReelTach r f).planner = s.planner := rfl
@[simp] theorem State.onReelTach_zones (s : State) (r : Reel) (f : ReelTach → ReelTach) : (s.onReelTach r f).zones = s.zones := rfl
@[simp] theorem State.onReelTach_cues (s : State) (r : Reel) (f : ReelTach → ReelTach) : (s.onReelTach r f).cues = s.cues := rfl
@[simp] theorem State.onReelTach_params (s : State) (r : Reel) (f : ReelTach → ReelTach) : (s.onReelTach r f).params = s.params := rfl
@[simp] theorem State.onReelTach_locate (s : State) (r : Reel) (f : ReelTach → ReelTach) : (s.onReelTach r f).locate = s.locate := rfl
@[simp] theorem State.onReelTach_chase (s : State) (r : Reel) (f : ReelTach → ReelTach) : (s.onReelTach r f).chase = s.chase := rfl
@[simp] theorem State.onReelTach_fault (s : State) (r : Reel) (f : ReelTach → ReelTach) : (s.onReelTach r f).fault = s.fault := rfl
@[simp] theorem State.onReelTach_monitor (s : State) (r : Reel) (f : ReelTach → ReelTach) : (s.onReelTach r f).monitor = s.monitor := rfl
@[simp] theorem State.onReelTach_survey (s : State) (r : Reel) (f : ReelTach → ReelTach) : (s.onReelTach r f).survey = s.survey := rfl
@[simp] theorem State.onReelTach_link (s : State) (r : Reel) (f : ReelTach → ReelTach) : (s.onReelTach r f).link = s.link := rfl
@[simp] theorem State.onReelTach_lines (s : State) (r : Reel) (f : ReelTach → ReelTach) : (s.onReelTach r f).lines = s.lines := rfl
@[simp] theorem State.onReelTach_held (s : State) (r : Reel) (f : ReelTach → ReelTach) : (s.onReelTach r f).held = s.held := rfl
@[simp] theorem State.onReelTach_freeIndex (s : State) (r : Reel) (f : ReelTach → ReelTach) : (s.onReelTach r f).freeIndex = s.freeIndex := rfl
@[simp] theorem State.onReelTach_pending (s : State) (r : Reel) (f : ReelTach → ReelTach) : (s.onReelTach r f).pending = s.pending := rfl

/-! ## onPack -/

@[simp] theorem State.onPack_sense (s : State) (r : Reel) (f : Pack → Pack) : (s.onPack r f).sense = s.sense := rfl
@[simp] theorem State.onPack_tach (s : State) (r : Reel) (f : Pack → Pack) : (s.onPack r f).tach = s.tach := rfl
@[simp] theorem State.onPack_servo (s : State) (r : Reel) (f : Pack → Pack) : (s.onPack r f).servo = s.servo := rfl
@[simp] theorem State.onPack_capstan (s : State) (r : Reel) (f : Pack → Pack) : (s.onPack r f).capstan = s.capstan := rfl
@[simp] theorem State.onPack_planner (s : State) (r : Reel) (f : Pack → Pack) : (s.onPack r f).planner = s.planner := rfl
@[simp] theorem State.onPack_zones (s : State) (r : Reel) (f : Pack → Pack) : (s.onPack r f).zones = s.zones := rfl
@[simp] theorem State.onPack_cues (s : State) (r : Reel) (f : Pack → Pack) : (s.onPack r f).cues = s.cues := rfl
@[simp] theorem State.onPack_params (s : State) (r : Reel) (f : Pack → Pack) : (s.onPack r f).params = s.params := rfl
@[simp] theorem State.onPack_locate (s : State) (r : Reel) (f : Pack → Pack) : (s.onPack r f).locate = s.locate := rfl
@[simp] theorem State.onPack_chase (s : State) (r : Reel) (f : Pack → Pack) : (s.onPack r f).chase = s.chase := rfl
@[simp] theorem State.onPack_fault (s : State) (r : Reel) (f : Pack → Pack) : (s.onPack r f).fault = s.fault := rfl
@[simp] theorem State.onPack_monitor (s : State) (r : Reel) (f : Pack → Pack) : (s.onPack r f).monitor = s.monitor := rfl
@[simp] theorem State.onPack_survey (s : State) (r : Reel) (f : Pack → Pack) : (s.onPack r f).survey = s.survey := rfl
@[simp] theorem State.onPack_link (s : State) (r : Reel) (f : Pack → Pack) : (s.onPack r f).link = s.link := rfl
@[simp] theorem State.onPack_lines (s : State) (r : Reel) (f : Pack → Pack) : (s.onPack r f).lines = s.lines := rfl
@[simp] theorem State.onPack_held (s : State) (r : Reel) (f : Pack → Pack) : (s.onPack r f).held = s.held := rfl
@[simp] theorem State.onPack_freeIndex (s : State) (r : Reel) (f : Pack → Pack) : (s.onPack r f).freeIndex = s.freeIndex := rfl
@[simp] theorem State.onPack_pending (s : State) (r : Reel) (f : Pack → Pack) : (s.onPack r f).pending = s.pending := rfl

/-! ## onReelServo -/

@[simp] theorem State.onReelServo_sense (s : State) (r : Reel) (f : ReelServo → ReelServo) : (s.onReelServo r f).sense = s.sense := rfl
@[simp] theorem State.onReelServo_tach (s : State) (r : Reel) (f : ReelServo → ReelServo) : (s.onReelServo r f).tach = s.tach := rfl
@[simp] theorem State.onReelServo_packs (s : State) (r : Reel) (f : ReelServo → ReelServo) : (s.onReelServo r f).packs = s.packs := rfl
@[simp] theorem State.onReelServo_capstan (s : State) (r : Reel) (f : ReelServo → ReelServo) : (s.onReelServo r f).capstan = s.capstan := rfl
@[simp] theorem State.onReelServo_planner (s : State) (r : Reel) (f : ReelServo → ReelServo) : (s.onReelServo r f).planner = s.planner := rfl
@[simp] theorem State.onReelServo_zones (s : State) (r : Reel) (f : ReelServo → ReelServo) : (s.onReelServo r f).zones = s.zones := rfl
@[simp] theorem State.onReelServo_cues (s : State) (r : Reel) (f : ReelServo → ReelServo) : (s.onReelServo r f).cues = s.cues := rfl
@[simp] theorem State.onReelServo_params (s : State) (r : Reel) (f : ReelServo → ReelServo) : (s.onReelServo r f).params = s.params := rfl
@[simp] theorem State.onReelServo_locate (s : State) (r : Reel) (f : ReelServo → ReelServo) : (s.onReelServo r f).locate = s.locate := rfl
@[simp] theorem State.onReelServo_chase (s : State) (r : Reel) (f : ReelServo → ReelServo) : (s.onReelServo r f).chase = s.chase := rfl
@[simp] theorem State.onReelServo_fault (s : State) (r : Reel) (f : ReelServo → ReelServo) : (s.onReelServo r f).fault = s.fault := rfl
@[simp] theorem State.onReelServo_monitor (s : State) (r : Reel) (f : ReelServo → ReelServo) : (s.onReelServo r f).monitor = s.monitor := rfl
@[simp] theorem State.onReelServo_survey (s : State) (r : Reel) (f : ReelServo → ReelServo) : (s.onReelServo r f).survey = s.survey := rfl
@[simp] theorem State.onReelServo_link (s : State) (r : Reel) (f : ReelServo → ReelServo) : (s.onReelServo r f).link = s.link := rfl
@[simp] theorem State.onReelServo_lines (s : State) (r : Reel) (f : ReelServo → ReelServo) : (s.onReelServo r f).lines = s.lines := rfl
@[simp] theorem State.onReelServo_held (s : State) (r : Reel) (f : ReelServo → ReelServo) : (s.onReelServo r f).held = s.held := rfl
@[simp] theorem State.onReelServo_freeIndex (s : State) (r : Reel) (f : ReelServo → ReelServo) : (s.onReelServo r f).freeIndex = s.freeIndex := rfl
@[simp] theorem State.onReelServo_pending (s : State) (r : Reel) (f : ReelServo → ReelServo) : (s.onReelServo r f).pending = s.pending := rfl

/-! ## One of two reels, one of three channels -/

@[simp] theorem PerReel.get_set_same {α : Type} (x : PerReel α) (r : Reel) (v : α) : (x.set r v).get r = v := by cases r <;> rfl

theorem PerReel.get_set_other {α : Type} (x : PerReel α) (r q : Reel) (v : α) (h : q ≠ r) : (x.set r v).get q = x.get q := by
  cases r <;> cases q <;> simp_all [PerReel.get, PerReel.set]

@[simp] theorem PerReel.get_map {α β : Type} (x : PerReel α) (f : α → β) (r : Reel) : (x.map f).get r = f (x.get r) := by
  cases r <;> rfl

@[simp] theorem PerReel.get_both {α : Type} (v : α) (r : Reel) : (PerReel.both v).get r = v := by cases r <;> rfl

@[simp] theorem Sense.presence_setPresence_same (x : Sense) (i : PresenceId) (c : PresenceChannel) :
    (x.setPresence i c).presence i = c := by cases i <;> rfl

@[simp] theorem State.onArm_self (s : State) (r : Reel) (f : ArmChannel → ArmChannel) :
    (s.onArm r f).sense.arms.get r = f (s.sense.arms.get r) := by simp [State.onArm]

@[simp] theorem State.onPresence_self (s : State) (i : PresenceId) (f : PresenceChannel → PresenceChannel) :
    (s.onPresence i f).sense.presence i = f (s.sense.presence i) := by simp [State.onPresence]

@[simp] theorem State.onPack_self (s : State) (r : Reel) (f : Pack → Pack) :
    (s.onPack r f).packs.pack.get r = f (s.packs.pack.get r) := by simp [State.onPack]

@[simp] theorem State.onReelTach_self (s : State) (r : Reel) (f : ReelTach → ReelTach) :
    (s.onReelTach r f).tach.reels.get r = f (s.tach.reels.get r) := by simp [State.onReelTach]

@[simp] theorem State.onReelServo_self (s : State) (r : Reel) (f : ReelServo → ReelServo) :
    (s.onReelServo r f).servo.reels.get r = f (s.servo.reels.get r) := by simp [State.onReelServo]

/-! ## Frames -/

theorem OnlyChanges.refl (l : List Block) (s : State) : OnlyChanges l s s := fun b => Or.inr (by cases b <;> rfl)

theorem OnlyChanges.trans {l : List Block} {s t u : State} (h : OnlyChanges l s t) (k : OnlyChanges l t u) : OnlyChanges l s u := by
  intro b
  rcases h b with hb | hb
  · exact Or.inl hb
  · rcases k b with kb | kb
    · exact Or.inl kb
    · exact Or.inr (by cases b <;> exact kb.trans hb)

theorem OnlyChanges.mono {l m : List Block} {s t : State} (h : OnlyChanges l s t) (hm : ∀ b ∈ l, b ∈ m) : OnlyChanges m s t := by
  intro b
  rcases h b with hb | hb
  · exact Or.inl (hm b hb)
  · exact Or.inr hb

end Sys2Proof.Machine
end

