-- ==== Sys2Proof/Laws/FramesStops.lean ====
section
/-! SUPPORT. Laws/FramesStops.lean: what each operation of Machine/Ops.lean, Machine/Stops.lean leaves as it was,
one lemma an operation: every field it never writes reads the same after it. -/

namespace Sys2Proof.Machine

/-- A field that each step of a fold keeps is kept by the fold. -/
theorem foldl_keeps {α β : Type} (proj : State → β) (f : State → α → State) (h : ∀ t c, proj (f t c) = proj t) (l : List α)
    (s : State) : proj (l.foldl f s) = proj s := by
  induction l generalizing s with
  | nil => rfl
  | cons c l ih => rw [List.foldl_cons, ih, h]

/-! ## Machine/Ops.lean -/

@[simp] theorem postNotice_frame (n : Notice) (s : State) :
    (postNotice n s).sense = s.sense ∧ (postNotice n s).tach = s.tach ∧ (postNotice n s).packs = s.packs ∧
      (postNotice n s).servo = s.servo ∧ (postNotice n s).capstan = s.capstan ∧ (postNotice n s).planner = s.planner ∧
      (postNotice n s).zones = s.zones ∧ (postNotice n s).cues = s.cues ∧ (postNotice n s).params = s.params ∧
      (postNotice n s).locate = s.locate ∧ (postNotice n s).chase = s.chase ∧ (postNotice n s).fault = s.fault ∧
      (postNotice n s).monitor = s.monitor ∧ (postNotice n s).survey = s.survey ∧ (postNotice n s).lines = s.lines ∧
      (postNotice n s).held = s.held ∧ (postNotice n s).freeIndex = s.freeIndex ∧ (postNotice n s).pending = s.pending := by
  refine ⟨?_, ?_, ?_, ?_, ?_, ?_, ?_, ?_, ?_, ?_, ?_, ?_, ?_, ?_, ?_, ?_, ?_, ?_⟩ <;> rfl

@[simp] theorem addCounts_frame (adds : Four Nat) (s : State) :
    (addCounts adds s).sense = s.sense ∧ (addCounts adds s).tach = s.tach ∧ (addCounts adds s).packs = s.packs ∧
      (addCounts adds s).servo = s.servo ∧ (addCounts adds s).capstan = s.capstan ∧ (addCounts adds s).planner = s.planner ∧
      (addCounts adds s).zones = s.zones ∧ (addCounts adds s).cues = s.cues ∧ (addCounts adds s).params = s.params ∧
      (addCounts adds s).locate = s.locate ∧ (addCounts adds s).chase = s.chase ∧ (addCounts adds s).fault = s.fault ∧
      (addCounts adds s).survey = s.survey ∧ (addCounts adds s).lines = s.lines ∧ (addCounts adds s).held = s.held ∧
      (addCounts adds s).freeIndex = s.freeIndex ∧ (addCounts adds s).pending = s.pending := by
  unfold addCounts; (repeat' split) <;> (try dsimp only) <;> (repeat' split) <;> simp

@[simp] theorem monitorEvent_frame (ev : MonEvent) (source : EventSource) (s : State) :
    (monitorEvent ev source s).sense = s.sense ∧ (monitorEvent ev source s).tach = s.tach ∧
      (monitorEvent ev source s).packs = s.packs ∧ (monitorEvent ev source s).servo = s.servo ∧
      (monitorEvent ev source s).capstan = s.capstan ∧ (monitorEvent ev source s).planner = s.planner ∧
      (monitorEvent ev source s).zones = s.zones ∧ (monitorEvent ev source s).cues = s.cues ∧
      (monitorEvent ev source s).params = s.params ∧ (monitorEvent ev source s).locate = s.locate ∧
      (monitorEvent ev source s).chase = s.chase ∧ (monitorEvent ev source s).fault = s.fault ∧
      (monitorEvent ev source s).survey = s.survey ∧ (monitorEvent ev source s).lines = s.lines ∧
      (monitorEvent ev source s).held = s.held ∧ (monitorEvent ev source s).freeIndex = s.freeIndex ∧
      (monitorEvent ev source s).pending = s.pending := by
  unfold monitorEvent; simp

@[simp] theorem refreshInhibit_frame (s : State) :
    (refreshInhibit s).sense = s.sense ∧ (refreshInhibit s).tach = s.tach ∧ (refreshInhibit s).packs = s.packs ∧
      (refreshInhibit s).servo = s.servo ∧ (refreshInhibit s).capstan = s.capstan ∧ (refreshInhibit s).planner = s.planner ∧
      (refreshInhibit s).zones = s.zones ∧ (refreshInhibit s).cues = s.cues ∧ (refreshInhibit s).params = s.params ∧
      (refreshInhibit s).locate = s.locate ∧ (refreshInhibit s).chase = s.chase ∧ (refreshInhibit s).fault = s.fault ∧
      (refreshInhibit s).monitor = s.monitor ∧ (refreshInhibit s).survey = s.survey ∧ (refreshInhibit s).link = s.link ∧
      (refreshInhibit s).held = s.held ∧ (refreshInhibit s).freeIndex = s.freeIndex ∧ (refreshInhibit s).pending = s.pending := by
  refine ⟨?_, ?_, ?_, ?_, ?_, ?_, ?_, ?_, ?_, ?_, ?_, ?_, ?_, ?_, ?_, ?_, ?_, ?_⟩ <;> rfl

@[simp] theorem linkTimerOnMode_frame (old : Mode) (new : Mode) (s : State) :
    (linkTimerOnMode old new s).sense = s.sense ∧ (linkTimerOnMode old new s).tach = s.tach ∧
      (linkTimerOnMode old new s).packs = s.packs ∧ (linkTimerOnMode old new s).servo = s.servo ∧
      (linkTimerOnMode old new s).capstan = s.capstan ∧ (linkTimerOnMode old new s).planner = s.planner ∧
      (linkTimerOnMode old new s).zones = s.zones ∧ (linkTimerOnMode old new s).cues = s.cues ∧
      (linkTimerOnMode old new s).params = s.params ∧ (linkTimerOnMode old new s).locate = s.locate ∧
      (linkTimerOnMode old new s).chase = s.chase ∧ (linkTimerOnMode old new s).monitor = s.monitor ∧
      (linkTimerOnMode old new s).survey = s.survey ∧ (linkTimerOnMode old new s).link = s.link ∧
      (linkTimerOnMode old new s).lines = s.lines ∧ (linkTimerOnMode old new s).held = s.held ∧
      (linkTimerOnMode old new s).freeIndex = s.freeIndex ∧ (linkTimerOnMode old new s).pending = s.pending := by
  refine ⟨?_, ?_, ?_, ?_, ?_, ?_, ?_, ?_, ?_, ?_, ?_, ?_, ?_, ?_, ?_, ?_, ?_, ?_⟩ <;> rfl

@[simp] theorem setMode_frame (m : Mode) (sub : Option SubStage) (cause : ModeCause) (s : State) :
    (setMode m sub cause s).sense = s.sense ∧ (setMode m sub cause s).tach = s.tach ∧ (setMode m sub cause s).packs = s.packs ∧
      (setMode m sub cause s).servo = s.servo ∧ (setMode m sub cause s).capstan = s.capstan ∧
      (setMode m sub cause s).zones = s.zones ∧ (setMode m sub cause s).cues = s.cues ∧
      (setMode m sub cause s).params = s.params ∧ (setMode m sub cause s).locate = s.locate ∧
      (setMode m sub cause s).chase = s.chase ∧ (setMode m sub cause s).monitor = s.monitor ∧
      (setMode m sub cause s).survey = s.survey ∧ (setMode m sub cause s).held = s.held ∧
      (setMode m sub cause s).freeIndex = s.freeIndex ∧ (setMode m sub cause s).pending = s.pending := by
  unfold setMode; (repeat' split) <;> (try dsimp only) <;> (repeat' split) <;> simp

@[simp] theorem applyBrakes_frame (s : State) :
    (applyBrakes s).sense = s.sense ∧ (applyBrakes s).tach = s.tach ∧ (applyBrakes s).packs = s.packs ∧
      (applyBrakes s).servo = s.servo ∧ (applyBrakes s).capstan = s.capstan ∧ (applyBrakes s).zones = s.zones ∧
      (applyBrakes s).cues = s.cues ∧ (applyBrakes s).params = s.params ∧ (applyBrakes s).locate = s.locate ∧
      (applyBrakes s).chase = s.chase ∧ (applyBrakes s).fault = s.fault ∧ (applyBrakes s).monitor = s.monitor ∧
      (applyBrakes s).survey = s.survey ∧ (applyBrakes s).link = s.link ∧ (applyBrakes s).held = s.held ∧
      (applyBrakes s).freeIndex = s.freeIndex ∧ (applyBrakes s).pending = s.pending := by
  refine ⟨?_, ?_, ?_, ?_, ?_, ?_, ?_, ?_, ?_, ?_, ?_, ?_, ?_, ?_, ?_, ?_, ?_⟩ <;> rfl

@[simp] theorem releaseBrakes_frame (s : State) :
    (releaseBrakes s).sense = s.sense ∧ (releaseBrakes s).tach = s.tach ∧ (releaseBrakes s).packs = s.packs ∧
      (releaseBrakes s).servo = s.servo ∧ (releaseBrakes s).capstan = s.capstan ∧ (releaseBrakes s).zones = s.zones ∧
      (releaseBrakes s).cues = s.cues ∧ (releaseBrakes s).params = s.params ∧ (releaseBrakes s).locate = s.locate ∧
      (releaseBrakes s).chase = s.chase ∧ (releaseBrakes s).fault = s.fault ∧ (releaseBrakes s).monitor = s.monitor ∧
      (releaseBrakes s).survey = s.survey ∧ (releaseBrakes s).link = s.link ∧ (releaseBrakes s).held = s.held ∧
      (releaseBrakes s).freeIndex = s.freeIndex ∧ (releaseBrakes s).pending = s.pending := by
  refine ⟨?_, ?_, ?_, ?_, ?_, ?_, ?_, ?_, ?_, ?_, ?_, ?_, ?_, ?_, ?_, ?_, ?_⟩ <;> rfl

@[simp] theorem openPinch_frame (s : State) :
    (openPinch s).sense = s.sense ∧ (openPinch s).tach = s.tach ∧ (openPinch s).packs = s.packs ∧ (openPinch s).servo = s.servo ∧
      (openPinch s).capstan = s.capstan ∧ (openPinch s).zones = s.zones ∧ (openPinch s).cues = s.cues ∧
      (openPinch s).params = s.params ∧ (openPinch s).locate = s.locate ∧ (openPinch s).chase = s.chase ∧
      (openPinch s).fault = s.fault ∧ (openPinch s).monitor = s.monitor ∧ (openPinch s).survey = s.survey ∧
      (openPinch s).link = s.link ∧ (openPinch s).held = s.held ∧ (openPinch s).freeIndex = s.freeIndex ∧
      (openPinch s).pending = s.pending := by
  refine ⟨?_, ?_, ?_, ?_, ?_, ?_, ?_, ?_, ?_, ?_, ?_, ?_, ?_, ?_, ?_, ?_, ?_⟩ <;> rfl

@[simp] theorem closePinch_frame (s : State) :
    (closePinch s).sense = s.sense ∧ (closePinch s).tach = s.tach ∧ (closePinch s).packs = s.packs ∧
      (closePinch s).servo = s.servo ∧ (closePinch s).capstan = s.capstan ∧ (closePinch s).zones = s.zones ∧
      (closePinch s).cues = s.cues ∧ (closePinch s).params = s.params ∧ (closePinch s).locate = s.locate ∧
      (closePinch s).chase = s.chase ∧ (closePinch s).fault = s.fault ∧ (closePinch s).monitor = s.monitor ∧
      (closePinch s).survey = s.survey ∧ (closePinch s).link = s.link ∧ (closePinch s).held = s.held ∧
      (closePinch s).freeIndex = s.freeIndex ∧ (closePinch s).pending = s.pending := by
  refine ⟨?_, ?_, ?_, ?_, ?_, ?_, ?_, ?_, ?_, ?_, ?_, ?_, ?_, ?_, ?_, ?_, ?_⟩ <;> rfl

@[simp] theorem disableDrives_frame (s : State) :
    (disableDrives s).sense = s.sense ∧ (disableDrives s).tach = s.tach ∧ (disableDrives s).packs = s.packs ∧
      (disableDrives s).capstan = s.capstan ∧ (disableDrives s).zones = s.zones ∧ (disableDrives s).cues = s.cues ∧
      (disableDrives s).params = s.params ∧ (disableDrives s).locate = s.locate ∧ (disableDrives s).chase = s.chase ∧
      (disableDrives s).fault = s.fault ∧ (disableDrives s).monitor = s.monitor ∧ (disableDrives s).survey = s.survey ∧
      (disableDrives s).link = s.link ∧ (disableDrives s).lines = s.lines ∧ (disableDrives s).held = s.held ∧
      (disableDrives s).freeIndex = s.freeIndex ∧ (disableDrives s).pending = s.pending := by
  refine ⟨?_, ?_, ?_, ?_, ?_, ?_, ?_, ?_, ?_, ?_, ?_, ?_, ?_, ?_, ?_, ?_, ?_⟩ <;> rfl

@[simp] theorem stopCapstan_frame (s : State) :
    (stopCapstan s).sense = s.sense ∧ (stopCapstan s).tach = s.tach ∧ (stopCapstan s).packs = s.packs ∧
      (stopCapstan s).servo = s.servo ∧ (stopCapstan s).planner = s.planner ∧ (stopCapstan s).zones = s.zones ∧
      (stopCapstan s).cues = s.cues ∧ (stopCapstan s).params = s.params ∧ (stopCapstan s).locate = s.locate ∧
      (stopCapstan s).chase = s.chase ∧ (stopCapstan s).fault = s.fault ∧ (stopCapstan s).monitor = s.monitor ∧
      (stopCapstan s).survey = s.survey ∧ (stopCapstan s).link = s.link ∧ (stopCapstan s).lines = s.lines ∧
      (stopCapstan s).held = s.held ∧ (stopCapstan s).freeIndex = s.freeIndex ∧ (stopCapstan s).pending = s.pending := by
  refine ⟨?_, ?_, ?_, ?_, ?_, ?_, ?_, ?_, ?_, ?_, ?_, ?_, ?_, ?_, ?_, ?_, ?_, ?_⟩ <;> rfl

@[simp] theorem startCapstan_frame (s : State) :
    (startCapstan s).sense = s.sense ∧ (startCapstan s).tach = s.tach ∧ (startCapstan s).packs = s.packs ∧
      (startCapstan s).servo = s.servo ∧ (startCapstan s).planner = s.planner ∧ (startCapstan s).zones = s.zones ∧
      (startCapstan s).cues = s.cues ∧ (startCapstan s).params = s.params ∧ (startCapstan s).locate = s.locate ∧
      (startCapstan s).chase = s.chase ∧ (startCapstan s).fault = s.fault ∧ (startCapstan s).monitor = s.monitor ∧
      (startCapstan s).survey = s.survey ∧ (startCapstan s).link = s.link ∧ (startCapstan s).lines = s.lines ∧
      (startCapstan s).held = s.held ∧ (startCapstan s).freeIndex = s.freeIndex ∧ (startCapstan s).pending = s.pending := by
  refine ⟨?_, ?_, ?_, ?_, ?_, ?_, ?_, ?_, ?_, ?_, ?_, ?_, ?_, ?_, ?_, ?_, ?_, ?_⟩ <;> rfl

@[simp] theorem recomputeLimits_frame (s : State) :
    (recomputeLimits s).sense = s.sense ∧ (recomputeLimits s).tach = s.tach ∧ (recomputeLimits s).packs = s.packs ∧
      (recomputeLimits s).servo = s.servo ∧ (recomputeLimits s).capstan = s.capstan ∧ (recomputeLimits s).zones = s.zones ∧
      (recomputeLimits s).cues = s.cues ∧ (recomputeLimits s).params = s.params ∧ (recomputeLimits s).locate = s.locate ∧
      (recomputeLimits s).chase = s.chase ∧ (recomputeLimits s).fault = s.fault ∧ (recomputeLimits s).monitor = s.monitor ∧
      (recomputeLimits s).survey = s.survey ∧ (recomputeLimits s).link = s.link ∧ (recomputeLimits s).lines = s.lines ∧
      (recomputeLimits s).held = s.held ∧ (recomputeLimits s).freeIndex = s.freeIndex ∧
      (recomputeLimits s).pending = s.pending := by
  refine ⟨?_, ?_, ?_, ?_, ?_, ?_, ?_, ?_, ?_, ?_, ?_, ?_, ?_, ?_, ?_, ?_, ?_, ?_⟩ <;> rfl

@[simp] theorem refuse_frame (s : State) (code : ResultCode) :
    (refuse s code).state.sense = s.sense ∧ (refuse s code).state.tach = s.tach ∧ (refuse s code).state.packs = s.packs ∧
      (refuse s code).state.servo = s.servo ∧ (refuse s code).state.capstan = s.capstan ∧
      (refuse s code).state.planner = s.planner ∧ (refuse s code).state.zones = s.zones ∧ (refuse s code).state.cues = s.cues ∧
      (refuse s code).state.params = s.params ∧ (refuse s code).state.locate = s.locate ∧ (refuse s code).state.chase = s.chase ∧
      (refuse s code).state.fault = s.fault ∧ (refuse s code).state.monitor = s.monitor ∧
      (refuse s code).state.survey = s.survey ∧ (refuse s code).state.link = s.link ∧ (refuse s code).state.lines = s.lines ∧
      (refuse s code).state.held = s.held ∧ (refuse s code).state.freeIndex = s.freeIndex ∧
      (refuse s code).state.pending = s.pending := by
  refine ⟨?_, ?_, ?_, ?_, ?_, ?_, ?_, ?_, ?_, ?_, ?_, ?_, ?_, ?_, ?_, ?_, ?_, ?_, ?_⟩ <;> rfl

@[simp] theorem accept_frame (s : State) (clamped : Bool) (body : List Byte) :
    (accept s clamped body).state.sense = s.sense ∧ (accept s clamped body).state.tach = s.tach ∧
      (accept s clamped body).state.packs = s.packs ∧ (accept s clamped body).state.servo = s.servo ∧
      (accept s clamped body).state.capstan = s.capstan ∧ (accept s clamped body).state.planner = s.planner ∧
      (accept s clamped body).state.zones = s.zones ∧ (accept s clamped body).state.cues = s.cues ∧
      (accept s clamped body).state.params = s.params ∧ (accept s clamped body).state.locate = s.locate ∧
      (accept s clamped body).state.chase = s.chase ∧ (accept s clamped body).state.fault = s.fault ∧
      (accept s clamped body).state.monitor = s.monitor ∧ (accept s clamped body).state.survey = s.survey ∧
      (accept s clamped body).state.link = s.link ∧ (accept s clamped body).state.lines = s.lines ∧
      (accept s clamped body).state.held = s.held ∧ (accept s clamped body).state.freeIndex = s.freeIndex ∧
      (accept s clamped body).state.pending = s.pending := by
  refine ⟨?_, ?_, ?_, ?_, ?_, ?_, ?_, ?_, ?_, ?_, ?_, ?_, ?_, ?_, ?_, ?_, ?_, ?_, ?_⟩ <;> rfl

/-! ## Machine/Stops.lean -/

@[simp] theorem finishLocate_frame (outcome : LocateOutcome) (playStarted : Bool) (s : State) :
    (finishLocate outcome playStarted s).sense = s.sense ∧ (finishLocate outcome playStarted s).tach = s.tach ∧
      (finishLocate outcome playStarted s).packs = s.packs ∧ (finishLocate outcome playStarted s).servo = s.servo ∧
      (finishLocate outcome playStarted s).capstan = s.capstan ∧ (finishLocate outcome playStarted s).planner = s.planner ∧
      (finishLocate outcome playStarted s).zones = s.zones ∧ (finishLocate outcome playStarted s).cues = s.cues ∧
      (finishLocate outcome playStarted s).params = s.params ∧ (finishLocate outcome playStarted s).chase = s.chase ∧
      (finishLocate outcome playStarted s).fault = s.fault ∧ (finishLocate outcome playStarted s).monitor = s.monitor ∧
      (finishLocate outcome playStarted s).survey = s.survey ∧ (finishLocate outcome playStarted s).lines = s.lines ∧
      (finishLocate outcome playStarted s).held = s.held ∧ (finishLocate outcome playStarted s).freeIndex = s.freeIndex ∧
      (finishLocate outcome playStarted s).pending = s.pending := by
  unfold finishLocate; (repeat' split) <;> simp

@[simp] theorem dropLocateOf_frame (owner : LocateOwner) (s : State) :
    (dropLocateOf owner s).sense = s.sense ∧ (dropLocateOf owner s).tach = s.tach ∧ (dropLocateOf owner s).packs = s.packs ∧
      (dropLocateOf owner s).servo = s.servo ∧ (dropLocateOf owner s).capstan = s.capstan ∧
      (dropLocateOf owner s).planner = s.planner ∧ (dropLocateOf owner s).zones = s.zones ∧ (dropLocateOf owner s).cues = s.cues ∧
      (dropLocateOf owner s).params = s.params ∧ (dropLocateOf owner s).chase = s.chase ∧ (dropLocateOf owner s).fault = s.fault ∧
      (dropLocateOf owner s).monitor = s.monitor ∧ (dropLocateOf owner s).survey = s.survey ∧
      (dropLocateOf owner s).link = s.link ∧ (dropLocateOf owner s).lines = s.lines ∧ (dropLocateOf owner s).held = s.held ∧
      (dropLocateOf owner s).freeIndex = s.freeIndex ∧ (dropLocateOf owner s).pending = s.pending := by
  refine ⟨?_, ?_, ?_, ?_, ?_, ?_, ?_, ?_, ?_, ?_, ?_, ?_, ?_, ?_, ?_, ?_, ?_, ?_⟩ <;> rfl

@[simp] theorem setChaseState_frame (st : ChaseState) (cause : ChaseCause) (s : State) :
    (setChaseState st cause s).sense = s.sense ∧ (setChaseState st cause s).tach = s.tach ∧
      (setChaseState st cause s).packs = s.packs ∧ (setChaseState st cause s).servo = s.servo ∧
      (setChaseState st cause s).capstan = s.capstan ∧ (setChaseState st cause s).planner = s.planner ∧
      (setChaseState st cause s).zones = s.zones ∧ (setChaseState st cause s).cues = s.cues ∧
      (setChaseState st cause s).params = s.params ∧ (setChaseState st cause s).locate = s.locate ∧
      (setChaseState st cause s).fault = s.fault ∧ (setChaseState st cause s).monitor = s.monitor ∧
      (setChaseState st cause s).survey = s.survey ∧ (setChaseState st cause s).held = s.held ∧
      (setChaseState st cause s).freeIndex = s.freeIndex ∧ (setChaseState st cause s).pending = s.pending := by
  refine ⟨?_, ?_, ?_, ?_, ?_, ?_, ?_, ?_, ?_, ?_, ?_, ?_, ?_, ?_, ?_, ?_⟩ <;> rfl

@[simp] theorem endChase_frame (cause : ChaseCause) (s : State) :
    (endChase cause s).sense = s.sense ∧ (endChase cause s).tach = s.tach ∧ (endChase cause s).packs = s.packs ∧
      (endChase cause s).servo = s.servo ∧ (endChase cause s).zones = s.zones ∧ (endChase cause s).cues = s.cues ∧
      (endChase cause s).params = s.params ∧ (endChase cause s).fault = s.fault ∧ (endChase cause s).monitor = s.monitor ∧
      (endChase cause s).survey = s.survey ∧ (endChase cause s).held = s.held ∧ (endChase cause s).freeIndex = s.freeIndex ∧
      (endChase cause s).pending = s.pending := by
  unfold endChase; (repeat' split) <;> simp

@[simp] theorem endSurvey_frame (outcome : SurveyOutcome) (reason : Option AbortReason) (by_ : EndedBy) (s : State) :
    (endSurvey outcome reason by_ s).sense = s.sense ∧ (endSurvey outcome reason by_ s).tach = s.tach ∧
      (endSurvey outcome reason by_ s).packs = s.packs ∧ (endSurvey outcome reason by_ s).servo = s.servo ∧
      (endSurvey outcome reason by_ s).capstan = s.capstan ∧ (endSurvey outcome reason by_ s).zones = s.zones ∧
      (endSurvey outcome reason by_ s).cues = s.cues ∧ (endSurvey outcome reason by_ s).params = s.params ∧
      (endSurvey outcome reason by_ s).chase = s.chase ∧ (endSurvey outcome reason by_ s).fault = s.fault ∧
      (endSurvey outcome reason by_ s).lines = s.lines ∧ (endSurvey outcome reason by_ s).held = s.held ∧
      (endSurvey outcome reason by_ s).freeIndex = s.freeIndex ∧ (endSurvey outcome reason by_ s).pending = s.pending := by
  unfold endSurvey; (repeat' split) <;> simp

@[simp] theorem endSurveyBy_frame (cause : StopCause) (s : State) :
    (endSurveyBy cause s).sense = s.sense ∧ (endSurveyBy cause s).tach = s.tach ∧ (endSurveyBy cause s).packs = s.packs ∧
      (endSurveyBy cause s).servo = s.servo ∧ (endSurveyBy cause s).capstan = s.capstan ∧ (endSurveyBy cause s).zones = s.zones ∧
      (endSurveyBy cause s).cues = s.cues ∧ (endSurveyBy cause s).params = s.params ∧ (endSurveyBy cause s).chase = s.chase ∧
      (endSurveyBy cause s).fault = s.fault ∧ (endSurveyBy cause s).lines = s.lines ∧ (endSurveyBy cause s).held = s.held ∧
      (endSurveyBy cause s).freeIndex = s.freeIndex ∧ (endSurveyBy cause s).pending = s.pending := by
  unfold endSurveyBy; (repeat' split) <;> simp

@[simp] theorem endUnit_frame (cause : StopCause) (s : State) :
    (endUnit cause s).sense = s.sense ∧ (endUnit cause s).tach = s.tach ∧ (endUnit cause s).packs = s.packs ∧
      (endUnit cause s).servo = s.servo ∧ (endUnit cause s).zones = s.zones ∧ (endUnit cause s).cues = s.cues ∧
      (endUnit cause s).params = s.params ∧ (endUnit cause s).fault = s.fault ∧ (endUnit cause s).held = s.held ∧
      (endUnit cause s).freeIndex = s.freeIndex ∧ (endUnit cause s).pending = s.pending := by
  unfold endUnit; (repeat' split) <;> simp

@[simp] theorem publishStopCause_frame (cause : StopCause) (s : State) :
    (publishStopCause cause s).sense = s.sense ∧ (publishStopCause cause s).tach = s.tach ∧
      (publishStopCause cause s).packs = s.packs ∧ (publishStopCause cause s).servo = s.servo ∧
      (publishStopCause cause s).capstan = s.capstan ∧ (publishStopCause cause s).planner = s.planner ∧
      (publishStopCause cause s).params = s.params ∧ (publishStopCause cause s).locate = s.locate ∧
      (publishStopCause cause s).chase = s.chase ∧ (publishStopCause cause s).fault = s.fault ∧
      (publishStopCause cause s).monitor = s.monitor ∧ (publishStopCause cause s).survey = s.survey ∧
      (publishStopCause cause s).link = s.link ∧ (publishStopCause cause s).lines = s.lines ∧
      (publishStopCause cause s).held = s.held ∧ (publishStopCause cause s).freeIndex = s.freeIndex ∧
      (publishStopCause cause s).pending = s.pending := by
  refine ⟨?_, ?_, ?_, ?_, ?_, ?_, ?_, ?_, ?_, ?_, ?_, ?_, ?_, ?_, ?_, ?_, ?_⟩ <;> rfl

@[simp] theorem beginStopping_frame (sev : Severity) (cause : StopCause) (s : State) :
    (beginStopping sev cause s).sense = s.sense ∧ (beginStopping sev cause s).tach = s.tach ∧
      (beginStopping sev cause s).packs = s.packs ∧ (beginStopping sev cause s).servo = s.servo ∧
      (beginStopping sev cause s).capstan = s.capstan ∧ (beginStopping sev cause s).params = s.params ∧
      (beginStopping sev cause s).locate = s.locate ∧ (beginStopping sev cause s).chase = s.chase ∧
      (beginStopping sev cause s).monitor = s.monitor ∧ (beginStopping sev cause s).survey = s.survey ∧
      (beginStopping sev cause s).held = s.held ∧ (beginStopping sev cause s).freeIndex = s.freeIndex ∧
      (beginStopping sev cause s).pending = s.pending := by
  unfold beginStopping; simp

@[simp] theorem enterBraking_frame (cause : StopCause) (s : State) :
    (enterBraking cause s).sense = s.sense ∧ (enterBraking cause s).tach = s.tach ∧ (enterBraking cause s).packs = s.packs ∧
      (enterBraking cause s).params = s.params ∧ (enterBraking cause s).locate = s.locate ∧
      (enterBraking cause s).chase = s.chase ∧ (enterBraking cause s).monitor = s.monitor ∧
      (enterBraking cause s).survey = s.survey ∧ (enterBraking cause s).held = s.held ∧
      (enterBraking cause s).freeIndex = s.freeIndex ∧ (enterBraking cause s).pending = s.pending := by
  unfold enterBraking; simp

@[simp] theorem failLoad_frame (cause : ModeCause) (s : State) :
    (failLoad cause s).sense = s.sense ∧ (failLoad cause s).tach = s.tach ∧ (failLoad cause s).capstan = s.capstan ∧
      (failLoad cause s).zones = s.zones ∧ (failLoad cause s).cues = s.cues ∧ (failLoad cause s).params = s.params ∧
      (failLoad cause s).locate = s.locate ∧ (failLoad cause s).chase = s.chase ∧ (failLoad cause s).monitor = s.monitor ∧
      (failLoad cause s).survey = s.survey ∧ (failLoad cause s).held = s.held ∧ (failLoad cause s).freeIndex = s.freeIndex ∧
      (failLoad cause s).pending = s.pending := by
  unfold failLoad; simp

@[simp] theorem enterHold_frame (cause : ModeCause) (s : State) :
    (enterHold cause s).sense = s.sense ∧ (enterHold cause s).tach = s.tach ∧ (enterHold cause s).packs = s.packs ∧
      (enterHold cause s).servo = s.servo ∧ (enterHold cause s).capstan = s.capstan ∧ (enterHold cause s).zones = s.zones ∧
      (enterHold cause s).cues = s.cues ∧ (enterHold cause s).params = s.params ∧ (enterHold cause s).locate = s.locate ∧
      (enterHold cause s).chase = s.chase ∧ (enterHold cause s).monitor = s.monitor ∧ (enterHold cause s).survey = s.survey ∧
      (enterHold cause s).held = s.held ∧ (enterHold cause s).freeIndex = s.freeIndex ∧
      (enterHold cause s).pending = s.pending := by
  unfold enterHold; simp

@[simp] theorem clearMismatch_frame (s : State) :
    (clearMismatch s).sense = s.sense ∧ (clearMismatch s).tach = s.tach ∧ (clearMismatch s).servo = s.servo ∧
      (clearMismatch s).capstan = s.capstan ∧ (clearMismatch s).zones = s.zones ∧ (clearMismatch s).cues = s.cues ∧
      (clearMismatch s).params = s.params ∧ (clearMismatch s).locate = s.locate ∧ (clearMismatch s).chase = s.chase ∧
      (clearMismatch s).fault = s.fault ∧ (clearMismatch s).monitor = s.monitor ∧ (clearMismatch s).survey = s.survey ∧
      (clearMismatch s).lines = s.lines ∧ (clearMismatch s).held = s.held ∧ (clearMismatch s).freeIndex = s.freeIndex ∧
      (clearMismatch s).pending = s.pending := by
  unfold clearMismatch; (repeat' split) <;> simp

@[simp] theorem clearMarks_frame (s : State) :
    (clearMarks s).sense = s.sense ∧ (clearMarks s).tach = s.tach ∧ (clearMarks s).packs = s.packs ∧
      (clearMarks s).servo = s.servo ∧ (clearMarks s).capstan = s.capstan ∧ (clearMarks s).zones = s.zones ∧
      (clearMarks s).params = s.params ∧ (clearMarks s).locate = s.locate ∧ (clearMarks s).chase = s.chase ∧
      (clearMarks s).fault = s.fault ∧ (clearMarks s).monitor = s.monitor ∧ (clearMarks s).survey = s.survey ∧
      (clearMarks s).link = s.link ∧ (clearMarks s).lines = s.lines ∧ (clearMarks s).held = s.held ∧
      (clearMarks s).freeIndex = s.freeIndex ∧ (clearMarks s).pending = s.pending := by
  refine ⟨?_, ?_, ?_, ?_, ?_, ?_, ?_, ?_, ?_, ?_, ?_, ?_, ?_, ?_, ?_, ?_, ?_⟩ <;> rfl

@[simp] theorem enterIdle_frame (cause : ModeCause) (s : State) :
    (enterIdle cause s).sense = s.sense ∧ (enterIdle cause s).tach = s.tach ∧ (enterIdle cause s).zones = s.zones ∧
      (enterIdle cause s).params = s.params ∧ (enterIdle cause s).locate = s.locate ∧ (enterIdle cause s).chase = s.chase ∧
      (enterIdle cause s).monitor = s.monitor ∧ (enterIdle cause s).survey = s.survey ∧ (enterIdle cause s).held = s.held ∧
      (enterIdle cause s).freeIndex = s.freeIndex ∧ (enterIdle cause s).pending = s.pending := by
  unfold enterIdle; simp

@[simp] theorem startMotion_frame (s : State) :
    (startMotion s).sense = s.sense ∧ (startMotion s).tach = s.tach ∧ (startMotion s).packs = s.packs ∧
      (startMotion s).servo = s.servo ∧ (startMotion s).capstan = s.capstan ∧ (startMotion s).zones = s.zones ∧
      (startMotion s).params = s.params ∧ (startMotion s).locate = s.locate ∧ (startMotion s).chase = s.chase ∧
      (startMotion s).fault = s.fault ∧ (startMotion s).monitor = s.monitor ∧ (startMotion s).survey = s.survey ∧
      (startMotion s).link = s.link ∧ (startMotion s).lines = s.lines ∧ (startMotion s).held = s.held ∧
      (startMotion s).freeIndex = s.freeIndex ∧ (startMotion s).pending = s.pending := by
  refine ⟨?_, ?_, ?_, ?_, ?_, ?_, ?_, ?_, ?_, ?_, ?_, ?_, ?_, ?_, ?_, ?_, ?_⟩ <;> rfl

@[simp] theorem abandonStop_frame (s : State) :
    (abandonStop s).sense = s.sense ∧ (abandonStop s).tach = s.tach ∧ (abandonStop s).packs = s.packs ∧
      (abandonStop s).servo = s.servo ∧ (abandonStop s).capstan = s.capstan ∧ (abandonStop s).cues = s.cues ∧
      (abandonStop s).params = s.params ∧ (abandonStop s).locate = s.locate ∧ (abandonStop s).chase = s.chase ∧
      (abandonStop s).fault = s.fault ∧ (abandonStop s).monitor = s.monitor ∧ (abandonStop s).survey = s.survey ∧
      (abandonStop s).link = s.link ∧ (abandonStop s).lines = s.lines ∧ (abandonStop s).held = s.held ∧
      (abandonStop s).freeIndex = s.freeIndex ∧ (abandonStop s).pending = s.pending := by
  refine ⟨?_, ?_, ?_, ?_, ?_, ?_, ?_, ?_, ?_, ?_, ?_, ?_, ?_, ?_, ?_, ?_, ?_⟩ <;> rfl

@[simp] theorem enterEngaging_frame (cause : ModeCause) (s : State) :
    (enterEngaging cause s).sense = s.sense ∧ (enterEngaging cause s).tach = s.tach ∧ (enterEngaging cause s).packs = s.packs ∧
      (enterEngaging cause s).servo = s.servo ∧ (enterEngaging cause s).params = s.params ∧
      (enterEngaging cause s).locate = s.locate ∧ (enterEngaging cause s).chase = s.chase ∧
      (enterEngaging cause s).monitor = s.monitor ∧ (enterEngaging cause s).survey = s.survey ∧
      (enterEngaging cause s).held = s.held ∧ (enterEngaging cause s).freeIndex = s.freeIndex ∧
      (enterEngaging cause s).pending = s.pending := by
  unfold enterEngaging; simp

@[simp] theorem completeLoad_frame (s : State) :
    (completeLoad s).sense = s.sense ∧ (completeLoad s).tach = s.tach ∧ (completeLoad s).servo = s.servo ∧
      (completeLoad s).params = s.params ∧ (completeLoad s).locate = s.locate ∧ (completeLoad s).chase = s.chase ∧
      (completeLoad s).monitor = s.monitor ∧ (completeLoad s).survey = s.survey ∧ (completeLoad s).held = s.held ∧
      (completeLoad s).freeIndex = s.freeIndex ∧ (completeLoad s).pending = s.pending := by
  unfold completeLoad; simp

@[simp] theorem stopDemand_frame (sev : Severity) (cause : StopCause) (s : State) :
    (stopDemand sev cause s).sense = s.sense ∧ (stopDemand sev cause s).tach = s.tach ∧
      (stopDemand sev cause s).params = s.params ∧ (stopDemand sev cause s).held = s.held ∧
      (stopDemand sev cause s).freeIndex = s.freeIndex ∧ (stopDemand sev cause s).pending = s.pending := by
  unfold stopDemand; (repeat' split) <;> simp

@[simp] theorem restOrStop_frame (cause : StopCause) (s : State) :
    (restOrStop cause s).sense = s.sense ∧ (restOrStop cause s).tach = s.tach ∧ (restOrStop cause s).params = s.params ∧
      (restOrStop cause s).held = s.held ∧ (restOrStop cause s).freeIndex = s.freeIndex ∧
      (restOrStop cause s).pending = s.pending := by
  unfold restOrStop; (repeat' split) <;> simp

@[simp] theorem latchPrimary_frame (c : Condition) (sev : Severity) (s : State) :
    (latchPrimary c sev s).sense = s.sense ∧ (latchPrimary c sev s).tach = s.tach ∧ (latchPrimary c sev s).params = s.params ∧
      (latchPrimary c sev s).held = s.held ∧ (latchPrimary c sev s).freeIndex = s.freeIndex ∧
      (latchPrimary c sev s).pending = s.pending := by
  unfold latchPrimary; simp

@[simp] theorem takeSecondary_frame (r : FaultRecord) (c : Condition) (sev : Severity) (s : State) :
    (takeSecondary r c sev s).sense = s.sense ∧ (takeSecondary r c sev s).tach = s.tach ∧
      (takeSecondary r c sev s).params = s.params ∧ (takeSecondary r c sev s).held = s.held ∧
      (takeSecondary r c sev s).freeIndex = s.freeIndex ∧ (takeSecondary r c sev s).pending = s.pending := by
  unfold takeSecondary; (repeat' split) <;> (try dsimp only) <;> (repeat' split) <;> simp

@[simp] theorem takeConditionAt_frame (c : Condition) (sev : Severity) (s : State) :
    (takeConditionAt c sev s).sense = s.sense ∧ (takeConditionAt c sev s).tach = s.tach ∧
      (takeConditionAt c sev s).params = s.params ∧ (takeConditionAt c sev s).held = s.held ∧
      (takeConditionAt c sev s).freeIndex = s.freeIndex ∧ (takeConditionAt c sev s).pending = s.pending := by
  unfold takeConditionAt; (repeat' split) <;> simp

@[simp] theorem takeCondition_frame (kind : FaultKind) (reel : Option Reel) (s : State) :
    (takeCondition kind reel s).sense = s.sense ∧ (takeCondition kind reel s).tach = s.tach ∧
      (takeCondition kind reel s).params = s.params ∧ (takeCondition kind reel s).held = s.held ∧
      (takeCondition kind reel s).freeIndex = s.freeIndex ∧ (takeCondition kind reel s).pending = s.pending := by
  unfold takeCondition; simp

@[simp] theorem takePowerFail_frame (s : State) :
    (takePowerFail s).sense = s.sense ∧ (takePowerFail s).tach = s.tach ∧ (takePowerFail s).params = s.params ∧
      (takePowerFail s).held = s.held ∧ (takePowerFail s).freeIndex = s.freeIndex ∧ (takePowerFail s).pending = s.pending := by
  unfold takePowerFail; simp

@[simp] theorem armConditionIf_frame (bad : Bool) (r : Reel) (s : State) :
    (armConditionIf bad r s).sense = s.sense ∧ (armConditionIf bad r s).tach = s.tach ∧
      (armConditionIf bad r s).params = s.params ∧ (armConditionIf bad r s).held = s.held ∧
      (armConditionIf bad r s).freeIndex = s.freeIndex ∧ (armConditionIf bad r s).pending = s.pending := by
  unfold armConditionIf; (repeat' split) <;> simp

@[simp] theorem enableDrives_frame (s : State) :
    (enableDrives s).sense = s.sense ∧ (enableDrives s).tach = s.tach ∧ (enableDrives s).params = s.params ∧
      (enableDrives s).held = s.held ∧ (enableDrives s).freeIndex = s.freeIndex ∧ (enableDrives s).pending = s.pending := by
  unfold enableDrives; (repeat' split) <;> simp

@[simp] theorem zoneDirectionRule_frame (s : State) :
    (zoneDirectionRule s).sense = s.sense ∧ (zoneDirectionRule s).tach = s.tach ∧ (zoneDirectionRule s).params = s.params ∧
      (zoneDirectionRule s).held = s.held ∧ (zoneDirectionRule s).freeIndex = s.freeIndex ∧
      (zoneDirectionRule s).pending = s.pending := by
  unfold zoneDirectionRule; (repeat' split) <;> simp

end Sys2Proof.Machine
end

