-- ==== Sys2Proof/Laws/FramesTape.lean ====
section
/-! SUPPORT. Laws/FramesTape.lean: what each operation of Machine/Sensing.lean, Machine/Packs.lean, Machine/Position.lean, Machine/ZonesCues.lean leaves as it was,
one lemma an operation: every field it never writes reads the same after it. -/

namespace Sys2Proof.Machine

/-! ## Machine/Sensing.lean -/

@[simp] theorem armEnded_frame (r : Reel) (s : State) :
    (armEnded r s).sense = s.sense ∧ (armEnded r s).tach = s.tach ∧ (armEnded r s).params = s.params ∧
      (armEnded r s).held = s.held ∧ (armEnded r s).freeIndex = s.freeIndex ∧ (armEnded r s).pending = s.pending := by
  unfold armEnded; simp

@[simp] theorem armMeasured_frame (r : Reel) (c : Nat) (s : State) :
    (armMeasured r c s).tach = s.tach ∧ (armMeasured r c s).params = s.params ∧ (armMeasured r c s).held = s.held ∧
      (armMeasured r c s).freeIndex = s.freeIndex ∧ (armMeasured r c s).pending = s.pending := by
  unfold armMeasured; (repeat' split) <;> simp

@[simp] theorem armStalled_frame (r : Reel) (s : State) :
    (armStalled r s).tach = s.tach ∧ (armStalled r s).params = s.params ∧ (armStalled r s).held = s.held ∧
      (armStalled r s).freeIndex = s.freeIndex ∧ (armStalled r s).pending = s.pending := by
  unfold armStalled; (repeat' split) <;> simp

@[simp] theorem tapeEnd_frame (s : State) :
    (tapeEnd s).sense = s.sense ∧ (tapeEnd s).tach = s.tach ∧ (tapeEnd s).params = s.params ∧ (tapeEnd s).held = s.held ∧
      (tapeEnd s).freeIndex = s.freeIndex ∧ (tapeEnd s).pending = s.pending := by
  unfold tapeEnd; (repeat' split) <;> simp

@[simp] theorem clearBlocks_frame (s : State) :
    (clearBlocks s).sense = s.sense ∧ (clearBlocks s).tach = s.tach ∧ (clearBlocks s).packs = s.packs ∧
      (clearBlocks s).servo = s.servo ∧ (clearBlocks s).capstan = s.capstan ∧ (clearBlocks s).zones = s.zones ∧
      (clearBlocks s).cues = s.cues ∧ (clearBlocks s).params = s.params ∧ (clearBlocks s).locate = s.locate ∧
      (clearBlocks s).chase = s.chase ∧ (clearBlocks s).fault = s.fault ∧ (clearBlocks s).monitor = s.monitor ∧
      (clearBlocks s).survey = s.survey ∧ (clearBlocks s).link = s.link ∧ (clearBlocks s).lines = s.lines ∧
      (clearBlocks s).held = s.held ∧ (clearBlocks s).freeIndex = s.freeIndex ∧ (clearBlocks s).pending = s.pending := by
  refine ⟨?_, ?_, ?_, ?_, ?_, ?_, ?_, ?_, ?_, ?_, ?_, ?_, ?_, ?_, ?_, ?_, ?_, ?_⟩ <;> rfl

@[simp] theorem handAbsent_frame (i : PresenceId) (s : State) :
    (handAbsent i s).sense = s.sense ∧ (handAbsent i s).tach = s.tach ∧ (handAbsent i s).params = s.params ∧
      (handAbsent i s).held = s.held ∧ (handAbsent i s).freeIndex = s.freeIndex ∧ (handAbsent i s).pending = s.pending := by
  unfold handAbsent; (repeat' split) <;> simp

@[simp] theorem presenceChanged_frame (i : PresenceId) (old : Presence) (s : State) :
    (presenceChanged i old s).sense = s.sense ∧ (presenceChanged i old s).tach = s.tach ∧
      (presenceChanged i old s).params = s.params ∧ (presenceChanged i old s).held = s.held ∧
      (presenceChanged i old s).freeIndex = s.freeIndex ∧ (presenceChanged i old s).pending = s.pending := by
  unfold presenceChanged; (repeat' split) <;> (try dsimp only) <;> (repeat' split) <;> simp

@[simp] theorem presenceMeasured_frame (c : Nat) (s : State) :
    (presenceMeasured c s).tach = s.tach ∧ (presenceMeasured c s).params = s.params ∧ (presenceMeasured c s).held = s.held ∧
      (presenceMeasured c s).freeIndex = s.freeIndex ∧ (presenceMeasured c s).pending = s.pending := by
  unfold presenceMeasured; (repeat' split) <;> simp

@[simp] theorem presenceStalled_frame (s : State) :
    (presenceStalled s).tach = s.tach ∧ (presenceStalled s).packs = s.packs ∧ (presenceStalled s).servo = s.servo ∧
      (presenceStalled s).capstan = s.capstan ∧ (presenceStalled s).planner = s.planner ∧ (presenceStalled s).zones = s.zones ∧
      (presenceStalled s).cues = s.cues ∧ (presenceStalled s).params = s.params ∧ (presenceStalled s).locate = s.locate ∧
      (presenceStalled s).chase = s.chase ∧ (presenceStalled s).fault = s.fault ∧ (presenceStalled s).monitor = s.monitor ∧
      (presenceStalled s).survey = s.survey ∧ (presenceStalled s).link = s.link ∧ (presenceStalled s).lines = s.lines ∧
      (presenceStalled s).held = s.held ∧ (presenceStalled s).freeIndex = s.freeIndex ∧
      (presenceStalled s).pending = s.pending := by
  unfold presenceStalled; (repeat' split) <;> simp

@[simp] theorem programArm_frame (r : Reel) (selector : Nat) (range : SenseRange) (cMin : Nat) (cMax : Nat) (s : State) :
    (programArm r selector range cMin cMax s).state.tach = s.tach ∧
      (programArm r selector range cMin cMax s).state.packs = s.packs ∧
      (programArm r selector range cMin cMax s).state.servo = s.servo ∧
      (programArm r selector range cMin cMax s).state.capstan = s.capstan ∧
      (programArm r selector range cMin cMax s).state.planner = s.planner ∧
      (programArm r selector range cMin cMax s).state.zones = s.zones ∧
      (programArm r selector range cMin cMax s).state.cues = s.cues ∧
      (programArm r selector range cMin cMax s).state.params = s.params ∧
      (programArm r selector range cMin cMax s).state.locate = s.locate ∧
      (programArm r selector range cMin cMax s).state.chase = s.chase ∧
      (programArm r selector range cMin cMax s).state.fault = s.fault ∧
      (programArm r selector range cMin cMax s).state.monitor = s.monitor ∧
      (programArm r selector range cMin cMax s).state.survey = s.survey ∧
      (programArm r selector range cMin cMax s).state.link = s.link ∧
      (programArm r selector range cMin cMax s).state.lines = s.lines ∧
      (programArm r selector range cMin cMax s).state.held = s.held ∧
      (programArm r selector range cMin cMax s).state.freeIndex = s.freeIndex ∧
      (programArm r selector range cMin cMax s).state.pending = s.pending := by
  unfold programArm; (repeat' split) <;> (try dsimp only) <;> (repeat' split) <;> simp

@[simp] theorem programPresence_frame (i : PresenceId) (selector : Nat) (range : SenseRange) (cMin : Nat) (cMax : Nat)
    (tOn : Nat) (tOff : Nat) (suppress : Bool) (s : State) :
    (programPresence i selector range cMin cMax tOn tOff suppress s).state.tach = s.tach ∧
      (programPresence i selector range cMin cMax tOn tOff suppress s).state.params = s.params ∧
      (programPresence i selector range cMin cMax tOn tOff suppress s).state.held = s.held ∧
      (programPresence i selector range cMin cMax tOn tOff suppress s).state.freeIndex = s.freeIndex ∧
      (programPresence i selector range cMin cMax tOn tOff suppress s).state.pending = s.pending := by
  unfold programPresence; (repeat' split) <;> (try dsimp only) <;> (repeat' split) <;> simp

@[simp] theorem answerSetSense_frame (channel : Nat) (apply : Nat) (range : Nat) (cMin : Nat) (cMax : Nat) (tOn : Nat)
    (tOff : Nat) (suppress : Nat) (s : State) :
    (answerSetSense channel apply range cMin cMax tOn tOff suppress s).state.tach = s.tach ∧
      (answerSetSense channel apply range cMin cMax tOn tOff suppress s).state.params = s.params ∧
      (answerSetSense channel apply range cMin cMax tOn tOff suppress s).state.held = s.held ∧
      (answerSetSense channel apply range cMin cMax tOn tOff suppress s).state.freeIndex = s.freeIndex ∧
      (answerSetSense channel apply range cMin cMax tOn tOff suppress s).state.pending = s.pending := by
  unfold answerSetSense; (repeat' split) <;> simp

@[simp] theorem answerSetArmCal_frame (channel : Nat) (cCentre : Nat) (cFull : Nat) (s : State) :
    (answerSetArmCal channel cCentre cFull s).state.tach = s.tach ∧
      (answerSetArmCal channel cCentre cFull s).state.packs = s.packs ∧
      (answerSetArmCal channel cCentre cFull s).state.servo = s.servo ∧
      (answerSetArmCal channel cCentre cFull s).state.capstan = s.capstan ∧
      (answerSetArmCal channel cCentre cFull s).state.planner = s.planner ∧
      (answerSetArmCal channel cCentre cFull s).state.zones = s.zones ∧
      (answerSetArmCal channel cCentre cFull s).state.cues = s.cues ∧
      (answerSetArmCal channel cCentre cFull s).state.params = s.params ∧
      (answerSetArmCal channel cCentre cFull s).state.locate = s.locate ∧
      (answerSetArmCal channel cCentre cFull s).state.chase = s.chase ∧
      (answerSetArmCal channel cCentre cFull s).state.fault = s.fault ∧
      (answerSetArmCal channel cCentre cFull s).state.monitor = s.monitor ∧
      (answerSetArmCal channel cCentre cFull s).state.survey = s.survey ∧
      (answerSetArmCal channel cCentre cFull s).state.link = s.link ∧
      (answerSetArmCal channel cCentre cFull s).state.lines = s.lines ∧
      (answerSetArmCal channel cCentre cFull s).state.held = s.held ∧
      (answerSetArmCal channel cCentre cFull s).state.freeIndex = s.freeIndex ∧
      (answerSetArmCal channel cCentre cFull s).state.pending = s.pending := by
  unfold answerSetArmCal; (repeat' split) <;> simp

/-! ## Machine/Packs.lean -/

@[simp] theorem packRollerEdge_frame (d : Dir) (s : State) :
    (packRollerEdge d s).sense = s.sense ∧ (packRollerEdge d s).tach = s.tach ∧ (packRollerEdge d s).servo = s.servo ∧
      (packRollerEdge d s).capstan = s.capstan ∧ (packRollerEdge d s).planner = s.planner ∧ (packRollerEdge d s).zones = s.zones ∧
      (packRollerEdge d s).cues = s.cues ∧ (packRollerEdge d s).params = s.params ∧ (packRollerEdge d s).locate = s.locate ∧
      (packRollerEdge d s).chase = s.chase ∧ (packRollerEdge d s).fault = s.fault ∧ (packRollerEdge d s).monitor = s.monitor ∧
      (packRollerEdge d s).survey = s.survey ∧ (packRollerEdge d s).link = s.link ∧ (packRollerEdge d s).lines = s.lines ∧
      (packRollerEdge d s).held = s.held ∧ (packRollerEdge d s).freeIndex = s.freeIndex ∧
      (packRollerEdge d s).pending = s.pending := by
  refine ⟨?_, ?_, ?_, ?_, ?_, ?_, ?_, ?_, ?_, ?_, ?_, ?_, ?_, ?_, ?_, ?_, ?_, ?_⟩ <;> rfl

@[simp] theorem areaTest_frame (s : State) :
    (areaTest s).sense = s.sense ∧ (areaTest s).tach = s.tach ∧ (areaTest s).servo = s.servo ∧ (areaTest s).capstan = s.capstan ∧
      (areaTest s).planner = s.planner ∧ (areaTest s).zones = s.zones ∧ (areaTest s).cues = s.cues ∧
      (areaTest s).params = s.params ∧ (areaTest s).locate = s.locate ∧ (areaTest s).chase = s.chase ∧
      (areaTest s).fault = s.fault ∧ (areaTest s).monitor = s.monitor ∧ (areaTest s).survey = s.survey ∧
      (areaTest s).lines = s.lines ∧ (areaTest s).held = s.held ∧ (areaTest s).freeIndex = s.freeIndex ∧
      (areaTest s).pending = s.pending := by
  unfold areaTest; (repeat' split) <;> (try dsimp only) <;> (repeat' split) <;> simp

@[simp] theorem acceptRadius_frame (r : Reel) (rMeas : Nat) (s : State) :
    (acceptRadius r rMeas s).sense = s.sense ∧ (acceptRadius r rMeas s).tach = s.tach ∧ (acceptRadius r rMeas s).servo = s.servo ∧
      (acceptRadius r rMeas s).capstan = s.capstan ∧ (acceptRadius r rMeas s).planner = s.planner ∧
      (acceptRadius r rMeas s).zones = s.zones ∧ (acceptRadius r rMeas s).cues = s.cues ∧
      (acceptRadius r rMeas s).params = s.params ∧ (acceptRadius r rMeas s).locate = s.locate ∧
      (acceptRadius r rMeas s).chase = s.chase ∧ (acceptRadius r rMeas s).fault = s.fault ∧
      (acceptRadius r rMeas s).monitor = s.monitor ∧ (acceptRadius r rMeas s).survey = s.survey ∧
      (acceptRadius r rMeas s).lines = s.lines ∧ (acceptRadius r rMeas s).held = s.held ∧
      (acceptRadius r rMeas s).freeIndex = s.freeIndex ∧ (acceptRadius r rMeas s).pending = s.pending := by
  unfold acceptRadius; (repeat' split) <;> (try dsimp only) <;> (repeat' split) <;> simp

@[simp] theorem probeCounted_frame (s : State) :
    (probeCounted s).sense = s.sense ∧ (probeCounted s).tach = s.tach ∧ (probeCounted s).servo = s.servo ∧
      (probeCounted s).params = s.params ∧ (probeCounted s).locate = s.locate ∧ (probeCounted s).chase = s.chase ∧
      (probeCounted s).monitor = s.monitor ∧ (probeCounted s).survey = s.survey ∧ (probeCounted s).held = s.held ∧
      (probeCounted s).freeIndex = s.freeIndex ∧ (probeCounted s).pending = s.pending := by
  unfold probeCounted; (repeat' split) <;> simp

@[simp] theorem acceptProbe_frame (r : Reel) (rMeas : Nat) (s : State) :
    (acceptProbe r rMeas s).sense = s.sense ∧ (acceptProbe r rMeas s).tach = s.tach ∧ (acceptProbe r rMeas s).servo = s.servo ∧
      (acceptProbe r rMeas s).params = s.params ∧ (acceptProbe r rMeas s).locate = s.locate ∧
      (acceptProbe r rMeas s).chase = s.chase ∧ (acceptProbe r rMeas s).monitor = s.monitor ∧
      (acceptProbe r rMeas s).survey = s.survey ∧ (acceptProbe r rMeas s).held = s.held ∧
      (acceptProbe r rMeas s).freeIndex = s.freeIndex ∧ (acceptProbe r rMeas s).pending = s.pending := by
  unfold acceptProbe; simp

@[simp] theorem acceptWindow_frame (r : Reel) (rMeas : Nat) (s : State) :
    (acceptWindow r rMeas s).sense = s.sense ∧ (acceptWindow r rMeas s).tach = s.tach ∧ (acceptWindow r rMeas s).servo = s.servo ∧
      (acceptWindow r rMeas s).capstan = s.capstan ∧ (acceptWindow r rMeas s).zones = s.zones ∧
      (acceptWindow r rMeas s).cues = s.cues ∧ (acceptWindow r rMeas s).params = s.params ∧
      (acceptWindow r rMeas s).locate = s.locate ∧ (acceptWindow r rMeas s).chase = s.chase ∧
      (acceptWindow r rMeas s).fault = s.fault ∧ (acceptWindow r rMeas s).monitor = s.monitor ∧
      (acceptWindow r rMeas s).survey = s.survey ∧ (acceptWindow r rMeas s).lines = s.lines ∧
      (acceptWindow r rMeas s).held = s.held ∧ (acceptWindow r rMeas s).freeIndex = s.freeIndex ∧
      (acceptWindow r rMeas s).pending = s.pending := by
  unfold acceptWindow; simp

@[simp] theorem resyncWindow_frame (r : Reel) (rMeas : Nat) (rPred : Nat) (s : State) :
    (resyncWindow r rMeas rPred s).sense = s.sense ∧ (resyncWindow r rMeas rPred s).tach = s.tach ∧
      (resyncWindow r rMeas rPred s).servo = s.servo ∧ (resyncWindow r rMeas rPred s).capstan = s.capstan ∧
      (resyncWindow r rMeas rPred s).zones = s.zones ∧ (resyncWindow r rMeas rPred s).cues = s.cues ∧
      (resyncWindow r rMeas rPred s).params = s.params ∧ (resyncWindow r rMeas rPred s).locate = s.locate ∧
      (resyncWindow r rMeas rPred s).chase = s.chase ∧ (resyncWindow r rMeas rPred s).fault = s.fault ∧
      (resyncWindow r rMeas rPred s).monitor = s.monitor ∧ (resyncWindow r rMeas rPred s).survey = s.survey ∧
      (resyncWindow r rMeas rPred s).lines = s.lines ∧ (resyncWindow r rMeas rPred s).held = s.held ∧
      (resyncWindow r rMeas rPred s).freeIndex = s.freeIndex ∧ (resyncWindow r rMeas rPred s).pending = s.pending := by
  unfold resyncWindow; simp

@[simp] theorem judgeWindow_frame (r : Reel) (rMeas : Nat) (rPred : Nat) (s : State) :
    (judgeWindow r rMeas rPred s).sense = s.sense ∧ (judgeWindow r rMeas rPred s).tach = s.tach ∧
      (judgeWindow r rMeas rPred s).servo = s.servo ∧ (judgeWindow r rMeas rPred s).capstan = s.capstan ∧
      (judgeWindow r rMeas rPred s).zones = s.zones ∧ (judgeWindow r rMeas rPred s).cues = s.cues ∧
      (judgeWindow r rMeas rPred s).params = s.params ∧ (judgeWindow r rMeas rPred s).locate = s.locate ∧
      (judgeWindow r rMeas rPred s).chase = s.chase ∧ (judgeWindow r rMeas rPred s).fault = s.fault ∧
      (judgeWindow r rMeas rPred s).survey = s.survey ∧ (judgeWindow r rMeas rPred s).lines = s.lines ∧
      (judgeWindow r rMeas rPred s).held = s.held ∧ (judgeWindow r rMeas rPred s).freeIndex = s.freeIndex ∧
      (judgeWindow r rMeas rPred s).pending = s.pending := by
  unfold judgeWindow; (repeat' split) <;> (try dsimp only) <;> (repeat' split) <;> simp

@[simp] theorem completeWindow_frame (r : Reel) (s : State) :
    (completeWindow r s).sense = s.sense ∧ (completeWindow r s).tach = s.tach ∧ (completeWindow r s).servo = s.servo ∧
      (completeWindow r s).params = s.params ∧ (completeWindow r s).locate = s.locate ∧ (completeWindow r s).chase = s.chase ∧
      (completeWindow r s).survey = s.survey ∧ (completeWindow r s).held = s.held ∧ (completeWindow r s).freeIndex = s.freeIndex ∧
      (completeWindow r s).pending = s.pending := by
  unfold completeWindow; (repeat' split) <;> (try dsimp only) <;> (repeat' split) <;> simp

@[simp] theorem packReelEdge_frame (r : Reel) (d : Dir) (s : State) :
    (packReelEdge r d s).sense = s.sense ∧ (packReelEdge r d s).tach = s.tach ∧ (packReelEdge r d s).servo = s.servo ∧
      (packReelEdge r d s).params = s.params ∧ (packReelEdge r d s).locate = s.locate ∧ (packReelEdge r d s).chase = s.chase ∧
      (packReelEdge r d s).survey = s.survey ∧ (packReelEdge r d s).held = s.held ∧ (packReelEdge r d s).freeIndex = s.freeIndex ∧
      (packReelEdge r d s).pending = s.pending := by
  unfold packReelEdge; (repeat' split) <;> (try dsimp only) <;> (repeat' split) <;> simp

@[simp] theorem reelTachEdge_frame (r : Reel) (winding : Bool) (s : State) :
    (reelTachEdge r winding s).sense = s.sense ∧ (reelTachEdge r winding s).servo = s.servo ∧
      (reelTachEdge r winding s).params = s.params ∧ (reelTachEdge r winding s).locate = s.locate ∧
      (reelTachEdge r winding s).chase = s.chase ∧ (reelTachEdge r winding s).survey = s.survey ∧
      (reelTachEdge r winding s).held = s.held ∧ (reelTachEdge r winding s).freeIndex = s.freeIndex ∧
      (reelTachEdge r winding s).pending = s.pending := by
  unfold reelTachEdge; simp

@[simp] theorem reclampReel_frame (r : Reel) (s : State) :
    (reclampReel r s).sense = s.sense ∧ (reclampReel r s).tach = s.tach ∧ (reclampReel r s).packs = s.packs ∧
      (reclampReel r s).capstan = s.capstan ∧ (reclampReel r s).planner = s.planner ∧ (reclampReel r s).zones = s.zones ∧
      (reclampReel r s).cues = s.cues ∧ (reclampReel r s).params = s.params ∧ (reclampReel r s).locate = s.locate ∧
      (reclampReel r s).chase = s.chase ∧ (reclampReel r s).fault = s.fault ∧ (reclampReel r s).monitor = s.monitor ∧
      (reclampReel r s).survey = s.survey ∧ (reclampReel r s).link = s.link ∧ (reclampReel r s).lines = s.lines ∧
      (reclampReel r s).held = s.held ∧ (reclampReel r s).freeIndex = s.freeIndex ∧ (reclampReel r s).pending = s.pending := by
  refine ⟨?_, ?_, ?_, ?_, ?_, ?_, ?_, ?_, ?_, ?_, ?_, ?_, ?_, ?_, ?_, ?_, ?_, ?_⟩ <;> rfl

@[simp] theorem storeReel_frame (r : Reel) (q : ReelProfile) (s : State) :
    (storeReel r q s).sense = s.sense ∧ (storeReel r q s).tach = s.tach ∧ (storeReel r q s).capstan = s.capstan ∧
      (storeReel r q s).zones = s.zones ∧ (storeReel r q s).cues = s.cues ∧ (storeReel r q s).params = s.params ∧
      (storeReel r q s).locate = s.locate ∧ (storeReel r q s).chase = s.chase ∧ (storeReel r q s).fault = s.fault ∧
      (storeReel r q s).monitor = s.monitor ∧ (storeReel r q s).survey = s.survey ∧ (storeReel r q s).link = s.link ∧
      (storeReel r q s).lines = s.lines ∧ (storeReel r q s).held = s.held ∧ (storeReel r q s).freeIndex = s.freeIndex ∧
      (storeReel r q s).pending = s.pending := by
  unfold storeReel; (repeat' split) <;> (try dsimp only) <;> (repeat' split) <;> simp

@[simp] theorem answerSetReel_frame (side : Nat) (apply : Nat) (hub : Nat) (flange : Nat) (jf : Nat) (f : Nat) (tauLim : Nat)
    (tauFs : Nat) (s : State) :
    (answerSetReel side apply hub flange jf f tauLim tauFs s).state.sense = s.sense ∧
      (answerSetReel side apply hub flange jf f tauLim tauFs s).state.tach = s.tach ∧
      (answerSetReel side apply hub flange jf f tauLim tauFs s).state.capstan = s.capstan ∧
      (answerSetReel side apply hub flange jf f tauLim tauFs s).state.zones = s.zones ∧
      (answerSetReel side apply hub flange jf f tauLim tauFs s).state.cues = s.cues ∧
      (answerSetReel side apply hub flange jf f tauLim tauFs s).state.params = s.params ∧
      (answerSetReel side apply hub flange jf f tauLim tauFs s).state.locate = s.locate ∧
      (answerSetReel side apply hub flange jf f tauLim tauFs s).state.chase = s.chase ∧
      (answerSetReel side apply hub flange jf f tauLim tauFs s).state.fault = s.fault ∧
      (answerSetReel side apply hub flange jf f tauLim tauFs s).state.monitor = s.monitor ∧
      (answerSetReel side apply hub flange jf f tauLim tauFs s).state.survey = s.survey ∧
      (answerSetReel side apply hub flange jf f tauLim tauFs s).state.link = s.link ∧
      (answerSetReel side apply hub flange jf f tauLim tauFs s).state.lines = s.lines ∧
      (answerSetReel side apply hub flange jf f tauLim tauFs s).state.held = s.held ∧
      (answerSetReel side apply hub flange jf f tauLim tauFs s).state.freeIndex = s.freeIndex ∧
      (answerSetReel side apply hub flange jf f tauLim tauFs s).state.pending = s.pending := by
  unfold answerSetReel; (repeat' split) <;> (try dsimp only) <;> (repeat' split) <;> simp

@[simp] theorem storeTape_frame (x : TapeProfile) (s : State) :
    (storeTape x s).sense = s.sense ∧ (storeTape x s).tach = s.tach ∧ (storeTape x s).capstan = s.capstan ∧
      (storeTape x s).zones = s.zones ∧ (storeTape x s).cues = s.cues ∧ (storeTape x s).params = s.params ∧
      (storeTape x s).locate = s.locate ∧ (storeTape x s).chase = s.chase ∧ (storeTape x s).fault = s.fault ∧
      (storeTape x s).monitor = s.monitor ∧ (storeTape x s).survey = s.survey ∧ (storeTape x s).link = s.link ∧
      (storeTape x s).lines = s.lines ∧ (storeTape x s).held = s.held ∧ (storeTape x s).freeIndex = s.freeIndex ∧
      (storeTape x s).pending = s.pending := by
  unfold storeTape; (repeat' split) <;> simp

@[simp] theorem answerSetTape_frame (apply : Nat) (t : Nat) (kj : Nat) (tMin : Nat) (tNom : Nat) (tMax : Nat) (tThr : Nat)
    (tSpan : Nat) (s : State) :
    (answerSetTape apply t kj tMin tNom tMax tThr tSpan s).state.sense = s.sense ∧
      (answerSetTape apply t kj tMin tNom tMax tThr tSpan s).state.tach = s.tach ∧
      (answerSetTape apply t kj tMin tNom tMax tThr tSpan s).state.capstan = s.capstan ∧
      (answerSetTape apply t kj tMin tNom tMax tThr tSpan s).state.zones = s.zones ∧
      (answerSetTape apply t kj tMin tNom tMax tThr tSpan s).state.cues = s.cues ∧
      (answerSetTape apply t kj tMin tNom tMax tThr tSpan s).state.params = s.params ∧
      (answerSetTape apply t kj tMin tNom tMax tThr tSpan s).state.locate = s.locate ∧
      (answerSetTape apply t kj tMin tNom tMax tThr tSpan s).state.chase = s.chase ∧
      (answerSetTape apply t kj tMin tNom tMax tThr tSpan s).state.fault = s.fault ∧
      (answerSetTape apply t kj tMin tNom tMax tThr tSpan s).state.monitor = s.monitor ∧
      (answerSetTape apply t kj tMin tNom tMax tThr tSpan s).state.survey = s.survey ∧
      (answerSetTape apply t kj tMin tNom tMax tThr tSpan s).state.link = s.link ∧
      (answerSetTape apply t kj tMin tNom tMax tThr tSpan s).state.lines = s.lines ∧
      (answerSetTape apply t kj tMin tNom tMax tThr tSpan s).state.held = s.held ∧
      (answerSetTape apply t kj tMin tNom tMax tThr tSpan s).state.freeIndex = s.freeIndex ∧
      (answerSetTape apply t kj tMin tNom tMax tThr tSpan s).state.pending = s.pending := by
  unfold answerSetTape; (repeat' split) <;> simp

/-! ## Machine/Position.lean -/

@[simp] theorem zoneNotice_frame (cause : ZoneCause) (dir : Option Dir) (block : Option (Nat × Dir)) (s : State) :
    (zoneNotice cause dir block s).sense = s.sense ∧ (zoneNotice cause dir block s).tach = s.tach ∧
      (zoneNotice cause dir block s).packs = s.packs ∧ (zoneNotice cause dir block s).servo = s.servo ∧
      (zoneNotice cause dir block s).capstan = s.capstan ∧ (zoneNotice cause dir block s).planner = s.planner ∧
      (zoneNotice cause dir block s).zones = s.zones ∧ (zoneNotice cause dir block s).cues = s.cues ∧
      (zoneNotice cause dir block s).params = s.params ∧ (zoneNotice cause dir block s).locate = s.locate ∧
      (zoneNotice cause dir block s).chase = s.chase ∧ (zoneNotice cause dir block s).fault = s.fault ∧
      (zoneNotice cause dir block s).monitor = s.monitor ∧ (zoneNotice cause dir block s).survey = s.survey ∧
      (zoneNotice cause dir block s).lines = s.lines ∧ (zoneNotice cause dir block s).held = s.held ∧
      (zoneNotice cause dir block s).freeIndex = s.freeIndex ∧ (zoneNotice cause dir block s).pending = s.pending := by
  refine ⟨?_, ?_, ?_, ?_, ?_, ?_, ?_, ?_, ?_, ?_, ?_, ?_, ?_, ?_, ?_, ?_, ?_, ?_⟩ <;> rfl

@[simp] theorem rezonePosition_frame (dir : Option Dir) (s : State) :
    (rezonePosition dir s).sense = s.sense ∧ (rezonePosition dir s).tach = s.tach ∧ (rezonePosition dir s).packs = s.packs ∧
      (rezonePosition dir s).servo = s.servo ∧ (rezonePosition dir s).capstan = s.capstan ∧
      (rezonePosition dir s).planner = s.planner ∧ (rezonePosition dir s).cues = s.cues ∧
      (rezonePosition dir s).params = s.params ∧ (rezonePosition dir s).locate = s.locate ∧
      (rezonePosition dir s).chase = s.chase ∧ (rezonePosition dir s).fault = s.fault ∧ (rezonePosition dir s).survey = s.survey ∧
      (rezonePosition dir s).held = s.held ∧ (rezonePosition dir s).freeIndex = s.freeIndex ∧
      (rezonePosition dir s).pending = s.pending := by
  unfold rezonePosition; (repeat' split) <;> (try dsimp only) <;> (repeat' split) <;> simp

@[simp] theorem rezoneEdit_frame (before : ZoneAttrs) (s : State) :
    (rezoneEdit before s).sense = s.sense ∧ (rezoneEdit before s).tach = s.tach ∧ (rezoneEdit before s).params = s.params ∧
      (rezoneEdit before s).held = s.held ∧ (rezoneEdit before s).freeIndex = s.freeIndex ∧
      (rezoneEdit before s).pending = s.pending := by
  unfold rezoneEdit; (repeat' split) <;> (try dsimp only) <;> (repeat' split) <;> simp

@[simp] theorem markMissed_frame (id : Nat) (s : State) :
    (markMissed id s).sense = s.sense ∧ (markMissed id s).tach = s.tach ∧ (markMissed id s).packs = s.packs ∧
      (markMissed id s).servo = s.servo ∧ (markMissed id s).capstan = s.capstan ∧ (markMissed id s).zones = s.zones ∧
      (markMissed id s).params = s.params ∧ (markMissed id s).locate = s.locate ∧ (markMissed id s).chase = s.chase ∧
      (markMissed id s).fault = s.fault ∧ (markMissed id s).monitor = s.monitor ∧ (markMissed id s).survey = s.survey ∧
      (markMissed id s).link = s.link ∧ (markMissed id s).lines = s.lines ∧ (markMissed id s).held = s.held ∧
      (markMissed id s).freeIndex = s.freeIndex ∧ (markMissed id s).pending = s.pending := by
  refine ⟨?_, ?_, ?_, ?_, ?_, ?_, ?_, ?_, ?_, ?_, ?_, ?_, ?_, ?_, ?_, ?_, ?_⟩ <;> rfl

@[simp] theorem capWind_frame (c : Cue) (s : State) :
    (capWind c s).sense = s.sense ∧ (capWind c s).tach = s.tach ∧ (capWind c s).packs = s.packs ∧ (capWind c s).servo = s.servo ∧
      (capWind c s).capstan = s.capstan ∧ (capWind c s).zones = s.zones ∧ (capWind c s).params = s.params ∧
      (capWind c s).locate = s.locate ∧ (capWind c s).chase = s.chase ∧ (capWind c s).fault = s.fault ∧
      (capWind c s).monitor = s.monitor ∧ (capWind c s).survey = s.survey ∧ (capWind c s).link = s.link ∧
      (capWind c s).lines = s.lines ∧ (capWind c s).held = s.held ∧ (capWind c s).freeIndex = s.freeIndex ∧
      (capWind c s).pending = s.pending := by
  refine ⟨?_, ?_, ?_, ?_, ?_, ?_, ?_, ?_, ?_, ?_, ?_, ?_, ?_, ?_, ?_, ?_, ?_⟩ <;> rfl

@[simp] theorem reachCue_frame (byFix : Bool) (d : Dir) (c : Cue) (s : State) :
    (reachCue byFix d c s).sense = s.sense ∧ (reachCue byFix d c s).tach = s.tach ∧ (reachCue byFix d c s).packs = s.packs ∧
      (reachCue byFix d c s).servo = s.servo ∧ (reachCue byFix d c s).capstan = s.capstan ∧
      (reachCue byFix d c s).zones = s.zones ∧ (reachCue byFix d c s).params = s.params ∧
      (reachCue byFix d c s).locate = s.locate ∧ (reachCue byFix d c s).chase = s.chase ∧ (reachCue byFix d c s).fault = s.fault ∧
      (reachCue byFix d c s).monitor = s.monitor ∧ (reachCue byFix d c s).survey = s.survey ∧
      (reachCue byFix d c s).lines = s.lines ∧ (reachCue byFix d c s).held = s.held ∧
      (reachCue byFix d c s).freeIndex = s.freeIndex ∧ (reachCue byFix d c s).pending = s.pending := by
  unfold reachCue; (repeat' split) <;> (try dsimp only) <;> (repeat' split) <;> simp

@[simp] theorem reachCues_frame (byFix : Bool) (d : Dir) (x0 : Int) (s : State) :
    (reachCues byFix d x0 s).sense = s.sense ∧ (reachCues byFix d x0 s).tach = s.tach ∧ (reachCues byFix d x0 s).packs = s.packs ∧
      (reachCues byFix d x0 s).servo = s.servo ∧ (reachCues byFix d x0 s).capstan = s.capstan ∧
      (reachCues byFix d x0 s).zones = s.zones ∧ (reachCues byFix d x0 s).params = s.params ∧
      (reachCues byFix d x0 s).locate = s.locate ∧ (reachCues byFix d x0 s).chase = s.chase ∧
      (reachCues byFix d x0 s).fault = s.fault ∧ (reachCues byFix d x0 s).monitor = s.monitor ∧
      (reachCues byFix d x0 s).survey = s.survey ∧ (reachCues byFix d x0 s).lines = s.lines ∧
      (reachCues byFix d x0 s).held = s.held ∧ (reachCues byFix d x0 s).freeIndex = s.freeIndex ∧
      (reachCues byFix d x0 s).pending = s.pending := by
  refine ⟨?_, ?_, ?_, ?_, ?_, ?_, ?_, ?_, ?_, ?_, ?_, ?_, ?_, ?_, ?_, ?_⟩
  · unfold reachCues; dsimp only; simp; rw [foldl_keeps (fun t => t.sense) _ (by intros; simp)]
  · unfold reachCues; dsimp only; simp; rw [foldl_keeps (fun t => t.tach) _ (by intros; simp)]
  · unfold reachCues; dsimp only; simp; rw [foldl_keeps (fun t => t.packs) _ (by intros; simp)]
  · unfold reachCues; dsimp only; simp; rw [foldl_keeps (fun t => t.servo) _ (by intros; simp)]
  · unfold reachCues; dsimp only; simp; rw [foldl_keeps (fun t => t.capstan) _ (by intros; simp)]
  · unfold reachCues; dsimp only; simp; rw [foldl_keeps (fun t => t.zones) _ (by intros; simp)]
  · unfold reachCues; dsimp only; simp; rw [foldl_keeps (fun t => t.params) _ (by intros; simp)]
  · unfold reachCues; dsimp only; simp; rw [foldl_keeps (fun t => t.locate) _ (by intros; simp)]
  · unfold reachCues; dsimp only; simp; rw [foldl_keeps (fun t => t.chase) _ (by intros; simp)]
  · unfold reachCues; dsimp only; simp; rw [foldl_keeps (fun t => t.fault) _ (by intros; simp)]
  · unfold reachCues; dsimp only; simp; rw [foldl_keeps (fun t => t.monitor) _ (by intros; simp)]
  · unfold reachCues; dsimp only; simp; rw [foldl_keeps (fun t => t.survey) _ (by intros; simp)]
  · unfold reachCues; dsimp only; simp; rw [foldl_keeps (fun t => t.lines) _ (by intros; simp)]
  · unfold reachCues; dsimp only; simp; rw [foldl_keeps (fun t => t.held) _ (by intros; simp)]
  · unfold reachCues; dsimp only; simp; rw [foldl_keeps (fun t => t.freeIndex) _ (by intros; simp)]
  · unfold reachCues; dsimp only; simp; rw [foldl_keeps (fun t => t.pending) _ (by intros; simp)]

@[simp] theorem loadDistance_frame (s : State) :
    (loadDistance s).sense = s.sense ∧ (loadDistance s).tach = s.tach ∧ (loadDistance s).capstan = s.capstan ∧
      (loadDistance s).zones = s.zones ∧ (loadDistance s).cues = s.cues ∧ (loadDistance s).params = s.params ∧
      (loadDistance s).locate = s.locate ∧ (loadDistance s).chase = s.chase ∧ (loadDistance s).monitor = s.monitor ∧
      (loadDistance s).survey = s.survey ∧ (loadDistance s).held = s.held ∧ (loadDistance s).freeIndex = s.freeIndex ∧
      (loadDistance s).pending = s.pending := by
  unfold loadDistance; (repeat' split) <;> simp

@[simp] theorem surveyOwnEnd_frame (outcome : SurveyOutcome) (reason : Option AbortReason) (by_ : EndedBy) (s : State) :
    (surveyOwnEnd outcome reason by_ s).sense = s.sense ∧ (surveyOwnEnd outcome reason by_ s).tach = s.tach ∧
      (surveyOwnEnd outcome reason by_ s).params = s.params ∧ (surveyOwnEnd outcome reason by_ s).held = s.held ∧
      (surveyOwnEnd outcome reason by_ s).freeIndex = s.freeIndex ∧ (surveyOwnEnd outcome reason by_ s).pending = s.pending := by
  unfold surveyOwnEnd; simp

@[simp] theorem surveyRange_frame (s : State) :
    (surveyRange s).sense = s.sense ∧ (surveyRange s).tach = s.tach ∧ (surveyRange s).params = s.params ∧
      (surveyRange s).held = s.held ∧ (surveyRange s).freeIndex = s.freeIndex ∧ (surveyRange s).pending = s.pending := by
  unfold surveyRange; (repeat' split) <;> simp

@[simp] theorem positionMoved_frame (byFix : Bool) (d : Dir) (x0 : Int) (s : State) :
    (positionMoved byFix d x0 s).sense = s.sense ∧ (positionMoved byFix d x0 s).tach = s.tach ∧
      (positionMoved byFix d x0 s).params = s.params ∧ (positionMoved byFix d x0 s).held = s.held ∧
      (positionMoved byFix d x0 s).freeIndex = s.freeIndex ∧ (positionMoved byFix d x0 s).pending = s.pending := by
  unfold positionMoved; simp

@[simp] theorem countEdge_frame (d : Dir) (s : State) :
    (countEdge d s).sense = s.sense ∧ (countEdge d s).packs = s.packs ∧ (countEdge d s).servo = s.servo ∧
      (countEdge d s).capstan = s.capstan ∧ (countEdge d s).planner = s.planner ∧ (countEdge d s).zones = s.zones ∧
      (countEdge d s).cues = s.cues ∧ (countEdge d s).params = s.params ∧ (countEdge d s).locate = s.locate ∧
      (countEdge d s).chase = s.chase ∧ (countEdge d s).fault = s.fault ∧ (countEdge d s).monitor = s.monitor ∧
      (countEdge d s).survey = s.survey ∧ (countEdge d s).link = s.link ∧ (countEdge d s).lines = s.lines ∧
      (countEdge d s).held = s.held ∧ (countEdge d s).freeIndex = s.freeIndex ∧ (countEdge d s).pending = s.pending := by
  refine ⟨?_, ?_, ?_, ?_, ?_, ?_, ?_, ?_, ?_, ?_, ?_, ?_, ?_, ?_, ?_, ?_, ?_, ?_⟩ <;> rfl

@[simp] theorem rollerEdge_frame (d : Dir) (s : State) :
    (rollerEdge d s).sense = s.sense ∧ (rollerEdge d s).params = s.params ∧ (rollerEdge d s).held = s.held ∧
      (rollerEdge d s).freeIndex = s.freeIndex ∧ (rollerEdge d s).pending = s.pending := by
  unfold rollerEdge; simp

@[simp] theorem conditionIf_frame (given : Bool) (kind : FaultKind) (reel : Option Reel) (s : State) :
    (conditionIf given kind reel s).sense = s.sense ∧ (conditionIf given kind reel s).tach = s.tach ∧
      (conditionIf given kind reel s).params = s.params ∧ (conditionIf given kind reel s).held = s.held ∧
      (conditionIf given kind reel s).freeIndex = s.freeIndex ∧ (conditionIf given kind reel s).pending = s.pending := by
  unfold conditionIf; (repeat' split) <;> simp

@[simp] theorem speedSample_frame (s : State) :
    (speedSample s).sense = s.sense ∧ (speedSample s).params = s.params ∧ (speedSample s).held = s.held ∧
      (speedSample s).freeIndex = s.freeIndex ∧ (speedSample s).pending = s.pending := by
  unfold speedSample; simp

@[simp] theorem presetTo_frame (value : Int) (s : State) :
    (presetTo value s).sense = s.sense ∧ (presetTo value s).packs = s.packs ∧ (presetTo value s).servo = s.servo ∧
      (presetTo value s).capstan = s.capstan ∧ (presetTo value s).planner = s.planner ∧ (presetTo value s).params = s.params ∧
      (presetTo value s).locate = s.locate ∧ (presetTo value s).chase = s.chase ∧ (presetTo value s).fault = s.fault ∧
      (presetTo value s).survey = s.survey ∧ (presetTo value s).held = s.held ∧ (presetTo value s).freeIndex = s.freeIndex ∧
      (presetTo value s).pending = s.pending := by
  unfold presetTo; simp

@[simp] theorem answerPresetPosition_frame (value : Int) (s : State) :
    (answerPresetPosition value s).state.sense = s.sense ∧ (answerPresetPosition value s).state.packs = s.packs ∧
      (answerPresetPosition value s).state.servo = s.servo ∧ (answerPresetPosition value s).state.capstan = s.capstan ∧
      (answerPresetPosition value s).state.planner = s.planner ∧ (answerPresetPosition value s).state.params = s.params ∧
      (answerPresetPosition value s).state.locate = s.locate ∧ (answerPresetPosition value s).state.chase = s.chase ∧
      (answerPresetPosition value s).state.fault = s.fault ∧ (answerPresetPosition value s).state.survey = s.survey ∧
      (answerPresetPosition value s).state.held = s.held ∧ (answerPresetPosition value s).state.freeIndex = s.freeIndex ∧
      (answerPresetPosition value s).state.pending = s.pending := by
  unfold answerPresetPosition; (repeat' split) <;> simp

@[simp] theorem fixTo_frame (value : Int) (s : State) :
    (fixTo value s).sense = s.sense ∧ (fixTo value s).params = s.params ∧ (fixTo value s).held = s.held ∧
      (fixTo value s).freeIndex = s.freeIndex ∧ (fixTo value s).pending = s.pending := by
  unfold fixTo; (repeat' split) <;> (try dsimp only) <;> (repeat' split) <;> simp

@[simp] theorem answerPositionFix_frame (value : Int) (window : Nat) (s : State) :
    (answerPositionFix value window s).state.sense = s.sense ∧ (answerPositionFix value window s).state.params = s.params ∧
      (answerPositionFix value window s).state.held = s.held ∧ (answerPositionFix value window s).state.freeIndex = s.freeIndex ∧
      (answerPositionFix value window s).state.pending = s.pending := by
  unfold answerPositionFix; (repeat' split) <;> (try dsimp only) <;> (repeat' split) <;> simp

/-! ## Machine/ZonesCues.lean -/

@[simp] theorem storeZone_frame (index : Nat) (z : ZoneEntry) (s : State) :
    (storeZone index z s).sense = s.sense ∧ (storeZone index z s).tach = s.tach ∧ (storeZone index z s).params = s.params ∧
      (storeZone index z s).held = s.held ∧ (storeZone index z s).freeIndex = s.freeIndex ∧
      (storeZone index z s).pending = s.pending := by
  unfold storeZone; (repeat' split) <;> simp

@[simp] theorem answerSetZone_frame (index : Nat) (enabled : Nat) (base : Int) (k : Nat) (limit : Nat) (scale : Nat)
    (dirs : Nat) (inhibit : Nat) (s : State) :
    (answerSetZone index enabled base k limit scale dirs inhibit s).state.sense = s.sense ∧
      (answerSetZone index enabled base k limit scale dirs inhibit s).state.tach = s.tach ∧
      (answerSetZone index enabled base k limit scale dirs inhibit s).state.params = s.params ∧
      (answerSetZone index enabled base k limit scale dirs inhibit s).state.held = s.held ∧
      (answerSetZone index enabled base k limit scale dirs inhibit s).state.freeIndex = s.freeIndex ∧
      (answerSetZone index enabled base k limit scale dirs inhibit s).state.pending = s.pending := by
  unfold answerSetZone; (repeat' split) <;> simp

@[simp] theorem answerClearZone_frame (index : Nat) (s : State) :
    (answerClearZone index s).state.sense = s.sense ∧ (answerClearZone index s).state.tach = s.tach ∧
      (answerClearZone index s).state.params = s.params ∧ (answerClearZone index s).state.held = s.held ∧
      (answerClearZone index s).state.freeIndex = s.freeIndex ∧ (answerClearZone index s).state.pending = s.pending := by
  unfold answerClearZone; (repeat' split) <;> simp

@[simp] theorem storeBaseZone_frame (a : ZoneAttrs) (s : State) :
    (storeBaseZone a s).sense = s.sense ∧ (storeBaseZone a s).tach = s.tach ∧ (storeBaseZone a s).params = s.params ∧
      (storeBaseZone a s).held = s.held ∧ (storeBaseZone a s).freeIndex = s.freeIndex ∧
      (storeBaseZone a s).pending = s.pending := by
  unfold storeBaseZone; simp

@[simp] theorem answerSetBaseZone_frame (limit : Nat) (scale : Nat) (dirs : Nat) (inhibit : Nat) (s : State) :
    (answerSetBaseZone limit scale dirs inhibit s).state.sense = s.sense ∧
      (answerSetBaseZone limit scale dirs inhibit s).state.tach = s.tach ∧
      (answerSetBaseZone limit scale dirs inhibit s).state.params = s.params ∧
      (answerSetBaseZone limit scale dirs inhibit s).state.held = s.held ∧
      (answerSetBaseZone limit scale dirs inhibit s).state.freeIndex = s.freeIndex ∧
      (answerSetBaseZone limit scale dirs inhibit s).state.pending = s.pending := by
  unfold answerSetBaseZone; (repeat' split) <;> simp

@[simp] theorem answerGetZones_frame (s : State) :
    (answerGetZones s).state.sense = s.sense ∧ (answerGetZones s).state.tach = s.tach ∧ (answerGetZones s).state.packs = s.packs ∧
      (answerGetZones s).state.servo = s.servo ∧ (answerGetZones s).state.capstan = s.capstan ∧
      (answerGetZones s).state.planner = s.planner ∧ (answerGetZones s).state.zones = s.zones ∧
      (answerGetZones s).state.cues = s.cues ∧ (answerGetZones s).state.params = s.params ∧
      (answerGetZones s).state.locate = s.locate ∧ (answerGetZones s).state.chase = s.chase ∧
      (answerGetZones s).state.fault = s.fault ∧ (answerGetZones s).state.monitor = s.monitor ∧
      (answerGetZones s).state.survey = s.survey ∧ (answerGetZones s).state.link = s.link ∧
      (answerGetZones s).state.lines = s.lines ∧ (answerGetZones s).state.held = s.held ∧
      (answerGetZones s).state.freeIndex = s.freeIndex ∧ (answerGetZones s).state.pending = s.pending := by
  refine ⟨?_, ?_, ?_, ?_, ?_, ?_, ?_, ?_, ?_, ?_, ?_, ?_, ?_, ?_, ?_, ?_, ?_, ?_, ?_⟩ <;> rfl

@[simp] theorem answerAddCue_frame (id : Nat) (position : Int) (kind : Nat) (label : List Byte) (s : State) :
    (answerAddCue id position kind label s).state.sense = s.sense ∧ (answerAddCue id position kind label s).state.tach = s.tach ∧
      (answerAddCue id position kind label s).state.packs = s.packs ∧
      (answerAddCue id position kind label s).state.servo = s.servo ∧
      (answerAddCue id position kind label s).state.capstan = s.capstan ∧
      (answerAddCue id position kind label s).state.planner = s.planner ∧
      (answerAddCue id position kind label s).state.zones = s.zones ∧
      (answerAddCue id position kind label s).state.params = s.params ∧
      (answerAddCue id position kind label s).state.locate = s.locate ∧
      (answerAddCue id position kind label s).state.chase = s.chase ∧
      (answerAddCue id position kind label s).state.fault = s.fault ∧
      (answerAddCue id position kind label s).state.monitor = s.monitor ∧
      (answerAddCue id position kind label s).state.survey = s.survey ∧
      (answerAddCue id position kind label s).state.link = s.link ∧
      (answerAddCue id position kind label s).state.lines = s.lines ∧
      (answerAddCue id position kind label s).state.held = s.held ∧
      (answerAddCue id position kind label s).state.freeIndex = s.freeIndex ∧
      (answerAddCue id position kind label s).state.pending = s.pending := by
  unfold answerAddCue; (repeat' split) <;> simp

@[simp] theorem deleteCue_frame (id : Nat) (s : State) :
    (deleteCue id s).sense = s.sense ∧ (deleteCue id s).tach = s.tach ∧ (deleteCue id s).packs = s.packs ∧
      (deleteCue id s).servo = s.servo ∧ (deleteCue id s).capstan = s.capstan ∧ (deleteCue id s).zones = s.zones ∧
      (deleteCue id s).params = s.params ∧ (deleteCue id s).locate = s.locate ∧ (deleteCue id s).chase = s.chase ∧
      (deleteCue id s).fault = s.fault ∧ (deleteCue id s).monitor = s.monitor ∧ (deleteCue id s).survey = s.survey ∧
      (deleteCue id s).link = s.link ∧ (deleteCue id s).lines = s.lines ∧ (deleteCue id s).held = s.held ∧
      (deleteCue id s).freeIndex = s.freeIndex ∧ (deleteCue id s).pending = s.pending := by
  refine ⟨?_, ?_, ?_, ?_, ?_, ?_, ?_, ?_, ?_, ?_, ?_, ?_, ?_, ?_, ?_, ?_, ?_⟩ <;> rfl

@[simp] theorem answerDeleteCue_frame (id : Nat) (s : State) :
    (answerDeleteCue id s).state.sense = s.sense ∧ (answerDeleteCue id s).state.tach = s.tach ∧
      (answerDeleteCue id s).state.packs = s.packs ∧ (answerDeleteCue id s).state.servo = s.servo ∧
      (answerDeleteCue id s).state.capstan = s.capstan ∧ (answerDeleteCue id s).state.zones = s.zones ∧
      (answerDeleteCue id s).state.params = s.params ∧ (answerDeleteCue id s).state.locate = s.locate ∧
      (answerDeleteCue id s).state.chase = s.chase ∧ (answerDeleteCue id s).state.fault = s.fault ∧
      (answerDeleteCue id s).state.monitor = s.monitor ∧ (answerDeleteCue id s).state.survey = s.survey ∧
      (answerDeleteCue id s).state.link = s.link ∧ (answerDeleteCue id s).state.lines = s.lines ∧
      (answerDeleteCue id s).state.held = s.held ∧ (answerDeleteCue id s).state.freeIndex = s.freeIndex ∧
      (answerDeleteCue id s).state.pending = s.pending := by
  unfold answerDeleteCue; (repeat' split) <;> simp

@[simp] theorem answerClearCues_frame (s : State) :
    (answerClearCues s).state.sense = s.sense ∧ (answerClearCues s).state.tach = s.tach ∧
      (answerClearCues s).state.packs = s.packs ∧ (answerClearCues s).state.servo = s.servo ∧
      (answerClearCues s).state.capstan = s.capstan ∧ (answerClearCues s).state.zones = s.zones ∧
      (answerClearCues s).state.params = s.params ∧ (answerClearCues s).state.locate = s.locate ∧
      (answerClearCues s).state.chase = s.chase ∧ (answerClearCues s).state.fault = s.fault ∧
      (answerClearCues s).state.monitor = s.monitor ∧ (answerClearCues s).state.survey = s.survey ∧
      (answerClearCues s).state.link = s.link ∧ (answerClearCues s).state.lines = s.lines ∧
      (answerClearCues s).state.held = s.held ∧ (answerClearCues s).state.freeIndex = s.freeIndex ∧
      (answerClearCues s).state.pending = s.pending := by
  refine ⟨?_, ?_, ?_, ?_, ?_, ?_, ?_, ?_, ?_, ?_, ?_, ?_, ?_, ?_, ?_, ?_, ?_⟩
  · unfold answerClearCues; dsimp only; simp; rw [foldl_keeps (fun t => t.sense) _ (by intros; simp)]
  · unfold answerClearCues; dsimp only; simp; rw [foldl_keeps (fun t => t.tach) _ (by intros; simp)]
  · unfold answerClearCues; dsimp only; simp; rw [foldl_keeps (fun t => t.packs) _ (by intros; simp)]
  · unfold answerClearCues; dsimp only; simp; rw [foldl_keeps (fun t => t.servo) _ (by intros; simp)]
  · unfold answerClearCues; dsimp only; simp; rw [foldl_keeps (fun t => t.capstan) _ (by intros; simp)]
  · unfold answerClearCues; dsimp only; simp; rw [foldl_keeps (fun t => t.zones) _ (by intros; simp)]
  · unfold answerClearCues; dsimp only; simp; rw [foldl_keeps (fun t => t.params) _ (by intros; simp)]
  · unfold answerClearCues; dsimp only; simp; rw [foldl_keeps (fun t => t.locate) _ (by intros; simp)]
  · unfold answerClearCues; dsimp only; simp; rw [foldl_keeps (fun t => t.chase) _ (by intros; simp)]
  · unfold answerClearCues; dsimp only; simp; rw [foldl_keeps (fun t => t.fault) _ (by intros; simp)]
  · unfold answerClearCues; dsimp only; simp; rw [foldl_keeps (fun t => t.monitor) _ (by intros; simp)]
  · unfold answerClearCues; dsimp only; simp; rw [foldl_keeps (fun t => t.survey) _ (by intros; simp)]
  · unfold answerClearCues; dsimp only; simp; rw [foldl_keeps (fun t => t.link) _ (by intros; simp)]
  · unfold answerClearCues; dsimp only; simp; rw [foldl_keeps (fun t => t.lines) _ (by intros; simp)]
  · unfold answerClearCues; dsimp only; simp; rw [foldl_keeps (fun t => t.held) _ (by intros; simp)]
  · unfold answerClearCues; dsimp only; simp; rw [foldl_keeps (fun t => t.freeIndex) _ (by intros; simp)]
  · unfold answerClearCues; dsimp only; simp; rw [foldl_keeps (fun t => t.pending) _ (by intros; simp)]

@[simp] theorem answerGetCues_frame (start : Nat) (count : Nat) (s : State) :
    (answerGetCues start count s).state.sense = s.sense ∧ (answerGetCues start count s).state.tach = s.tach ∧
      (answerGetCues start count s).state.packs = s.packs ∧ (answerGetCues start count s).state.servo = s.servo ∧
      (answerGetCues start count s).state.capstan = s.capstan ∧ (answerGetCues start count s).state.planner = s.planner ∧
      (answerGetCues start count s).state.zones = s.zones ∧ (answerGetCues start count s).state.cues = s.cues ∧
      (answerGetCues start count s).state.params = s.params ∧ (answerGetCues start count s).state.locate = s.locate ∧
      (answerGetCues start count s).state.chase = s.chase ∧ (answerGetCues start count s).state.fault = s.fault ∧
      (answerGetCues start count s).state.monitor = s.monitor ∧ (answerGetCues start count s).state.survey = s.survey ∧
      (answerGetCues start count s).state.link = s.link ∧ (answerGetCues start count s).state.lines = s.lines ∧
      (answerGetCues start count s).state.held = s.held ∧ (answerGetCues start count s).state.freeIndex = s.freeIndex ∧
      (answerGetCues start count s).state.pending = s.pending := by
  unfold answerGetCues; (repeat' split) <;> simp

end Sys2Proof.Machine
end

