-- ==== Sys2Proof/Laws/FramesDrives.lean ====
section
/-! SUPPORT. Laws/FramesDrives.lean: what each operation of Machine/CapstanLoop.lean, Machine/Profile.lean, Machine/PlannerStep.lean, Machine/Motion.lean, Machine/Monitor.lean, Machine/Servo.lean leaves as it was,
one lemma an operation: every field it never writes reads the same after it. -/

namespace Sys2Proof.Machine

/-! ## Machine/CapstanLoop.lean -/

@[simp] theorem lockNotice_frame (t : LockChange) (s : State) :
    (lockNotice t s).sense = s.sense ∧ (lockNotice t s).tach = s.tach ∧ (lockNotice t s).packs = s.packs ∧
      (lockNotice t s).servo = s.servo ∧ (lockNotice t s).capstan = s.capstan ∧ (lockNotice t s).planner = s.planner ∧
      (lockNotice t s).zones = s.zones ∧ (lockNotice t s).cues = s.cues ∧ (lockNotice t s).params = s.params ∧
      (lockNotice t s).locate = s.locate ∧ (lockNotice t s).chase = s.chase ∧ (lockNotice t s).fault = s.fault ∧
      (lockNotice t s).monitor = s.monitor ∧ (lockNotice t s).survey = s.survey ∧ (lockNotice t s).lines = s.lines ∧
      (lockNotice t s).held = s.held ∧ (lockNotice t s).freeIndex = s.freeIndex ∧ (lockNotice t s).pending = s.pending := by
  unfold lockNotice; (repeat' split) <;> simp

@[simp] theorem lockGained_frame (s : State) :
    (lockGained s).sense = s.sense ∧ (lockGained s).tach = s.tach ∧ (lockGained s).packs = s.packs ∧
      (lockGained s).servo = s.servo ∧ (lockGained s).planner = s.planner ∧ (lockGained s).zones = s.zones ∧
      (lockGained s).cues = s.cues ∧ (lockGained s).params = s.params ∧ (lockGained s).locate = s.locate ∧
      (lockGained s).chase = s.chase ∧ (lockGained s).fault = s.fault ∧ (lockGained s).monitor = s.monitor ∧
      (lockGained s).survey = s.survey ∧ (lockGained s).lines = s.lines ∧ (lockGained s).held = s.held ∧
      (lockGained s).freeIndex = s.freeIndex ∧ (lockGained s).pending = s.pending := by
  unfold lockGained; simp

@[simp] theorem lockLost_frame (s : State) :
    (lockLost s).sense = s.sense ∧ (lockLost s).tach = s.tach ∧ (lockLost s).packs = s.packs ∧ (lockLost s).servo = s.servo ∧
      (lockLost s).planner = s.planner ∧ (lockLost s).zones = s.zones ∧ (lockLost s).cues = s.cues ∧
      (lockLost s).params = s.params ∧ (lockLost s).locate = s.locate ∧ (lockLost s).chase = s.chase ∧
      (lockLost s).fault = s.fault ∧ (lockLost s).survey = s.survey ∧ (lockLost s).lines = s.lines ∧ (lockLost s).held = s.held ∧
      (lockLost s).freeIndex = s.freeIndex ∧ (lockLost s).pending = s.pending := by
  unfold lockLost; simp

@[simp] theorem encoderEdge_frame (d : Dir) (s : State) :
    (encoderEdge d s).sense = s.sense ∧ (encoderEdge d s).tach = s.tach ∧ (encoderEdge d s).packs = s.packs ∧
      (encoderEdge d s).servo = s.servo ∧ (encoderEdge d s).planner = s.planner ∧ (encoderEdge d s).zones = s.zones ∧
      (encoderEdge d s).cues = s.cues ∧ (encoderEdge d s).params = s.params ∧ (encoderEdge d s).locate = s.locate ∧
      (encoderEdge d s).chase = s.chase ∧ (encoderEdge d s).fault = s.fault ∧ (encoderEdge d s).survey = s.survey ∧
      (encoderEdge d s).lines = s.lines ∧ (encoderEdge d s).held = s.held ∧ (encoderEdge d s).freeIndex = s.freeIndex ∧
      (encoderEdge d s).pending = s.pending := by
  unfold encoderEdge; (repeat' split) <;> (try dsimp only) <;> (repeat' split) <;> simp

@[simp] theorem capstanStalls_frame (s : State) :
    (capstanStalls s).sense = s.sense ∧ (capstanStalls s).tach = s.tach ∧ (capstanStalls s).params = s.params ∧
      (capstanStalls s).held = s.held ∧ (capstanStalls s).freeIndex = s.freeIndex ∧ (capstanStalls s).pending = s.pending := by
  unfold capstanStalls; simp

@[simp] theorem driveCapstan_frame (s : State) :
    (driveCapstan s).sense = s.sense ∧ (driveCapstan s).tach = s.tach ∧ (driveCapstan s).packs = s.packs ∧
      (driveCapstan s).servo = s.servo ∧ (driveCapstan s).planner = s.planner ∧ (driveCapstan s).zones = s.zones ∧
      (driveCapstan s).cues = s.cues ∧ (driveCapstan s).params = s.params ∧ (driveCapstan s).locate = s.locate ∧
      (driveCapstan s).chase = s.chase ∧ (driveCapstan s).fault = s.fault ∧ (driveCapstan s).monitor = s.monitor ∧
      (driveCapstan s).survey = s.survey ∧ (driveCapstan s).link = s.link ∧ (driveCapstan s).lines = s.lines ∧
      (driveCapstan s).held = s.held ∧ (driveCapstan s).pending = s.pending := by
  unfold driveCapstan; (repeat' split) <;> simp

@[simp] theorem capstanStep_frame (s : State) :
    (capstanStep s).sense = s.sense ∧ (capstanStep s).tach = s.tach ∧ (capstanStep s).params = s.params ∧
      (capstanStep s).held = s.held ∧ (capstanStep s).pending = s.pending := by
  unfold capstanStep; (repeat' split) <;> (try dsimp only) <;> (repeat' split) <;> simp

@[simp] theorem refNotice_frame (cause : RefCause) (s : State) :
    (refNotice cause s).sense = s.sense ∧ (refNotice cause s).tach = s.tach ∧ (refNotice cause s).packs = s.packs ∧
      (refNotice cause s).servo = s.servo ∧ (refNotice cause s).capstan = s.capstan ∧ (refNotice cause s).planner = s.planner ∧
      (refNotice cause s).zones = s.zones ∧ (refNotice cause s).cues = s.cues ∧ (refNotice cause s).params = s.params ∧
      (refNotice cause s).locate = s.locate ∧ (refNotice cause s).chase = s.chase ∧ (refNotice cause s).fault = s.fault ∧
      (refNotice cause s).monitor = s.monitor ∧ (refNotice cause s).survey = s.survey ∧ (refNotice cause s).lines = s.lines ∧
      (refNotice cause s).held = s.held ∧ (refNotice cause s).freeIndex = s.freeIndex ∧
      (refNotice cause s).pending = s.pending := by
  refine ⟨?_, ?_, ?_, ?_, ?_, ?_, ?_, ?_, ?_, ?_, ?_, ?_, ?_, ?_, ?_, ?_, ?_, ?_⟩ <;> rfl

@[simp] theorem referenceReturns_frame (s : State) :
    (referenceReturns s).sense = s.sense ∧ (referenceReturns s).tach = s.tach ∧ (referenceReturns s).packs = s.packs ∧
      (referenceReturns s).servo = s.servo ∧ (referenceReturns s).planner = s.planner ∧ (referenceReturns s).zones = s.zones ∧
      (referenceReturns s).cues = s.cues ∧ (referenceReturns s).params = s.params ∧ (referenceReturns s).locate = s.locate ∧
      (referenceReturns s).chase = s.chase ∧ (referenceReturns s).fault = s.fault ∧ (referenceReturns s).monitor = s.monitor ∧
      (referenceReturns s).survey = s.survey ∧ (referenceReturns s).lines = s.lines ∧ (referenceReturns s).held = s.held ∧
      (referenceReturns s).freeIndex = s.freeIndex ∧ (referenceReturns s).pending = s.pending := by
  refine ⟨?_, ?_, ?_, ?_, ?_, ?_, ?_, ?_, ?_, ?_, ?_, ?_, ?_, ?_, ?_, ?_, ?_⟩ <;> rfl

@[simp] theorem referenceEdge_frame (period : Nat) (s : State) :
    (referenceEdge period s).sense = s.sense ∧ (referenceEdge period s).tach = s.tach ∧ (referenceEdge period s).packs = s.packs ∧
      (referenceEdge period s).servo = s.servo ∧ (referenceEdge period s).planner = s.planner ∧
      (referenceEdge period s).zones = s.zones ∧ (referenceEdge period s).cues = s.cues ∧
      (referenceEdge period s).params = s.params ∧ (referenceEdge period s).locate = s.locate ∧
      (referenceEdge period s).chase = s.chase ∧ (referenceEdge period s).fault = s.fault ∧
      (referenceEdge period s).monitor = s.monitor ∧ (referenceEdge period s).survey = s.survey ∧
      (referenceEdge period s).lines = s.lines ∧ (referenceEdge period s).held = s.held ∧
      (referenceEdge period s).freeIndex = s.freeIndex ∧ (referenceEdge period s).pending = s.pending := by
  unfold referenceEdge; (repeat' split) <;> (try dsimp only) <;> (repeat' split) <;> simp

@[simp] theorem referenceLost_frame (s : State) :
    (referenceLost s).sense = s.sense ∧ (referenceLost s).tach = s.tach ∧ (referenceLost s).packs = s.packs ∧
      (referenceLost s).servo = s.servo ∧ (referenceLost s).planner = s.planner ∧ (referenceLost s).zones = s.zones ∧
      (referenceLost s).cues = s.cues ∧ (referenceLost s).params = s.params ∧ (referenceLost s).locate = s.locate ∧
      (referenceLost s).chase = s.chase ∧ (referenceLost s).fault = s.fault ∧ (referenceLost s).survey = s.survey ∧
      (referenceLost s).lines = s.lines ∧ (referenceLost s).held = s.held ∧ (referenceLost s).freeIndex = s.freeIndex ∧
      (referenceLost s).pending = s.pending := by
  unfold referenceLost; simp

@[simp] theorem selectReference_frame (source : RefSource) (m : Nat) (d : Nat) (s : State) :
    (selectReference source m d s).sense = s.sense ∧ (selectReference source m d s).tach = s.tach ∧
      (selectReference source m d s).packs = s.packs ∧ (selectReference source m d s).servo = s.servo ∧
      (selectReference source m d s).planner = s.planner ∧ (selectReference source m d s).zones = s.zones ∧
      (selectReference source m d s).cues = s.cues ∧ (selectReference source m d s).params = s.params ∧
      (selectReference source m d s).locate = s.locate ∧ (selectReference source m d s).chase = s.chase ∧
      (selectReference source m d s).fault = s.fault ∧ (selectReference source m d s).monitor = s.monitor ∧
      (selectReference source m d s).survey = s.survey ∧ (selectReference source m d s).lines = s.lines ∧
      (selectReference source m d s).held = s.held ∧ (selectReference source m d s).freeIndex = s.freeIndex ∧
      (selectReference source m d s).pending = s.pending := by
  refine ⟨?_, ?_, ?_, ?_, ?_, ?_, ?_, ?_, ?_, ?_, ?_, ?_, ?_, ?_, ?_, ?_, ?_⟩ <;> rfl

@[simp] theorem answerSetReference_frame (source : Nat) (m : Nat) (d : Nat) (s : State) :
    (answerSetReference source m d s).state.sense = s.sense ∧ (answerSetReference source m d s).state.tach = s.tach ∧
      (answerSetReference source m d s).state.packs = s.packs ∧ (answerSetReference source m d s).state.servo = s.servo ∧
      (answerSetReference source m d s).state.planner = s.planner ∧ (answerSetReference source m d s).state.zones = s.zones ∧
      (answerSetReference source m d s).state.cues = s.cues ∧ (answerSetReference source m d s).state.params = s.params ∧
      (answerSetReference source m d s).state.locate = s.locate ∧ (answerSetReference source m d s).state.chase = s.chase ∧
      (answerSetReference source m d s).state.fault = s.fault ∧ (answerSetReference source m d s).state.monitor = s.monitor ∧
      (answerSetReference source m d s).state.survey = s.survey ∧ (answerSetReference source m d s).state.lines = s.lines ∧
      (answerSetReference source m d s).state.held = s.held ∧ (answerSetReference source m d s).state.freeIndex = s.freeIndex ∧
      (answerSetReference source m d s).state.pending = s.pending := by
  unfold answerSetReference; (repeat' split) <;> simp

@[simp] theorem answerSetCapstan_frame (apply : Nat) (ell : Nat) (w : Nat) (rho : Nat) (s : State) :
    (answerSetCapstan apply ell w rho s).state.sense = s.sense ∧ (answerSetCapstan apply ell w rho s).state.tach = s.tach ∧
      (answerSetCapstan apply ell w rho s).state.packs = s.packs ∧ (answerSetCapstan apply ell w rho s).state.servo = s.servo ∧
      (answerSetCapstan apply ell w rho s).state.planner = s.planner ∧
      (answerSetCapstan apply ell w rho s).state.zones = s.zones ∧ (answerSetCapstan apply ell w rho s).state.cues = s.cues ∧
      (answerSetCapstan apply ell w rho s).state.params = s.params ∧
      (answerSetCapstan apply ell w rho s).state.locate = s.locate ∧ (answerSetCapstan apply ell w rho s).state.chase = s.chase ∧
      (answerSetCapstan apply ell w rho s).state.fault = s.fault ∧
      (answerSetCapstan apply ell w rho s).state.monitor = s.monitor ∧
      (answerSetCapstan apply ell w rho s).state.survey = s.survey ∧ (answerSetCapstan apply ell w rho s).state.link = s.link ∧
      (answerSetCapstan apply ell w rho s).state.lines = s.lines ∧ (answerSetCapstan apply ell w rho s).state.held = s.held ∧
      (answerSetCapstan apply ell w rho s).state.freeIndex = s.freeIndex ∧
      (answerSetCapstan apply ell w rho s).state.pending = s.pending := by
  unfold answerSetCapstan; (repeat' split) <;> simp

@[simp] theorem answerSetVarispeed_frame (vsHost : Int) (s : State) :
    (answerSetVarispeed vsHost s).state.sense = s.sense ∧ (answerSetVarispeed vsHost s).state.tach = s.tach ∧
      (answerSetVarispeed vsHost s).state.packs = s.packs ∧ (answerSetVarispeed vsHost s).state.servo = s.servo ∧
      (answerSetVarispeed vsHost s).state.planner = s.planner ∧ (answerSetVarispeed vsHost s).state.zones = s.zones ∧
      (answerSetVarispeed vsHost s).state.cues = s.cues ∧ (answerSetVarispeed vsHost s).state.params = s.params ∧
      (answerSetVarispeed vsHost s).state.locate = s.locate ∧ (answerSetVarispeed vsHost s).state.chase = s.chase ∧
      (answerSetVarispeed vsHost s).state.fault = s.fault ∧ (answerSetVarispeed vsHost s).state.monitor = s.monitor ∧
      (answerSetVarispeed vsHost s).state.survey = s.survey ∧ (answerSetVarispeed vsHost s).state.link = s.link ∧
      (answerSetVarispeed vsHost s).state.lines = s.lines ∧ (answerSetVarispeed vsHost s).state.held = s.held ∧
      (answerSetVarispeed vsHost s).state.freeIndex = s.freeIndex ∧ (answerSetVarispeed vsHost s).state.pending = s.pending := by
  refine ⟨?_, ?_, ?_, ?_, ?_, ?_, ?_, ?_, ?_, ?_, ?_, ?_, ?_, ?_, ?_, ?_, ?_, ?_⟩ <;> rfl

@[simp] theorem answerSetLockNotice_frame (choice : Nat) (s : State) :
    (answerSetLockNotice choice s).state.sense = s.sense ∧ (answerSetLockNotice choice s).state.tach = s.tach ∧
      (answerSetLockNotice choice s).state.packs = s.packs ∧ (answerSetLockNotice choice s).state.servo = s.servo ∧
      (answerSetLockNotice choice s).state.planner = s.planner ∧ (answerSetLockNotice choice s).state.zones = s.zones ∧
      (answerSetLockNotice choice s).state.cues = s.cues ∧ (answerSetLockNotice choice s).state.params = s.params ∧
      (answerSetLockNotice choice s).state.locate = s.locate ∧ (answerSetLockNotice choice s).state.chase = s.chase ∧
      (answerSetLockNotice choice s).state.fault = s.fault ∧ (answerSetLockNotice choice s).state.monitor = s.monitor ∧
      (answerSetLockNotice choice s).state.survey = s.survey ∧ (answerSetLockNotice choice s).state.link = s.link ∧
      (answerSetLockNotice choice s).state.lines = s.lines ∧ (answerSetLockNotice choice s).state.held = s.held ∧
      (answerSetLockNotice choice s).state.freeIndex = s.freeIndex ∧
      (answerSetLockNotice choice s).state.pending = s.pending := by
  unfold answerSetLockNotice; (repeat' split) <;> simp

/-! ## Machine/Profile.lean -/

@[simp] theorem publishRef_frame (v : Int) (a : Int) (s : State) :
    (publishRef v a s).sense = s.sense ∧ (publishRef v a s).tach = s.tach ∧ (publishRef v a s).packs = s.packs ∧
      (publishRef v a s).servo = s.servo ∧ (publishRef v a s).capstan = s.capstan ∧ (publishRef v a s).zones = s.zones ∧
      (publishRef v a s).cues = s.cues ∧ (publishRef v a s).params = s.params ∧ (publishRef v a s).locate = s.locate ∧
      (publishRef v a s).chase = s.chase ∧ (publishRef v a s).fault = s.fault ∧ (publishRef v a s).monitor = s.monitor ∧
      (publishRef v a s).survey = s.survey ∧ (publishRef v a s).link = s.link ∧ (publishRef v a s).lines = s.lines ∧
      (publishRef v a s).held = s.held ∧ (publishRef v a s).freeIndex = s.freeIndex ∧ (publishRef v a s).pending = s.pending := by
  refine ⟨?_, ?_, ?_, ?_, ?_, ?_, ?_, ?_, ?_, ?_, ?_, ?_, ?_, ?_, ?_, ?_, ?_, ?_⟩ <;> rfl

@[simp] theorem holdRef_frame (s : State) :
    (holdRef s).sense = s.sense ∧ (holdRef s).tach = s.tach ∧ (holdRef s).packs = s.packs ∧ (holdRef s).servo = s.servo ∧
      (holdRef s).capstan = s.capstan ∧ (holdRef s).zones = s.zones ∧ (holdRef s).cues = s.cues ∧ (holdRef s).params = s.params ∧
      (holdRef s).locate = s.locate ∧ (holdRef s).chase = s.chase ∧ (holdRef s).fault = s.fault ∧
      (holdRef s).monitor = s.monitor ∧ (holdRef s).survey = s.survey ∧ (holdRef s).link = s.link ∧ (holdRef s).lines = s.lines ∧
      (holdRef s).held = s.held ∧ (holdRef s).freeIndex = s.freeIndex ∧ (holdRef s).pending = s.pending := by
  refine ⟨?_, ?_, ?_, ?_, ?_, ?_, ?_, ?_, ?_, ?_, ?_, ?_, ?_, ?_, ?_, ?_, ?_, ?_⟩ <;> rfl

@[simp] theorem followCapstan_frame (s : State) :
    (followCapstan s).sense = s.sense ∧ (followCapstan s).tach = s.tach ∧ (followCapstan s).packs = s.packs ∧
      (followCapstan s).servo = s.servo ∧ (followCapstan s).capstan = s.capstan ∧ (followCapstan s).zones = s.zones ∧
      (followCapstan s).cues = s.cues ∧ (followCapstan s).params = s.params ∧ (followCapstan s).locate = s.locate ∧
      (followCapstan s).chase = s.chase ∧ (followCapstan s).fault = s.fault ∧ (followCapstan s).monitor = s.monitor ∧
      (followCapstan s).survey = s.survey ∧ (followCapstan s).link = s.link ∧ (followCapstan s).lines = s.lines ∧
      (followCapstan s).held = s.held ∧ (followCapstan s).freeIndex = s.freeIndex ∧ (followCapstan s).pending = s.pending := by
  refine ⟨?_, ?_, ?_, ?_, ?_, ?_, ?_, ?_, ?_, ?_, ?_, ?_, ?_, ?_, ?_, ?_, ?_, ?_⟩ <;> rfl

@[simp] theorem dropPlayCues_frame (s : State) :
    (dropPlayCues s).sense = s.sense ∧ (dropPlayCues s).tach = s.tach ∧ (dropPlayCues s).packs = s.packs ∧
      (dropPlayCues s).servo = s.servo ∧ (dropPlayCues s).capstan = s.capstan ∧ (dropPlayCues s).zones = s.zones ∧
      (dropPlayCues s).params = s.params ∧ (dropPlayCues s).locate = s.locate ∧ (dropPlayCues s).chase = s.chase ∧
      (dropPlayCues s).fault = s.fault ∧ (dropPlayCues s).monitor = s.monitor ∧ (dropPlayCues s).survey = s.survey ∧
      (dropPlayCues s).link = s.link ∧ (dropPlayCues s).lines = s.lines ∧ (dropPlayCues s).held = s.held ∧
      (dropPlayCues s).freeIndex = s.freeIndex ∧ (dropPlayCues s).pending = s.pending := by
  refine ⟨?_, ?_, ?_, ?_, ?_, ?_, ?_, ?_, ?_, ?_, ?_, ?_, ?_, ?_, ?_, ?_, ?_⟩
  · unfold dropPlayCues; rw [foldl_keeps (fun t => t.sense) _ (by intros; simp)]
  · unfold dropPlayCues; rw [foldl_keeps (fun t => t.tach) _ (by intros; simp)]
  · unfold dropPlayCues; rw [foldl_keeps (fun t => t.packs) _ (by intros; simp)]
  · unfold dropPlayCues; rw [foldl_keeps (fun t => t.servo) _ (by intros; simp)]
  · unfold dropPlayCues; rw [foldl_keeps (fun t => t.capstan) _ (by intros; simp)]
  · unfold dropPlayCues; rw [foldl_keeps (fun t => t.zones) _ (by intros; simp)]
  · unfold dropPlayCues; rw [foldl_keeps (fun t => t.params) _ (by intros; simp)]
  · unfold dropPlayCues; rw [foldl_keeps (fun t => t.locate) _ (by intros; simp)]
  · unfold dropPlayCues; rw [foldl_keeps (fun t => t.chase) _ (by intros; simp)]
  · unfold dropPlayCues; rw [foldl_keeps (fun t => t.fault) _ (by intros; simp)]
  · unfold dropPlayCues; rw [foldl_keeps (fun t => t.monitor) _ (by intros; simp)]
  · unfold dropPlayCues; rw [foldl_keeps (fun t => t.survey) _ (by intros; simp)]
  · unfold dropPlayCues; rw [foldl_keeps (fun t => t.link) _ (by intros; simp)]
  · unfold dropPlayCues; rw [foldl_keeps (fun t => t.lines) _ (by intros; simp)]
  · unfold dropPlayCues; rw [foldl_keeps (fun t => t.held) _ (by intros; simp)]
  · unfold dropPlayCues; rw [foldl_keeps (fun t => t.freeIndex) _ (by intros; simp)]
  · unfold dropPlayCues; rw [foldl_keeps (fun t => t.pending) _ (by intros; simp)]

@[simp] theorem checkPlayStops_frame (s : State) :
    (checkPlayStops s).sense = s.sense ∧ (checkPlayStops s).tach = s.tach ∧ (checkPlayStops s).params = s.params ∧
      (checkPlayStops s).held = s.held ∧ (checkPlayStops s).freeIndex = s.freeIndex ∧ (checkPlayStops s).pending = s.pending := by
  unfold checkPlayStops; (repeat' split) <;> (try dsimp only) <;> (repeat' split) <;> simp

/-! ## Machine/PlannerStep.lean -/

@[simp] theorem startProbe_frame (s : State) :
    (startProbe s).sense = s.sense ∧ (startProbe s).tach = s.tach ∧ (startProbe s).servo = s.servo ∧
      (startProbe s).capstan = s.capstan ∧ (startProbe s).zones = s.zones ∧ (startProbe s).cues = s.cues ∧
      (startProbe s).params = s.params ∧ (startProbe s).locate = s.locate ∧ (startProbe s).chase = s.chase ∧
      (startProbe s).monitor = s.monitor ∧ (startProbe s).survey = s.survey ∧ (startProbe s).held = s.held ∧
      (startProbe s).freeIndex = s.freeIndex ∧ (startProbe s).pending = s.pending := by
  unfold startProbe; simp

@[simp] theorem takeUpStep_frame (s : State) :
    (takeUpStep s).sense = s.sense ∧ (takeUpStep s).tach = s.tach ∧ (takeUpStep s).capstan = s.capstan ∧
      (takeUpStep s).zones = s.zones ∧ (takeUpStep s).cues = s.cues ∧ (takeUpStep s).params = s.params ∧
      (takeUpStep s).locate = s.locate ∧ (takeUpStep s).chase = s.chase ∧ (takeUpStep s).monitor = s.monitor ∧
      (takeUpStep s).survey = s.survey ∧ (takeUpStep s).held = s.held ∧ (takeUpStep s).freeIndex = s.freeIndex ∧
      (takeUpStep s).pending = s.pending := by
  unfold takeUpStep; (repeat' split) <;> (try dsimp only) <;> (repeat' split) <;> simp

@[simp] theorem matchStep_frame (s : State) :
    (matchStep s).sense = s.sense ∧ (matchStep s).tach = s.tach ∧ (matchStep s).params = s.params ∧ (matchStep s).held = s.held ∧
      (matchStep s).freeIndex = s.freeIndex ∧ (matchStep s).pending = s.pending := by
  unfold matchStep; (repeat' split) <;> simp

@[simp] theorem rampDownStep_frame (s : State) :
    (rampDownStep s).sense = s.sense ∧ (rampDownStep s).tach = s.tach ∧ (rampDownStep s).packs = s.packs ∧
      (rampDownStep s).servo = s.servo ∧ (rampDownStep s).capstan = s.capstan ∧ (rampDownStep s).zones = s.zones ∧
      (rampDownStep s).cues = s.cues ∧ (rampDownStep s).params = s.params ∧ (rampDownStep s).locate = s.locate ∧
      (rampDownStep s).chase = s.chase ∧ (rampDownStep s).monitor = s.monitor ∧ (rampDownStep s).survey = s.survey ∧
      (rampDownStep s).held = s.held ∧ (rampDownStep s).freeIndex = s.freeIndex ∧ (rampDownStep s).pending = s.pending := by
  unfold rampDownStep; (repeat' split) <;> simp

@[simp] theorem enterBraked_frame (s : State) :
    (enterBraked s).sense = s.sense ∧ (enterBraked s).tach = s.tach ∧ (enterBraked s).packs = s.packs ∧
      (enterBraked s).servo = s.servo ∧ (enterBraked s).capstan = s.capstan ∧ (enterBraked s).zones = s.zones ∧
      (enterBraked s).cues = s.cues ∧ (enterBraked s).params = s.params ∧ (enterBraked s).locate = s.locate ∧
      (enterBraked s).chase = s.chase ∧ (enterBraked s).monitor = s.monitor ∧ (enterBraked s).survey = s.survey ∧
      (enterBraked s).held = s.held ∧ (enterBraked s).freeIndex = s.freeIndex ∧ (enterBraked s).pending = s.pending := by
  unfold enterBraked; simp

@[simp] theorem brakingStep_frame (s : State) :
    (brakingStep s).sense = s.sense ∧ (brakingStep s).tach = s.tach ∧ (brakingStep s).packs = s.packs ∧
      (brakingStep s).servo = s.servo ∧ (brakingStep s).capstan = s.capstan ∧ (brakingStep s).zones = s.zones ∧
      (brakingStep s).cues = s.cues ∧ (brakingStep s).params = s.params ∧ (brakingStep s).locate = s.locate ∧
      (brakingStep s).chase = s.chase ∧ (brakingStep s).monitor = s.monitor ∧ (brakingStep s).survey = s.survey ∧
      (brakingStep s).held = s.held ∧ (brakingStep s).freeIndex = s.freeIndex ∧ (brakingStep s).pending = s.pending := by
  unfold brakingStep; (repeat' split) <;> simp

@[simp] theorem postAutoStop_frame (s : State) :
    (postAutoStop s).sense = s.sense ∧ (postAutoStop s).tach = s.tach ∧ (postAutoStop s).packs = s.packs ∧
      (postAutoStop s).servo = s.servo ∧ (postAutoStop s).capstan = s.capstan ∧ (postAutoStop s).planner = s.planner ∧
      (postAutoStop s).zones = s.zones ∧ (postAutoStop s).params = s.params ∧ (postAutoStop s).locate = s.locate ∧
      (postAutoStop s).chase = s.chase ∧ (postAutoStop s).fault = s.fault ∧ (postAutoStop s).monitor = s.monitor ∧
      (postAutoStop s).survey = s.survey ∧ (postAutoStop s).lines = s.lines ∧ (postAutoStop s).held = s.held ∧
      (postAutoStop s).freeIndex = s.freeIndex ∧ (postAutoStop s).pending = s.pending := by
  unfold postAutoStop; (repeat' split) <;> simp

@[simp] theorem postZoneBlocked_frame (s : State) :
    (postZoneBlocked s).sense = s.sense ∧ (postZoneBlocked s).tach = s.tach ∧ (postZoneBlocked s).packs = s.packs ∧
      (postZoneBlocked s).servo = s.servo ∧ (postZoneBlocked s).capstan = s.capstan ∧ (postZoneBlocked s).planner = s.planner ∧
      (postZoneBlocked s).cues = s.cues ∧ (postZoneBlocked s).params = s.params ∧ (postZoneBlocked s).locate = s.locate ∧
      (postZoneBlocked s).chase = s.chase ∧ (postZoneBlocked s).fault = s.fault ∧ (postZoneBlocked s).monitor = s.monitor ∧
      (postZoneBlocked s).survey = s.survey ∧ (postZoneBlocked s).lines = s.lines ∧ (postZoneBlocked s).held = s.held ∧
      (postZoneBlocked s).freeIndex = s.freeIndex ∧ (postZoneBlocked s).pending = s.pending := by
  unfold postZoneBlocked; (repeat' split) <;> simp

@[simp] theorem endStop_frame (s : State) :
    (endStop s).sense = s.sense ∧ (endStop s).tach = s.tach ∧ (endStop s).packs = s.packs ∧ (endStop s).servo = s.servo ∧
      (endStop s).capstan = s.capstan ∧ (endStop s).params = s.params ∧ (endStop s).locate = s.locate ∧
      (endStop s).chase = s.chase ∧ (endStop s).monitor = s.monitor ∧ (endStop s).survey = s.survey ∧ (endStop s).held = s.held ∧
      (endStop s).freeIndex = s.freeIndex ∧ (endStop s).pending = s.pending := by
  unfold endStop; (repeat' split) <;> simp

@[simp] theorem plannerEvents_frame (s : State) :
    (plannerEvents s).sense = s.sense ∧ (plannerEvents s).tach = s.tach ∧ (plannerEvents s).params = s.params ∧
      (plannerEvents s).held = s.held ∧ (plannerEvents s).freeIndex = s.freeIndex ∧ (plannerEvents s).pending = s.pending := by
  unfold plannerEvents; (repeat' split) <;> (try dsimp only) <;> (repeat' split) <;> simp

@[simp] theorem windEnd_frame (s : State) :
    (windEnd s).sense = s.sense ∧ (windEnd s).tach = s.tach ∧ (windEnd s).packs = s.packs ∧ (windEnd s).servo = s.servo ∧
      (windEnd s).capstan = s.capstan ∧ (windEnd s).zones = s.zones ∧ (windEnd s).params = s.params ∧
      (windEnd s).locate = s.locate ∧ (windEnd s).chase = s.chase ∧ (windEnd s).monitor = s.monitor ∧
      (windEnd s).survey = s.survey ∧ (windEnd s).held = s.held ∧ (windEnd s).freeIndex = s.freeIndex ∧
      (windEnd s).pending = s.pending := by
  unfold windEnd; (repeat' split) <;> simp

@[simp] theorem startTakeUp_frame (s : State) :
    (startTakeUp s).sense = s.sense ∧ (startTakeUp s).tach = s.tach ∧ (startTakeUp s).params = s.params ∧
      (startTakeUp s).held = s.held ∧ (startTakeUp s).freeIndex = s.freeIndex ∧ (startTakeUp s).pending = s.pending := by
  unfold startTakeUp; simp

@[simp] theorem brakeComplete_frame (s : State) :
    (brakeComplete s).sense = s.sense ∧ (brakeComplete s).tach = s.tach ∧ (brakeComplete s).params = s.params ∧
      (brakeComplete s).held = s.held ∧ (brakeComplete s).freeIndex = s.freeIndex ∧ (brakeComplete s).pending = s.pending := by
  unfold brakeComplete; (repeat' split) <;> simp

@[simp] theorem enterMatch_frame (s : State) :
    (enterMatch s).sense = s.sense ∧ (enterMatch s).tach = s.tach ∧ (enterMatch s).packs = s.packs ∧
      (enterMatch s).servo = s.servo ∧ (enterMatch s).capstan = s.capstan ∧ (enterMatch s).planner = s.planner ∧
      (enterMatch s).zones = s.zones ∧ (enterMatch s).cues = s.cues ∧ (enterMatch s).params = s.params ∧
      (enterMatch s).locate = s.locate ∧ (enterMatch s).fault = s.fault ∧ (enterMatch s).monitor = s.monitor ∧
      (enterMatch s).survey = s.survey ∧ (enterMatch s).held = s.held ∧ (enterMatch s).freeIndex = s.freeIndex ∧
      (enterMatch s).pending = s.pending := by
  refine ⟨?_, ?_, ?_, ?_, ?_, ?_, ?_, ?_, ?_, ?_, ?_, ?_, ?_, ?_, ?_, ?_⟩ <;> rfl

@[simp] theorem pinchComplete_frame (s : State) :
    (pinchComplete s).sense = s.sense ∧ (pinchComplete s).tach = s.tach ∧ (pinchComplete s).packs = s.packs ∧
      (pinchComplete s).servo = s.servo ∧ (pinchComplete s).capstan = s.capstan ∧ (pinchComplete s).zones = s.zones ∧
      (pinchComplete s).cues = s.cues ∧ (pinchComplete s).params = s.params ∧ (pinchComplete s).locate = s.locate ∧
      (pinchComplete s).monitor = s.monitor ∧ (pinchComplete s).survey = s.survey ∧ (pinchComplete s).held = s.held ∧
      (pinchComplete s).freeIndex = s.freeIndex ∧ (pinchComplete s).pending = s.pending := by
  unfold pinchComplete; (repeat' split) <;> simp

/-! ## Machine/Motion.lean -/

@[simp] theorem startLoad_frame (s : State) :
    (startLoad s).sense = s.sense ∧ (startLoad s).tach = s.tach ∧ (startLoad s).packs = s.packs ∧ (startLoad s).servo = s.servo ∧
      (startLoad s).capstan = s.capstan ∧ (startLoad s).zones = s.zones ∧ (startLoad s).cues = s.cues ∧
      (startLoad s).params = s.params ∧ (startLoad s).locate = s.locate ∧ (startLoad s).chase = s.chase ∧
      (startLoad s).monitor = s.monitor ∧ (startLoad s).survey = s.survey ∧ (startLoad s).held = s.held ∧
      (startLoad s).freeIndex = s.freeIndex ∧ (startLoad s).pending = s.pending := by
  unfold startLoad; simp

@[simp] theorem answerLoad_frame (s : State) :
    (answerLoad s).state.sense = s.sense ∧ (answerLoad s).state.tach = s.tach ∧ (answerLoad s).state.packs = s.packs ∧
      (answerLoad s).state.servo = s.servo ∧ (answerLoad s).state.capstan = s.capstan ∧ (answerLoad s).state.zones = s.zones ∧
      (answerLoad s).state.cues = s.cues ∧ (answerLoad s).state.params = s.params ∧ (answerLoad s).state.locate = s.locate ∧
      (answerLoad s).state.chase = s.chase ∧ (answerLoad s).state.monitor = s.monitor ∧ (answerLoad s).state.survey = s.survey ∧
      (answerLoad s).state.held = s.held ∧ (answerLoad s).state.freeIndex = s.freeIndex ∧
      (answerLoad s).state.pending = s.pending := by
  unfold answerLoad; (repeat' split) <;> simp

@[simp] theorem startUnload_frame (s : State) :
    (startUnload s).sense = s.sense ∧ (startUnload s).tach = s.tach ∧ (startUnload s).packs = s.packs ∧
      (startUnload s).servo = s.servo ∧ (startUnload s).zones = s.zones ∧ (startUnload s).cues = s.cues ∧
      (startUnload s).params = s.params ∧ (startUnload s).locate = s.locate ∧ (startUnload s).chase = s.chase ∧
      (startUnload s).monitor = s.monitor ∧ (startUnload s).survey = s.survey ∧ (startUnload s).held = s.held ∧
      (startUnload s).freeIndex = s.freeIndex ∧ (startUnload s).pending = s.pending := by
  unfold startUnload; simp

@[simp] theorem answerUnload_frame (s : State) :
    (answerUnload s).state.sense = s.sense ∧ (answerUnload s).state.tach = s.tach ∧ (answerUnload s).state.zones = s.zones ∧
      (answerUnload s).state.params = s.params ∧ (answerUnload s).state.locate = s.locate ∧
      (answerUnload s).state.chase = s.chase ∧ (answerUnload s).state.monitor = s.monitor ∧
      (answerUnload s).state.survey = s.survey ∧ (answerUnload s).state.held = s.held ∧
      (answerUnload s).state.freeIndex = s.freeIndex ∧ (answerUnload s).state.pending = s.pending := by
  unfold answerUnload; (repeat' split) <;> simp

@[simp] theorem startWind_frame (goal : Int) (s : State) :
    (startWind goal s).sense = s.sense ∧ (startWind goal s).tach = s.tach ∧ (startWind goal s).packs = s.packs ∧
      (startWind goal s).servo = s.servo ∧ (startWind goal s).params = s.params ∧ (startWind goal s).held = s.held ∧
      (startWind goal s).freeIndex = s.freeIndex ∧ (startWind goal s).pending = s.pending := by
  unfold startWind; simp

@[simp] theorem answerWind_frame (speed : Int) (s : State) :
    (answerWind speed s).state.sense = s.sense ∧ (answerWind speed s).state.tach = s.tach ∧
      (answerWind speed s).state.packs = s.packs ∧ (answerWind speed s).state.servo = s.servo ∧
      (answerWind speed s).state.params = s.params ∧ (answerWind speed s).state.held = s.held ∧
      (answerWind speed s).state.freeIndex = s.freeIndex ∧ (answerWind speed s).state.pending = s.pending := by
  unfold answerWind; (repeat' split) <;> (try dsimp only) <;> (repeat' split) <;> simp

@[simp] theorem startPlay_frame (s : State) :
    (startPlay s).sense = s.sense ∧ (startPlay s).tach = s.tach ∧ (startPlay s).packs = s.packs ∧ (startPlay s).servo = s.servo ∧
      (startPlay s).params = s.params ∧ (startPlay s).held = s.held ∧ (startPlay s).freeIndex = s.freeIndex ∧
      (startPlay s).pending = s.pending := by
  unfold startPlay; simp

@[simp] theorem answerPlay_frame (s : State) :
    (answerPlay s).state.sense = s.sense ∧ (answerPlay s).state.tach = s.tach ∧ (answerPlay s).state.packs = s.packs ∧
      (answerPlay s).state.servo = s.servo ∧ (answerPlay s).state.params = s.params ∧ (answerPlay s).state.held = s.held ∧
      (answerPlay s).state.freeIndex = s.freeIndex ∧ (answerPlay s).state.pending = s.pending := by
  unfold answerPlay; (repeat' split) <;> simp

@[simp] theorem answerStop_frame (kind : Nat) (s : State) :
    (answerStop kind s).state.sense = s.sense ∧ (answerStop kind s).state.tach = s.tach ∧
      (answerStop kind s).state.params = s.params ∧ (answerStop kind s).state.held = s.held ∧
      (answerStop kind s).state.freeIndex = s.freeIndex ∧ (answerStop kind s).state.pending = s.pending := by
  unfold answerStop; (repeat' split) <;> simp

@[simp] theorem answerSetLimits_frame (apply : Nat) (vMax : Nat) (aAcc : Nat) (aDec : Nat) (guard : Nat) (s : State) :
    (answerSetLimits apply vMax aAcc aDec guard s).state.sense = s.sense ∧
      (answerSetLimits apply vMax aAcc aDec guard s).state.tach = s.tach ∧
      (answerSetLimits apply vMax aAcc aDec guard s).state.packs = s.packs ∧
      (answerSetLimits apply vMax aAcc aDec guard s).state.servo = s.servo ∧
      (answerSetLimits apply vMax aAcc aDec guard s).state.capstan = s.capstan ∧
      (answerSetLimits apply vMax aAcc aDec guard s).state.zones = s.zones ∧
      (answerSetLimits apply vMax aAcc aDec guard s).state.cues = s.cues ∧
      (answerSetLimits apply vMax aAcc aDec guard s).state.params = s.params ∧
      (answerSetLimits apply vMax aAcc aDec guard s).state.locate = s.locate ∧
      (answerSetLimits apply vMax aAcc aDec guard s).state.chase = s.chase ∧
      (answerSetLimits apply vMax aAcc aDec guard s).state.fault = s.fault ∧
      (answerSetLimits apply vMax aAcc aDec guard s).state.monitor = s.monitor ∧
      (answerSetLimits apply vMax aAcc aDec guard s).state.survey = s.survey ∧
      (answerSetLimits apply vMax aAcc aDec guard s).state.link = s.link ∧
      (answerSetLimits apply vMax aAcc aDec guard s).state.lines = s.lines ∧
      (answerSetLimits apply vMax aAcc aDec guard s).state.held = s.held ∧
      (answerSetLimits apply vMax aAcc aDec guard s).state.freeIndex = s.freeIndex ∧
      (answerSetLimits apply vMax aAcc aDec guard s).state.pending = s.pending := by
  unfold answerSetLimits; (repeat' split) <;> simp

/-! ## Machine/Monitor.lean -/

@[simp] theorem monitorSample_frame (v : SampleView) (s : State) :
    (monitorSample v s).sense = s.sense ∧ (monitorSample v s).tach = s.tach ∧ (monitorSample v s).packs = s.packs ∧
      (monitorSample v s).servo = s.servo ∧ (monitorSample v s).capstan = s.capstan ∧ (monitorSample v s).planner = s.planner ∧
      (monitorSample v s).zones = s.zones ∧ (monitorSample v s).cues = s.cues ∧ (monitorSample v s).params = s.params ∧
      (monitorSample v s).locate = s.locate ∧ (monitorSample v s).chase = s.chase ∧ (monitorSample v s).fault = s.fault ∧
      (monitorSample v s).survey = s.survey ∧ (monitorSample v s).lines = s.lines ∧ (monitorSample v s).held = s.held ∧
      (monitorSample v s).freeIndex = s.freeIndex ∧ (monitorSample v s).pending = s.pending := by
  unfold monitorSample; simp

@[simp] theorem answerSetCounter_frame (n : Nat) (apply : Nat) (event : Nat) (qualifier : Nat) (edge : Nat) (invert : Nat)
    (threshold : Nat) (ovfNotice : Nat) (enable : Nat) (s : State) :
    (answerSetCounter n apply event qualifier edge invert threshold ovfNotice enable s).state.sense = s.sense ∧
      (answerSetCounter n apply event qualifier edge invert threshold ovfNotice enable s).state.tach = s.tach ∧
      (answerSetCounter n apply event qualifier edge invert threshold ovfNotice enable s).state.packs = s.packs ∧
      (answerSetCounter n apply event qualifier edge invert threshold ovfNotice enable s).state.servo = s.servo ∧
      (answerSetCounter n apply event qualifier edge invert threshold ovfNotice enable s).state.capstan = s.capstan ∧
      (answerSetCounter n apply event qualifier edge invert threshold ovfNotice enable s).state.planner = s.planner ∧
      (answerSetCounter n apply event qualifier edge invert threshold ovfNotice enable s).state.zones = s.zones ∧
      (answerSetCounter n apply event qualifier edge invert threshold ovfNotice enable s).state.cues = s.cues ∧
      (answerSetCounter n apply event qualifier edge invert threshold ovfNotice enable s).state.params = s.params ∧
      (answerSetCounter n apply event qualifier edge invert threshold ovfNotice enable s).state.locate = s.locate ∧
      (answerSetCounter n apply event qualifier edge invert threshold ovfNotice enable s).state.chase = s.chase ∧
      (answerSetCounter n apply event qualifier edge invert threshold ovfNotice enable s).state.fault = s.fault ∧
      (answerSetCounter n apply event qualifier edge invert threshold ovfNotice enable s).state.survey = s.survey ∧
      (answerSetCounter n apply event qualifier edge invert threshold ovfNotice enable s).state.link = s.link ∧
      (answerSetCounter n apply event qualifier edge invert threshold ovfNotice enable s).state.lines = s.lines ∧
      (answerSetCounter n apply event qualifier edge invert threshold ovfNotice enable s).state.held = s.held ∧
      (answerSetCounter n apply event qualifier edge invert threshold ovfNotice enable s).state.freeIndex = s.freeIndex ∧
      (answerSetCounter n apply event qualifier edge invert threshold ovfNotice enable s).state.pending = s.pending := by
  unfold answerSetCounter; (repeat' split) <;> simp

@[simp] theorem zeroCounters_frame (s : State) :
    (zeroCounters s).sense = s.sense ∧ (zeroCounters s).tach = s.tach ∧ (zeroCounters s).packs = s.packs ∧
      (zeroCounters s).servo = s.servo ∧ (zeroCounters s).capstan = s.capstan ∧ (zeroCounters s).planner = s.planner ∧
      (zeroCounters s).zones = s.zones ∧ (zeroCounters s).cues = s.cues ∧ (zeroCounters s).params = s.params ∧
      (zeroCounters s).locate = s.locate ∧ (zeroCounters s).chase = s.chase ∧ (zeroCounters s).fault = s.fault ∧
      (zeroCounters s).survey = s.survey ∧ (zeroCounters s).link = s.link ∧ (zeroCounters s).lines = s.lines ∧
      (zeroCounters s).held = s.held ∧ (zeroCounters s).freeIndex = s.freeIndex ∧ (zeroCounters s).pending = s.pending := by
  refine ⟨?_, ?_, ?_, ?_, ?_, ?_, ?_, ?_, ?_, ?_, ?_, ?_, ?_, ?_, ?_, ?_, ?_, ?_⟩ <;> rfl

@[simp] theorem answerFreeze_frame (s : State) :
    (answerFreeze s).state.sense = s.sense ∧ (answerFreeze s).state.tach = s.tach ∧ (answerFreeze s).state.packs = s.packs ∧
      (answerFreeze s).state.servo = s.servo ∧ (answerFreeze s).state.capstan = s.capstan ∧
      (answerFreeze s).state.planner = s.planner ∧ (answerFreeze s).state.zones = s.zones ∧ (answerFreeze s).state.cues = s.cues ∧
      (answerFreeze s).state.params = s.params ∧ (answerFreeze s).state.locate = s.locate ∧
      (answerFreeze s).state.chase = s.chase ∧ (answerFreeze s).state.fault = s.fault ∧ (answerFreeze s).state.survey = s.survey ∧
      (answerFreeze s).state.link = s.link ∧ (answerFreeze s).state.lines = s.lines ∧ (answerFreeze s).state.held = s.held ∧
      (answerFreeze s).state.freeIndex = s.freeIndex ∧ (answerFreeze s).state.pending = s.pending := by
  refine ⟨?_, ?_, ?_, ?_, ?_, ?_, ?_, ?_, ?_, ?_, ?_, ?_, ?_, ?_, ?_, ?_, ?_, ?_⟩ <;> rfl

@[simp] theorem answerUnfreeze_frame (s : State) :
    (answerUnfreeze s).state.sense = s.sense ∧ (answerUnfreeze s).state.tach = s.tach ∧ (answerUnfreeze s).state.packs = s.packs ∧
      (answerUnfreeze s).state.servo = s.servo ∧ (answerUnfreeze s).state.capstan = s.capstan ∧
      (answerUnfreeze s).state.planner = s.planner ∧ (answerUnfreeze s).state.zones = s.zones ∧
      (answerUnfreeze s).state.cues = s.cues ∧ (answerUnfreeze s).state.params = s.params ∧
      (answerUnfreeze s).state.locate = s.locate ∧ (answerUnfreeze s).state.chase = s.chase ∧
      (answerUnfreeze s).state.fault = s.fault ∧ (answerUnfreeze s).state.survey = s.survey ∧
      (answerUnfreeze s).state.link = s.link ∧ (answerUnfreeze s).state.lines = s.lines ∧ (answerUnfreeze s).state.held = s.held ∧
      (answerUnfreeze s).state.freeIndex = s.freeIndex ∧ (answerUnfreeze s).state.pending = s.pending := by
  unfold answerUnfreeze; (repeat' split) <;> simp

@[simp] theorem answerResetCounters_frame (s : State) :
    (answerResetCounters s).state.sense = s.sense ∧ (answerResetCounters s).state.tach = s.tach ∧
      (answerResetCounters s).state.packs = s.packs ∧ (answerResetCounters s).state.servo = s.servo ∧
      (answerResetCounters s).state.capstan = s.capstan ∧ (answerResetCounters s).state.planner = s.planner ∧
      (answerResetCounters s).state.zones = s.zones ∧ (answerResetCounters s).state.cues = s.cues ∧
      (answerResetCounters s).state.params = s.params ∧ (answerResetCounters s).state.locate = s.locate ∧
      (answerResetCounters s).state.chase = s.chase ∧ (answerResetCounters s).state.fault = s.fault ∧
      (answerResetCounters s).state.survey = s.survey ∧ (answerResetCounters s).state.link = s.link ∧
      (answerResetCounters s).state.lines = s.lines ∧ (answerResetCounters s).state.held = s.held ∧
      (answerResetCounters s).state.freeIndex = s.freeIndex ∧ (answerResetCounters s).state.pending = s.pending := by
  refine ⟨?_, ?_, ?_, ?_, ?_, ?_, ?_, ?_, ?_, ?_, ?_, ?_, ?_, ?_, ?_, ?_, ?_, ?_⟩ <;> rfl

@[simp] theorem answerReadCounters_frame (clear : Nat) (s : State) :
    (answerReadCounters clear s).state.sense = s.sense ∧ (answerReadCounters clear s).state.tach = s.tach ∧
      (answerReadCounters clear s).state.packs = s.packs ∧ (answerReadCounters clear s).state.servo = s.servo ∧
      (answerReadCounters clear s).state.capstan = s.capstan ∧ (answerReadCounters clear s).state.planner = s.planner ∧
      (answerReadCounters clear s).state.zones = s.zones ∧ (answerReadCounters clear s).state.cues = s.cues ∧
      (answerReadCounters clear s).state.params = s.params ∧ (answerReadCounters clear s).state.locate = s.locate ∧
      (answerReadCounters clear s).state.chase = s.chase ∧ (answerReadCounters clear s).state.fault = s.fault ∧
      (answerReadCounters clear s).state.survey = s.survey ∧ (answerReadCounters clear s).state.link = s.link ∧
      (answerReadCounters clear s).state.lines = s.lines ∧ (answerReadCounters clear s).state.held = s.held ∧
      (answerReadCounters clear s).state.freeIndex = s.freeIndex ∧ (answerReadCounters clear s).state.pending = s.pending := by
  unfold answerReadCounters; (repeat' split) <;> simp

/-! ## Machine/Servo.lean -/

@[simp] theorem sampleServo_frame (s : State) :
    (sampleServo s).sense = s.sense ∧ (sampleServo s).tach = s.tach ∧ (sampleServo s).packs = s.packs ∧
      (sampleServo s).capstan = s.capstan ∧ (sampleServo s).planner = s.planner ∧ (sampleServo s).zones = s.zones ∧
      (sampleServo s).cues = s.cues ∧ (sampleServo s).params = s.params ∧ (sampleServo s).locate = s.locate ∧
      (sampleServo s).chase = s.chase ∧ (sampleServo s).fault = s.fault ∧ (sampleServo s).monitor = s.monitor ∧
      (sampleServo s).survey = s.survey ∧ (sampleServo s).link = s.link ∧ (sampleServo s).lines = s.lines ∧
      (sampleServo s).held = s.held ∧ (sampleServo s).freeIndex = s.freeIndex ∧ (sampleServo s).pending = s.pending := by
  refine ⟨?_, ?_, ?_, ?_, ?_, ?_, ?_, ?_, ?_, ?_, ?_, ?_, ?_, ?_, ?_, ?_, ?_, ?_⟩ <;> rfl

@[simp] theorem latchTension_frame (s : State) :
    (latchTension s).tach = s.tach ∧ (latchTension s).packs = s.packs ∧ (latchTension s).servo = s.servo ∧
      (latchTension s).capstan = s.capstan ∧ (latchTension s).planner = s.planner ∧ (latchTension s).zones = s.zones ∧
      (latchTension s).cues = s.cues ∧ (latchTension s).params = s.params ∧ (latchTension s).locate = s.locate ∧
      (latchTension s).chase = s.chase ∧ (latchTension s).fault = s.fault ∧ (latchTension s).monitor = s.monitor ∧
      (latchTension s).survey = s.survey ∧ (latchTension s).link = s.link ∧ (latchTension s).lines = s.lines ∧
      (latchTension s).held = s.held ∧ (latchTension s).freeIndex = s.freeIndex ∧ (latchTension s).pending = s.pending := by
  refine ⟨?_, ?_, ?_, ?_, ?_, ?_, ?_, ?_, ?_, ?_, ?_, ?_, ?_, ?_, ?_, ?_, ?_, ?_⟩ <;> rfl

@[simp] theorem reelConditions_frame (r : Reel) (x : ReelServo) (s : State) :
    (reelConditions r x s).sense = s.sense ∧ (reelConditions r x s).tach = s.tach ∧ (reelConditions r x s).params = s.params ∧
      (reelConditions r x s).held = s.held ∧ (reelConditions r x s).freeIndex = s.freeIndex ∧
      (reelConditions r x s).pending = s.pending := by
  unfold reelConditions; (repeat' split) <;> (try dsimp only) <;> (repeat' split) <;> simp

@[simp] theorem giveConditions_frame (s : State) :
    (giveConditions s).sense = s.sense ∧ (giveConditions s).tach = s.tach ∧ (giveConditions s).params = s.params ∧
      (giveConditions s).held = s.held ∧ (giveConditions s).freeIndex = s.freeIndex ∧ (giveConditions s).pending = s.pending := by
  unfold giveConditions; simp

@[simp] theorem setDriveState_frame (reduced : Bool) (s : State) :
    (setDriveState reduced s).sense = s.sense ∧ (setDriveState reduced s).tach = s.tach ∧
      (setDriveState reduced s).packs = s.packs ∧ (setDriveState reduced s).capstan = s.capstan ∧
      (setDriveState reduced s).zones = s.zones ∧ (setDriveState reduced s).cues = s.cues ∧
      (setDriveState reduced s).params = s.params ∧ (setDriveState reduced s).locate = s.locate ∧
      (setDriveState reduced s).chase = s.chase ∧ (setDriveState reduced s).fault = s.fault ∧
      (setDriveState reduced s).monitor = s.monitor ∧ (setDriveState reduced s).survey = s.survey ∧
      (setDriveState reduced s).lines = s.lines ∧ (setDriveState reduced s).held = s.held ∧
      (setDriveState reduced s).freeIndex = s.freeIndex ∧ (setDriveState reduced s).pending = s.pending := by
  refine ⟨?_, ?_, ?_, ?_, ?_, ?_, ?_, ?_, ?_, ?_, ?_, ?_, ?_, ?_, ?_, ?_⟩ <;> rfl

@[simp] theorem driveReduced_frame (s : State) :
    (driveReduced s).sense = s.sense ∧ (driveReduced s).tach = s.tach ∧ (driveReduced s).packs = s.packs ∧
      (driveReduced s).capstan = s.capstan ∧ (driveReduced s).zones = s.zones ∧ (driveReduced s).cues = s.cues ∧
      (driveReduced s).params = s.params ∧ (driveReduced s).locate = s.locate ∧ (driveReduced s).chase = s.chase ∧
      (driveReduced s).fault = s.fault ∧ (driveReduced s).monitor = s.monitor ∧ (driveReduced s).survey = s.survey ∧
      (driveReduced s).lines = s.lines ∧ (driveReduced s).held = s.held ∧ (driveReduced s).freeIndex = s.freeIndex ∧
      (driveReduced s).pending = s.pending := by
  unfold driveReduced; (repeat' split) <;> simp

@[simp] theorem escalatePowerFail_frame (s : State) :
    (escalatePowerFail s).sense = s.sense ∧ (escalatePowerFail s).tach = s.tach ∧ (escalatePowerFail s).params = s.params ∧
      (escalatePowerFail s).held = s.held ∧ (escalatePowerFail s).freeIndex = s.freeIndex ∧
      (escalatePowerFail s).pending = s.pending := by
  unfold escalatePowerFail; (repeat' split) <;> simp

@[simp] theorem recoveryExpires_frame (s : State) :
    (recoveryExpires s).sense = s.sense ∧ (recoveryExpires s).tach = s.tach ∧ (recoveryExpires s).packs = s.packs ∧
      (recoveryExpires s).capstan = s.capstan ∧ (recoveryExpires s).zones = s.zones ∧ (recoveryExpires s).cues = s.cues ∧
      (recoveryExpires s).params = s.params ∧ (recoveryExpires s).locate = s.locate ∧ (recoveryExpires s).chase = s.chase ∧
      (recoveryExpires s).fault = s.fault ∧ (recoveryExpires s).monitor = s.monitor ∧ (recoveryExpires s).survey = s.survey ∧
      (recoveryExpires s).lines = s.lines ∧ (recoveryExpires s).held = s.held ∧ (recoveryExpires s).freeIndex = s.freeIndex ∧
      (recoveryExpires s).pending = s.pending := by
  unfold recoveryExpires; (repeat' split) <;> simp

@[simp] theorem storeNominal_frame (t : Nat) (s : State) :
    (storeNominal t s).sense = s.sense ∧ (storeNominal t s).tach = s.tach ∧ (storeNominal t s).servo = s.servo ∧
      (storeNominal t s).capstan = s.capstan ∧ (storeNominal t s).zones = s.zones ∧ (storeNominal t s).cues = s.cues ∧
      (storeNominal t s).params = s.params ∧ (storeNominal t s).locate = s.locate ∧ (storeNominal t s).chase = s.chase ∧
      (storeNominal t s).fault = s.fault ∧ (storeNominal t s).monitor = s.monitor ∧ (storeNominal t s).survey = s.survey ∧
      (storeNominal t s).link = s.link ∧ (storeNominal t s).lines = s.lines ∧ (storeNominal t s).held = s.held ∧
      (storeNominal t s).freeIndex = s.freeIndex ∧ (storeNominal t s).pending = s.pending := by
  unfold storeNominal; (repeat' split) <;> simp

@[simp] theorem answerSetTension_frame (tension : Nat) (s : State) :
    (answerSetTension tension s).state.sense = s.sense ∧ (answerSetTension tension s).state.tach = s.tach ∧
      (answerSetTension tension s).state.servo = s.servo ∧ (answerSetTension tension s).state.capstan = s.capstan ∧
      (answerSetTension tension s).state.zones = s.zones ∧ (answerSetTension tension s).state.cues = s.cues ∧
      (answerSetTension tension s).state.params = s.params ∧ (answerSetTension tension s).state.locate = s.locate ∧
      (answerSetTension tension s).state.chase = s.chase ∧ (answerSetTension tension s).state.fault = s.fault ∧
      (answerSetTension tension s).state.monitor = s.monitor ∧ (answerSetTension tension s).state.survey = s.survey ∧
      (answerSetTension tension s).state.link = s.link ∧ (answerSetTension tension s).state.lines = s.lines ∧
      (answerSetTension tension s).state.held = s.held ∧ (answerSetTension tension s).state.freeIndex = s.freeIndex ∧
      (answerSetTension tension s).state.pending = s.pending := by
  unfold answerSetTension; simp

@[simp] theorem answerSetGains_frame (apply : Nat) (kpS : Nat) (kiS : Nat) (iMaxS : Nat) (kpT : Nat) (kiT : Nat) (iMaxT : Nat)
    (kv : Nat) (s : State) :
    (answerSetGains apply kpS kiS iMaxS kpT kiT iMaxT kv s).state.sense = s.sense ∧
      (answerSetGains apply kpS kiS iMaxS kpT kiT iMaxT kv s).state.tach = s.tach ∧
      (answerSetGains apply kpS kiS iMaxS kpT kiT iMaxT kv s).state.packs = s.packs ∧
      (answerSetGains apply kpS kiS iMaxS kpT kiT iMaxT kv s).state.capstan = s.capstan ∧
      (answerSetGains apply kpS kiS iMaxS kpT kiT iMaxT kv s).state.planner = s.planner ∧
      (answerSetGains apply kpS kiS iMaxS kpT kiT iMaxT kv s).state.zones = s.zones ∧
      (answerSetGains apply kpS kiS iMaxS kpT kiT iMaxT kv s).state.cues = s.cues ∧
      (answerSetGains apply kpS kiS iMaxS kpT kiT iMaxT kv s).state.params = s.params ∧
      (answerSetGains apply kpS kiS iMaxS kpT kiT iMaxT kv s).state.locate = s.locate ∧
      (answerSetGains apply kpS kiS iMaxS kpT kiT iMaxT kv s).state.chase = s.chase ∧
      (answerSetGains apply kpS kiS iMaxS kpT kiT iMaxT kv s).state.fault = s.fault ∧
      (answerSetGains apply kpS kiS iMaxS kpT kiT iMaxT kv s).state.monitor = s.monitor ∧
      (answerSetGains apply kpS kiS iMaxS kpT kiT iMaxT kv s).state.survey = s.survey ∧
      (answerSetGains apply kpS kiS iMaxS kpT kiT iMaxT kv s).state.link = s.link ∧
      (answerSetGains apply kpS kiS iMaxS kpT kiT iMaxT kv s).state.lines = s.lines ∧
      (answerSetGains apply kpS kiS iMaxS kpT kiT iMaxT kv s).state.held = s.held ∧
      (answerSetGains apply kpS kiS iMaxS kpT kiT iMaxT kv s).state.freeIndex = s.freeIndex ∧
      (answerSetGains apply kpS kiS iMaxS kpT kiT iMaxT kv s).state.pending = s.pending := by
  unfold answerSetGains; (repeat' split) <;> simp

@[simp] theorem answerSetSlew_frame (slew : Nat) (s : State) :
    (answerSetSlew slew s).state.sense = s.sense ∧ (answerSetSlew slew s).state.tach = s.tach ∧
      (answerSetSlew slew s).state.packs = s.packs ∧ (answerSetSlew slew s).state.capstan = s.capstan ∧
      (answerSetSlew slew s).state.planner = s.planner ∧ (answerSetSlew slew s).state.zones = s.zones ∧
      (answerSetSlew slew s).state.cues = s.cues ∧ (answerSetSlew slew s).state.params = s.params ∧
      (answerSetSlew slew s).state.locate = s.locate ∧ (answerSetSlew slew s).state.chase = s.chase ∧
      (answerSetSlew slew s).state.fault = s.fault ∧ (answerSetSlew slew s).state.monitor = s.monitor ∧
      (answerSetSlew slew s).state.survey = s.survey ∧ (answerSetSlew slew s).state.link = s.link ∧
      (answerSetSlew slew s).state.lines = s.lines ∧ (answerSetSlew slew s).state.held = s.held ∧
      (answerSetSlew slew s).state.freeIndex = s.freeIndex ∧ (answerSetSlew slew s).state.pending = s.pending := by
  refine ⟨?_, ?_, ?_, ?_, ?_, ?_, ?_, ?_, ?_, ?_, ?_, ?_, ?_, ?_, ?_, ?_, ?_, ?_⟩ <;> rfl

/-! ## Machine/Profile.lean, what folds and steps over a mode leave -/

@[simp] theorem dropMissedCues_frame (s : State) :
    (dropMissedCues s).sense = s.sense ∧ (dropMissedCues s).tach = s.tach ∧ (dropMissedCues s).packs = s.packs ∧
      (dropMissedCues s).servo = s.servo ∧ (dropMissedCues s).capstan = s.capstan ∧ (dropMissedCues s).zones = s.zones ∧
      (dropMissedCues s).params = s.params ∧ (dropMissedCues s).locate = s.locate ∧ (dropMissedCues s).chase = s.chase ∧
      (dropMissedCues s).fault = s.fault ∧ (dropMissedCues s).monitor = s.monitor ∧ (dropMissedCues s).survey = s.survey ∧
      (dropMissedCues s).link = s.link ∧ (dropMissedCues s).lines = s.lines ∧ (dropMissedCues s).held = s.held ∧
      (dropMissedCues s).freeIndex = s.freeIndex ∧ (dropMissedCues s).pending = s.pending := by
  unfold dropMissedCues
  split
  · simp
  · refine ⟨?_, ?_, ?_, ?_, ?_, ?_, ?_, ?_, ?_, ?_, ?_, ?_, ?_, ?_, ?_, ?_, ?_⟩
    · exact foldl_keeps (fun t => t.sense) _ (by intros; simp) _ _
    · exact foldl_keeps (fun t => t.tach) _ (by intros; simp) _ _
    · exact foldl_keeps (fun t => t.packs) _ (by intros; simp) _ _
    · exact foldl_keeps (fun t => t.servo) _ (by intros; simp) _ _
    · exact foldl_keeps (fun t => t.capstan) _ (by intros; simp) _ _
    · exact foldl_keeps (fun t => t.zones) _ (by intros; simp) _ _
    · exact foldl_keeps (fun t => t.params) _ (by intros; simp) _ _
    · exact foldl_keeps (fun t => t.locate) _ (by intros; simp) _ _
    · exact foldl_keeps (fun t => t.chase) _ (by intros; simp) _ _
    · exact foldl_keeps (fun t => t.fault) _ (by intros; simp) _ _
    · exact foldl_keeps (fun t => t.monitor) _ (by intros; simp) _ _
    · exact foldl_keeps (fun t => t.survey) _ (by intros; simp) _ _
    · exact foldl_keeps (fun t => t.link) _ (by intros; simp) _ _
    · exact foldl_keeps (fun t => t.lines) _ (by intros; simp) _ _
    · exact foldl_keeps (fun t => t.held) _ (by intros; simp) _ _
    · exact foldl_keeps (fun t => t.freeIndex) _ (by intros; simp) _ _
    · exact foldl_keeps (fun t => t.pending) _ (by intros; simp) _ _

@[simp] theorem runProfile_frame (s : State) :
    (runProfile s).sense = s.sense ∧ (runProfile s).tach = s.tach ∧ (runProfile s).packs = s.packs ∧
      (runProfile s).servo = s.servo ∧ (runProfile s).capstan = s.capstan ∧ (runProfile s).zones = s.zones ∧
      (runProfile s).params = s.params ∧ (runProfile s).locate = s.locate ∧ (runProfile s).chase = s.chase ∧
      (runProfile s).fault = s.fault ∧ (runProfile s).monitor = s.monitor ∧ (runProfile s).survey = s.survey ∧
      (runProfile s).link = s.link ∧ (runProfile s).lines = s.lines ∧ (runProfile s).held = s.held ∧
      (runProfile s).freeIndex = s.freeIndex ∧ (runProfile s).pending = s.pending := by
  unfold runProfile; dsimp only; split <;> simp

@[simp] theorem refByPinch_frame (s : State) :
    (refByPinch s).sense = s.sense ∧ (refByPinch s).tach = s.tach ∧ (refByPinch s).packs = s.packs ∧
      (refByPinch s).servo = s.servo ∧ (refByPinch s).capstan = s.capstan ∧ (refByPinch s).zones = s.zones ∧
      (refByPinch s).params = s.params ∧ (refByPinch s).locate = s.locate ∧ (refByPinch s).chase = s.chase ∧
      (refByPinch s).fault = s.fault ∧ (refByPinch s).monitor = s.monitor ∧ (refByPinch s).survey = s.survey ∧
      (refByPinch s).link = s.link ∧ (refByPinch s).lines = s.lines ∧ (refByPinch s).held = s.held ∧
      (refByPinch s).freeIndex = s.freeIndex ∧ (refByPinch s).pending = s.pending := by
  unfold refByPinch; split <;> simp

@[simp] theorem moveRef_frame (s : State) :
    (moveRef s).sense = s.sense ∧ (moveRef s).tach = s.tach ∧ (moveRef s).packs = s.packs ∧ (moveRef s).servo = s.servo ∧
      (moveRef s).capstan = s.capstan ∧ (moveRef s).params = s.params ∧ (moveRef s).locate = s.locate ∧
      (moveRef s).chase = s.chase ∧ (moveRef s).monitor = s.monitor ∧ (moveRef s).survey = s.survey ∧ (moveRef s).held = s.held ∧
      (moveRef s).freeIndex = s.freeIndex ∧ (moveRef s).pending = s.pending := by
  unfold moveRef; (repeat' split) <;> (try dsimp only) <;> (repeat' split) <;> simp

/-- Taking up the cues changes the planner's two memories, in WIND and PLAY, and nothing else. -/
theorem noteCues_eq (s : State) :
    noteCues s = s ∨
      noteCues s = s.onPlanner fun p => { p with inForce := autoStops s.cues.list, seen := (playCues s).map Cue.key } := by
  unfold noteCues; split <;> simp

@[simp] theorem noteCues_frame (s : State) :
    (noteCues s).sense = s.sense ∧ (noteCues s).tach = s.tach ∧ (noteCues s).packs = s.packs ∧ (noteCues s).servo = s.servo ∧
      (noteCues s).capstan = s.capstan ∧ (noteCues s).zones = s.zones ∧ (noteCues s).cues = s.cues ∧
      (noteCues s).params = s.params ∧ (noteCues s).locate = s.locate ∧ (noteCues s).chase = s.chase ∧
      (noteCues s).fault = s.fault ∧ (noteCues s).monitor = s.monitor ∧ (noteCues s).survey = s.survey ∧
      (noteCues s).link = s.link ∧ (noteCues s).lines = s.lines ∧ (noteCues s).held = s.held ∧
      (noteCues s).freeIndex = s.freeIndex ∧ (noteCues s).pending = s.pending := by
  obtain h | h := noteCues_eq s <;> rw [h] <;> simp

@[simp] theorem plannerStep_frame (s : State) :
    (plannerStep s).sense = s.sense ∧ (plannerStep s).tach = s.tach ∧ (plannerStep s).params = s.params ∧
      (plannerStep s).held = s.held ∧ (plannerStep s).freeIndex = s.freeIndex ∧ (plannerStep s).pending = s.pending := by
  unfold plannerStep; simp

end Sys2Proof.Machine
end

