-- ==== Sys2Proof/Laws/FramesUnits.lean ====
section
/-! SUPPORT. Laws/FramesUnits.lean: what each operation of Machine/Locate.lean, Machine/Survey.lean, Machine/Chase.lean, Machine/SampleStep.lean, Machine/Faults.lean leaves as it was,
one lemma an operation: every field it never writes reads the same after it. -/

namespace Sys2Proof.Machine

/-- The state a step of a locate leaves, whether it goes on or ends. -/
def LocateResult.outState : LocateResult → State
  | .goesOn s => s
  | .ends _ s => s

@[simp] theorem LocateResult.outState_goesOn (s : State) : (LocateResult.goesOn s).outState = s := rfl

@[simp] theorem LocateResult.outState_ends (o : LocateOutcome) (s : State) : (LocateResult.ends o s).outState = s := rfl

/-! ## Machine/Locate.lean -/

@[simp] theorem publishLocate_frame (l : LocateRec) (s : State) :
    (publishLocate l s).sense = s.sense ∧ (publishLocate l s).tach = s.tach ∧ (publishLocate l s).packs = s.packs ∧
      (publishLocate l s).servo = s.servo ∧ (publishLocate l s).capstan = s.capstan ∧ (publishLocate l s).zones = s.zones ∧
      (publishLocate l s).cues = s.cues ∧ (publishLocate l s).params = s.params ∧ (publishLocate l s).chase = s.chase ∧
      (publishLocate l s).fault = s.fault ∧ (publishLocate l s).monitor = s.monitor ∧ (publishLocate l s).survey = s.survey ∧
      (publishLocate l s).link = s.link ∧ (publishLocate l s).lines = s.lines ∧ (publishLocate l s).held = s.held ∧
      (publishLocate l s).freeIndex = s.freeIndex ∧ (publishLocate l s).pending = s.pending := by
  refine ⟨?_, ?_, ?_, ?_, ?_, ?_, ?_, ?_, ?_, ?_, ?_, ?_, ?_, ?_, ?_, ?_, ?_⟩ <;> rfl

@[simp] theorem beginLocate_frame (owner : LocateOwner) (target : Int) (cueId : Option Nat) (thenPlay : Bool) (preroll : Nat)
    (aim : Int) (s : State) :
    (beginLocate owner target cueId thenPlay preroll aim s).sense = s.sense ∧
      (beginLocate owner target cueId thenPlay preroll aim s).tach = s.tach ∧
      (beginLocate owner target cueId thenPlay preroll aim s).packs = s.packs ∧
      (beginLocate owner target cueId thenPlay preroll aim s).servo = s.servo ∧
      (beginLocate owner target cueId thenPlay preroll aim s).capstan = s.capstan ∧
      (beginLocate owner target cueId thenPlay preroll aim s).zones = s.zones ∧
      (beginLocate owner target cueId thenPlay preroll aim s).cues = s.cues ∧
      (beginLocate owner target cueId thenPlay preroll aim s).params = s.params ∧
      (beginLocate owner target cueId thenPlay preroll aim s).chase = s.chase ∧
      (beginLocate owner target cueId thenPlay preroll aim s).fault = s.fault ∧
      (beginLocate owner target cueId thenPlay preroll aim s).monitor = s.monitor ∧
      (beginLocate owner target cueId thenPlay preroll aim s).survey = s.survey ∧
      (beginLocate owner target cueId thenPlay preroll aim s).link = s.link ∧
      (beginLocate owner target cueId thenPlay preroll aim s).lines = s.lines ∧
      (beginLocate owner target cueId thenPlay preroll aim s).held = s.held ∧
      (beginLocate owner target cueId thenPlay preroll aim s).freeIndex = s.freeIndex ∧
      (beginLocate owner target cueId thenPlay preroll aim s).pending = s.pending := by
  refine ⟨?_, ?_, ?_, ?_, ?_, ?_, ?_, ?_, ?_, ?_, ?_, ?_, ?_, ?_, ?_, ?_, ?_⟩ <;> rfl

@[simp] theorem reapproach_frame (l : LocateRec) (s : State) :
    (reapproach l s).outState.sense = s.sense ∧ (reapproach l s).outState.tach = s.tach ∧
      (reapproach l s).outState.packs = s.packs ∧ (reapproach l s).outState.servo = s.servo ∧
      (reapproach l s).outState.capstan = s.capstan ∧ (reapproach l s).outState.zones = s.zones ∧
      (reapproach l s).outState.cues = s.cues ∧ (reapproach l s).outState.params = s.params ∧
      (reapproach l s).outState.chase = s.chase ∧ (reapproach l s).outState.fault = s.fault ∧
      (reapproach l s).outState.survey = s.survey ∧ (reapproach l s).outState.lines = s.lines ∧
      (reapproach l s).outState.held = s.held ∧ (reapproach l s).outState.freeIndex = s.freeIndex ∧
      (reapproach l s).outState.pending = s.pending := by
  unfold reapproach; (repeat' split) <;> (try dsimp only) <;> (repeat' split) <;> simp

@[simp] theorem creepStep_frame (l : LocateRec) (s : State) :
    (creepStep l s).outState.sense = s.sense ∧ (creepStep l s).outState.tach = s.tach ∧ (creepStep l s).outState.packs = s.packs ∧
      (creepStep l s).outState.servo = s.servo ∧ (creepStep l s).outState.capstan = s.capstan ∧
      (creepStep l s).outState.zones = s.zones ∧ (creepStep l s).outState.cues = s.cues ∧
      (creepStep l s).outState.params = s.params ∧ (creepStep l s).outState.chase = s.chase ∧
      (creepStep l s).outState.fault = s.fault ∧ (creepStep l s).outState.survey = s.survey ∧
      (creepStep l s).outState.lines = s.lines ∧ (creepStep l s).outState.held = s.held ∧
      (creepStep l s).outState.freeIndex = s.freeIndex ∧ (creepStep l s).outState.pending = s.pending := by
  unfold creepStep; (repeat' split) <;> (try dsimp only) <;> (repeat' split) <;> simp

@[simp] theorem settleStep_frame (l : LocateRec) (s : State) :
    (settleStep l s).outState.sense = s.sense ∧ (settleStep l s).outState.tach = s.tach ∧
      (settleStep l s).outState.packs = s.packs ∧ (settleStep l s).outState.servo = s.servo ∧
      (settleStep l s).outState.capstan = s.capstan ∧ (settleStep l s).outState.zones = s.zones ∧
      (settleStep l s).outState.cues = s.cues ∧ (settleStep l s).outState.params = s.params ∧
      (settleStep l s).outState.chase = s.chase ∧ (settleStep l s).outState.fault = s.fault ∧
      (settleStep l s).outState.survey = s.survey ∧ (settleStep l s).outState.lines = s.lines ∧
      (settleStep l s).outState.held = s.held ∧ (settleStep l s).outState.freeIndex = s.freeIndex ∧
      (settleStep l s).outState.pending = s.pending := by
  unfold settleStep; (repeat' split) <;> (try dsimp only) <;> (repeat' split) <;> simp

@[simp] theorem locateStep_frame (l : LocateRec) (s : State) :
    (locateStep l s).outState.sense = s.sense ∧ (locateStep l s).outState.tach = s.tach ∧
      (locateStep l s).outState.packs = s.packs ∧ (locateStep l s).outState.servo = s.servo ∧
      (locateStep l s).outState.capstan = s.capstan ∧ (locateStep l s).outState.zones = s.zones ∧
      (locateStep l s).outState.cues = s.cues ∧ (locateStep l s).outState.params = s.params ∧
      (locateStep l s).outState.chase = s.chase ∧ (locateStep l s).outState.fault = s.fault ∧
      (locateStep l s).outState.survey = s.survey ∧ (locateStep l s).outState.lines = s.lines ∧
      (locateStep l s).outState.held = s.held ∧ (locateStep l s).outState.freeIndex = s.freeIndex ∧
      (locateStep l s).outState.pending = s.pending := by
  unfold locateStep; (repeat' split) <;> simp

@[simp] theorem hostLocateEnds_frame (outcome : LocateOutcome) (s : State) :
    (hostLocateEnds outcome s).sense = s.sense ∧ (hostLocateEnds outcome s).tach = s.tach ∧
      (hostLocateEnds outcome s).params = s.params ∧ (hostLocateEnds outcome s).held = s.held ∧
      (hostLocateEnds outcome s).freeIndex = s.freeIndex ∧ (hostLocateEnds outcome s).pending = s.pending := by
  unfold hostLocateEnds; (repeat' split) <;> simp

@[simp] theorem startLocate_frame (q : LocateParams) (target : Int) (cueId : Option Nat) (thenPlay : Bool) (preroll : Nat)
    (aim : Int) (s : State) :
    (startLocate q target cueId thenPlay preroll aim s).sense = s.sense ∧
      (startLocate q target cueId thenPlay preroll aim s).tach = s.tach ∧
      (startLocate q target cueId thenPlay preroll aim s).packs = s.packs ∧
      (startLocate q target cueId thenPlay preroll aim s).servo = s.servo ∧
      (startLocate q target cueId thenPlay preroll aim s).zones = s.zones ∧
      (startLocate q target cueId thenPlay preroll aim s).monitor = s.monitor ∧
      (startLocate q target cueId thenPlay preroll aim s).survey = s.survey ∧
      (startLocate q target cueId thenPlay preroll aim s).held = s.held ∧
      (startLocate q target cueId thenPlay preroll aim s).freeIndex = s.freeIndex ∧
      (startLocate q target cueId thenPlay preroll aim s).pending = s.pending := by
  unfold startLocate; (repeat' split) <;> simp

@[simp] theorem answerLocate_frame (targetKind : Nat) (position : Int) (cueId : Nat) (thenPlay : Nat) (preroll : Nat)
    (approachDist : Nat) (approachSpeed : Nat) (tolerance : Nat) (s : State) :
    (answerLocate targetKind position cueId thenPlay preroll approachDist approachSpeed tolerance s).state.sense = s.sense ∧
      (answerLocate targetKind position cueId thenPlay preroll approachDist approachSpeed tolerance s).state.tach = s.tach ∧
      (answerLocate targetKind position cueId thenPlay preroll approachDist approachSpeed tolerance s).state.packs = s.packs ∧
      (answerLocate targetKind position cueId thenPlay preroll approachDist approachSpeed tolerance s).state.servo = s.servo ∧
      (answerLocate targetKind position cueId thenPlay preroll approachDist approachSpeed tolerance s).state.zones = s.zones ∧
      (answerLocate targetKind position cueId thenPlay preroll approachDist approachSpeed tolerance s).state.monitor = s.monitor ∧
      (answerLocate targetKind position cueId thenPlay preroll approachDist approachSpeed tolerance s).state.survey = s.survey ∧
      (answerLocate targetKind position cueId thenPlay preroll approachDist approachSpeed tolerance s).state.held = s.held ∧
      (answerLocate targetKind position cueId thenPlay preroll approachDist approachSpeed tolerance s).state.freeIndex = s.freeIndex ∧
      (answerLocate targetKind position cueId thenPlay preroll approachDist approachSpeed tolerance s).state.pending = s.pending := by
  unfold answerLocate; (repeat' split) <;> (try dsimp only) <;> (repeat' split) <;> simp

/-! ## Machine/Survey.lean -/

@[simp] theorem startSurvey_frame (q : SurveyRequest) (s : State) :
    (startSurvey q s).sense = s.sense ∧ (startSurvey q s).tach = s.tach ∧ (startSurvey q s).packs = s.packs ∧
      (startSurvey q s).servo = s.servo ∧ (startSurvey q s).capstan = s.capstan ∧ (startSurvey q s).zones = s.zones ∧
      (startSurvey q s).params = s.params ∧ (startSurvey q s).chase = s.chase ∧ (startSurvey q s).held = s.held ∧
      (startSurvey q s).freeIndex = s.freeIndex ∧ (startSurvey q s).pending = s.pending := by
  unfold startSurvey; simp

@[simp] theorem answerSurveyStart_frame (start : Int) (finish : Int) (speed : Nat) (tension : Nat) (step : Int)
    (stepCount : Nat) (dwell : Nat) (limitSource : Nat) (limitValue : Nat) (slackThr : Nat) (excThr : Nat) (fastFlag : Nat) (thres : Nat) (shift : Nat) (s : State) :
    (answerSurveyStart start finish speed tension step stepCount dwell limitSource limitValue slackThr excThr fastFlag thres shift s).state.sense = s.sense ∧
      (answerSurveyStart start finish speed tension step stepCount dwell limitSource limitValue slackThr excThr fastFlag thres shift s).state.tach = s.tach ∧
      (answerSurveyStart start finish speed tension step stepCount dwell limitSource limitValue slackThr excThr fastFlag thres shift s).state.packs = s.packs ∧
      (answerSurveyStart start finish speed tension step stepCount dwell limitSource limitValue slackThr excThr fastFlag thres shift s).state.servo = s.servo ∧
      (answerSurveyStart start finish speed tension step stepCount dwell limitSource limitValue slackThr excThr fastFlag thres shift s).state.capstan = s.capstan ∧
      (answerSurveyStart start finish speed tension step stepCount dwell limitSource limitValue slackThr excThr fastFlag thres shift s).state.zones = s.zones ∧
      (answerSurveyStart start finish speed tension step stepCount dwell limitSource limitValue slackThr excThr fastFlag thres shift s).state.params = s.params ∧
      (answerSurveyStart start finish speed tension step stepCount dwell limitSource limitValue slackThr excThr fastFlag thres shift s).state.chase = s.chase ∧
      (answerSurveyStart start finish speed tension step stepCount dwell limitSource limitValue slackThr excThr fastFlag thres shift s).state.held = s.held ∧
      (answerSurveyStart start finish speed tension step stepCount dwell limitSource limitValue slackThr excThr fastFlag thres shift s).state.freeIndex = s.freeIndex ∧
      (answerSurveyStart start finish speed tension step stepCount dwell limitSource limitValue slackThr excThr fastFlag thres shift s).state.pending = s.pending := by
  unfold answerSurveyStart; (repeat' split) <;> (try dsimp only) <;> (repeat' split) <;> simp

@[simp] theorem surveyPositioned_frame (outcome : LocateOutcome) (s : State) :
    (surveyPositioned outcome s).sense = s.sense ∧ (surveyPositioned outcome s).tach = s.tach ∧
      (surveyPositioned outcome s).params = s.params ∧ (surveyPositioned outcome s).held = s.held ∧
      (surveyPositioned outcome s).freeIndex = s.freeIndex ∧ (surveyPositioned outcome s).pending = s.pending := by
  unfold surveyPositioned; (repeat' split) <;> simp

@[simp] theorem beginStep_frame (q : SurveyRequest) (k : Nat) (s : State) :
    (beginStep q k s).sense = s.sense ∧ (beginStep q k s).tach = s.tach ∧ (beginStep q k s).packs = s.packs ∧
      (beginStep q k s).servo = s.servo ∧ (beginStep q k s).capstan = s.capstan ∧ (beginStep q k s).planner = s.planner ∧
      (beginStep q k s).zones = s.zones ∧ (beginStep q k s).cues = s.cues ∧ (beginStep q k s).params = s.params ∧
      (beginStep q k s).locate = s.locate ∧ (beginStep q k s).chase = s.chase ∧ (beginStep q k s).fault = s.fault ∧
      (beginStep q k s).monitor = s.monitor ∧ (beginStep q k s).link = s.link ∧ (beginStep q k s).lines = s.lines ∧
      (beginStep q k s).held = s.held ∧ (beginStep q k s).freeIndex = s.freeIndex ∧ (beginStep q k s).pending = s.pending := by
  refine ⟨?_, ?_, ?_, ?_, ?_, ?_, ?_, ?_, ?_, ?_, ?_, ?_, ?_, ?_, ?_, ?_, ?_, ?_⟩ <;> rfl

@[simp] theorem endStep_frame (q : SurveyRequest) (e : StepEntry) (by_ : EndedBy) (s : State) :
    (endStep q e by_ s).sense = s.sense ∧ (endStep q e by_ s).tach = s.tach ∧ (endStep q e by_ s).params = s.params ∧
      (endStep q e by_ s).held = s.held ∧ (endStep q e by_ s).freeIndex = s.freeIndex ∧
      (endStep q e by_ s).pending = s.pending := by
  unfold endStep; (repeat' split) <;> simp

@[simp] theorem countStep_frame (q : SurveyRequest) (s : State) :
    (countStep q s).sense = s.sense ∧ (countStep q s).tach = s.tach ∧ (countStep q s).params = s.params ∧
      (countStep q s).held = s.held ∧ (countStep q s).freeIndex = s.freeIndex ∧ (countStep q s).pending = s.pending := by
  unfold countStep; (repeat' split) <;> (try dsimp only) <;> (repeat' split) <;> simp

@[simp] theorem settleSample_frame (s : State) :
    (settleSample s).sense = s.sense ∧ (settleSample s).tach = s.tach ∧ (settleSample s).packs = s.packs ∧
      (settleSample s).servo = s.servo ∧ (settleSample s).capstan = s.capstan ∧ (settleSample s).planner = s.planner ∧
      (settleSample s).zones = s.zones ∧ (settleSample s).cues = s.cues ∧ (settleSample s).params = s.params ∧
      (settleSample s).locate = s.locate ∧ (settleSample s).chase = s.chase ∧ (settleSample s).fault = s.fault ∧
      (settleSample s).monitor = s.monitor ∧ (settleSample s).link = s.link ∧ (settleSample s).lines = s.lines ∧
      (settleSample s).held = s.held ∧ (settleSample s).freeIndex = s.freeIndex ∧ (settleSample s).pending = s.pending := by
  refine ⟨?_, ?_, ?_, ?_, ?_, ?_, ?_, ?_, ?_, ?_, ?_, ?_, ?_, ?_, ?_, ?_, ?_, ?_⟩ <;> rfl

@[simp] theorem rampSample_frame (q : SurveyRequest) (s : State) :
    (rampSample q s).sense = s.sense ∧ (rampSample q s).tach = s.tach ∧ (rampSample q s).packs = s.packs ∧
      (rampSample q s).servo = s.servo ∧ (rampSample q s).capstan = s.capstan ∧ (rampSample q s).planner = s.planner ∧
      (rampSample q s).zones = s.zones ∧ (rampSample q s).cues = s.cues ∧ (rampSample q s).params = s.params ∧
      (rampSample q s).locate = s.locate ∧ (rampSample q s).chase = s.chase ∧ (rampSample q s).fault = s.fault ∧
      (rampSample q s).monitor = s.monitor ∧ (rampSample q s).link = s.link ∧ (rampSample q s).lines = s.lines ∧
      (rampSample q s).held = s.held ∧ (rampSample q s).freeIndex = s.freeIndex ∧ (rampSample q s).pending = s.pending := by
  unfold rampSample; (repeat' split) <;> simp

@[simp] theorem surveySample_frame (s : State) :
    (surveySample s).sense = s.sense ∧ (surveySample s).tach = s.tach ∧ (surveySample s).params = s.params ∧
      (surveySample s).held = s.held ∧ (surveySample s).freeIndex = s.freeIndex ∧ (surveySample s).pending = s.pending := by
  unfold surveySample; (repeat' split) <;> simp

@[simp] theorem answerSurveyAbort_frame (s : State) :
    (answerSurveyAbort s).state.sense = s.sense ∧ (answerSurveyAbort s).state.tach = s.tach ∧
      (answerSurveyAbort s).state.params = s.params ∧ (answerSurveyAbort s).state.held = s.held ∧
      (answerSurveyAbort s).state.freeIndex = s.freeIndex ∧ (answerSurveyAbort s).state.pending = s.pending := by
  unfold answerSurveyAbort; (repeat' split) <;> simp

@[simp] theorem answerGetSurvey_frame (start : Nat) (count : Nat) (s : State) :
    (answerGetSurvey start count s).state.sense = s.sense ∧ (answerGetSurvey start count s).state.tach = s.tach ∧
      (answerGetSurvey start count s).state.packs = s.packs ∧ (answerGetSurvey start count s).state.servo = s.servo ∧
      (answerGetSurvey start count s).state.capstan = s.capstan ∧ (answerGetSurvey start count s).state.planner = s.planner ∧
      (answerGetSurvey start count s).state.zones = s.zones ∧ (answerGetSurvey start count s).state.cues = s.cues ∧
      (answerGetSurvey start count s).state.params = s.params ∧ (answerGetSurvey start count s).state.locate = s.locate ∧
      (answerGetSurvey start count s).state.chase = s.chase ∧ (answerGetSurvey start count s).state.fault = s.fault ∧
      (answerGetSurvey start count s).state.monitor = s.monitor ∧ (answerGetSurvey start count s).state.survey = s.survey ∧
      (answerGetSurvey start count s).state.link = s.link ∧ (answerGetSurvey start count s).state.lines = s.lines ∧
      (answerGetSurvey start count s).state.held = s.held ∧ (answerGetSurvey start count s).state.freeIndex = s.freeIndex ∧
      (answerGetSurvey start count s).state.pending = s.pending := by
  unfold answerGetSurvey; (repeat' split) <;> simp

/-! ## Machine/Chase.lean -/

@[simp] theorem chaseOwnEnd_frame (cause : ChaseCause) (s : State) :
    (chaseOwnEnd cause s).sense = s.sense ∧ (chaseOwnEnd cause s).tach = s.tach ∧ (chaseOwnEnd cause s).params = s.params ∧
      (chaseOwnEnd cause s).held = s.held ∧ (chaseOwnEnd cause s).freeIndex = s.freeIndex ∧
      (chaseOwnEnd cause s).pending = s.pending := by
  unfold chaseOwnEnd; simp

@[simp] theorem makePlan_frame (m : MasterRec) (s : State) :
    (makePlan m s).sense = s.sense ∧ (makePlan m s).tach = s.tach ∧ (makePlan m s).params = s.params ∧
      (makePlan m s).held = s.held ∧ (makePlan m s).freeIndex = s.freeIndex ∧ (makePlan m s).pending = s.pending := by
  unfold makePlan; (repeat' split) <;> (try dsimp only) <;> (repeat' split) <;> simp

@[simp] theorem haltChase_frame (cause : ChaseCause) (s : State) :
    (haltChase cause s).sense = s.sense ∧ (haltChase cause s).tach = s.tach ∧ (haltChase cause s).packs = s.packs ∧
      (haltChase cause s).servo = s.servo ∧ (haltChase cause s).zones = s.zones ∧ (haltChase cause s).cues = s.cues ∧
      (haltChase cause s).params = s.params ∧ (haltChase cause s).locate = s.locate ∧ (haltChase cause s).fault = s.fault ∧
      (haltChase cause s).monitor = s.monitor ∧ (haltChase cause s).survey = s.survey ∧ (haltChase cause s).held = s.held ∧
      (haltChase cause s).freeIndex = s.freeIndex ∧ (haltChase cause s).pending = s.pending := by
  unfold haltChase; simp

@[simp] theorem park_frame (s : State) :
    (park s).sense = s.sense ∧ (park s).tach = s.tach ∧ (park s).packs = s.packs ∧ (park s).servo = s.servo ∧
      (park s).capstan = s.capstan ∧ (park s).zones = s.zones ∧ (park s).cues = s.cues ∧ (park s).params = s.params ∧
      (park s).locate = s.locate ∧ (park s).fault = s.fault ∧ (park s).monitor = s.monitor ∧ (park s).survey = s.survey ∧
      (park s).held = s.held ∧ (park s).freeIndex = s.freeIndex ∧ (park s).pending = s.pending := by
  refine ⟨?_, ?_, ?_, ?_, ?_, ?_, ?_, ?_, ?_, ?_, ?_, ?_, ?_, ?_, ?_⟩ <;> rfl

@[simp] theorem doubleLead_frame (m : MasterRec) (s : State) :
    (doubleLead m s).sense = s.sense ∧ (doubleLead m s).tach = s.tach ∧ (doubleLead m s).params = s.params ∧
      (doubleLead m s).held = s.held ∧ (doubleLead m s).freeIndex = s.freeIndex ∧ (doubleLead m s).pending = s.pending := by
  unfold doubleLead; (repeat' split) <;> simp

@[simp] theorem chaseLocateEnds_frame (outcome : LocateOutcome) (s : State) :
    (chaseLocateEnds outcome s).sense = s.sense ∧ (chaseLocateEnds outcome s).tach = s.tach ∧
      (chaseLocateEnds outcome s).params = s.params ∧ (chaseLocateEnds outcome s).held = s.held ∧
      (chaseLocateEnds outcome s).freeIndex = s.freeIndex ∧ (chaseLocateEnds outcome s).pending = s.pending := by
  unfold chaseLocateEnds; (repeat' split) <;> simp

@[simp] theorem startRunup_frame (s : State) :
    (startRunup s).sense = s.sense ∧ (startRunup s).tach = s.tach ∧ (startRunup s).packs = s.packs ∧
      (startRunup s).servo = s.servo ∧ (startRunup s).capstan = s.capstan ∧ (startRunup s).zones = s.zones ∧
      (startRunup s).cues = s.cues ∧ (startRunup s).params = s.params ∧ (startRunup s).locate = s.locate ∧
      (startRunup s).fault = s.fault ∧ (startRunup s).monitor = s.monitor ∧ (startRunup s).survey = s.survey ∧
      (startRunup s).held = s.held ∧ (startRunup s).freeIndex = s.freeIndex ∧ (startRunup s).pending = s.pending := by
  refine ⟨?_, ?_, ?_, ?_, ?_, ?_, ?_, ?_, ?_, ?_, ?_, ?_, ?_, ?_, ?_⟩ <;> rfl

@[simp] theorem parkedStep_frame (s : State) :
    (parkedStep s).sense = s.sense ∧ (parkedStep s).tach = s.tach ∧ (parkedStep s).packs = s.packs ∧
      (parkedStep s).servo = s.servo ∧ (parkedStep s).capstan = s.capstan ∧ (parkedStep s).zones = s.zones ∧
      (parkedStep s).cues = s.cues ∧ (parkedStep s).params = s.params ∧ (parkedStep s).locate = s.locate ∧
      (parkedStep s).fault = s.fault ∧ (parkedStep s).monitor = s.monitor ∧ (parkedStep s).survey = s.survey ∧
      (parkedStep s).held = s.held ∧ (parkedStep s).freeIndex = s.freeIndex ∧ (parkedStep s).pending = s.pending := by
  unfold parkedStep; (repeat' split) <;> simp

@[simp] theorem seekStep_frame (s : State) :
    (seekStep s).sense = s.sense ∧ (seekStep s).tach = s.tach ∧ (seekStep s).params = s.params ∧ (seekStep s).held = s.held ∧
      (seekStep s).freeIndex = s.freeIndex ∧ (seekStep s).pending = s.pending := by
  unfold seekStep; (repeat' split) <;> simp

@[simp] theorem followStep_frame (s : State) :
    (followStep s).sense = s.sense ∧ (followStep s).tach = s.tach ∧ (followStep s).packs = s.packs ∧
      (followStep s).servo = s.servo ∧ (followStep s).capstan = s.capstan ∧ (followStep s).zones = s.zones ∧
      (followStep s).cues = s.cues ∧ (followStep s).params = s.params ∧ (followStep s).locate = s.locate ∧
      (followStep s).chase = s.chase ∧ (followStep s).fault = s.fault ∧ (followStep s).monitor = s.monitor ∧
      (followStep s).survey = s.survey ∧ (followStep s).link = s.link ∧ (followStep s).lines = s.lines ∧
      (followStep s).held = s.held ∧ (followStep s).freeIndex = s.freeIndex ∧ (followStep s).pending = s.pending := by
  refine ⟨?_, ?_, ?_, ?_, ?_, ?_, ?_, ?_, ?_, ?_, ?_, ?_, ?_, ?_, ?_, ?_, ?_, ?_⟩ <;> rfl

@[simp] theorem freewheel_frame (s : State) :
    (freewheel s).sense = s.sense ∧ (freewheel s).tach = s.tach ∧ (freewheel s).packs = s.packs ∧ (freewheel s).servo = s.servo ∧
      (freewheel s).capstan = s.capstan ∧ (freewheel s).planner = s.planner ∧ (freewheel s).zones = s.zones ∧
      (freewheel s).cues = s.cues ∧ (freewheel s).params = s.params ∧ (freewheel s).locate = s.locate ∧
      (freewheel s).fault = s.fault ∧ (freewheel s).monitor = s.monitor ∧ (freewheel s).survey = s.survey ∧
      (freewheel s).held = s.held ∧ (freewheel s).freeIndex = s.freeIndex ∧ (freewheel s).pending = s.pending := by
  refine ⟨?_, ?_, ?_, ?_, ?_, ?_, ?_, ?_, ?_, ?_, ?_, ?_, ?_, ?_, ?_, ?_⟩ <;> rfl

@[simp] theorem silenceStep_frame (s : State) :
    (silenceStep s).sense = s.sense ∧ (silenceStep s).tach = s.tach ∧ (silenceStep s).params = s.params ∧
      (silenceStep s).held = s.held ∧ (silenceStep s).freeIndex = s.freeIndex ∧ (silenceStep s).pending = s.pending := by
  unfold silenceStep; (repeat' split) <;> (try dsimp only) <;> (repeat' split) <;> simp

@[simp] theorem locateEnds_frame (owner : LocateOwner) (outcome : LocateOutcome) (s : State) :
    (locateEnds owner outcome s).sense = s.sense ∧ (locateEnds owner outcome s).tach = s.tach ∧
      (locateEnds owner outcome s).params = s.params ∧ (locateEnds owner outcome s).held = s.held ∧
      (locateEnds owner outcome s).freeIndex = s.freeIndex ∧ (locateEnds owner outcome s).pending = s.pending := by
  unfold locateEnds; (repeat' split) <;> simp

@[simp] theorem stepChase_frame (s : State) :
    (stepChase s).sense = s.sense ∧ (stepChase s).tach = s.tach ∧ (stepChase s).params = s.params ∧ (stepChase s).held = s.held ∧
      (stepChase s).freeIndex = s.freeIndex ∧ (stepChase s).pending = s.pending := by
  unfold stepChase; (repeat' split) <;> simp

@[simp] theorem startChase_frame (q : LocateParams) (offset : Int) (s : State) :
    (startChase q offset s).sense = s.sense ∧ (startChase q offset s).tach = s.tach ∧ (startChase q offset s).packs = s.packs ∧
      (startChase q offset s).servo = s.servo ∧ (startChase q offset s).zones = s.zones ∧
      (startChase q offset s).locate = s.locate ∧ (startChase q offset s).monitor = s.monitor ∧
      (startChase q offset s).survey = s.survey ∧ (startChase q offset s).held = s.held ∧
      (startChase q offset s).freeIndex = s.freeIndex ∧ (startChase q offset s).pending = s.pending := by
  unfold startChase; simp

@[simp] theorem answerChaseStart_frame (offset : Int) (window : Nat) (lead : Nat) (paramFlag : Nat) (gain : Nat)
    (reseek : Nat) (freewheel : Nat) (s : State) :
    (answerChaseStart offset window lead paramFlag gain reseek freewheel s).state.sense = s.sense ∧
      (answerChaseStart offset window lead paramFlag gain reseek freewheel s).state.tach = s.tach ∧
      (answerChaseStart offset window lead paramFlag gain reseek freewheel s).state.packs = s.packs ∧
      (answerChaseStart offset window lead paramFlag gain reseek freewheel s).state.servo = s.servo ∧
      (answerChaseStart offset window lead paramFlag gain reseek freewheel s).state.zones = s.zones ∧
      (answerChaseStart offset window lead paramFlag gain reseek freewheel s).state.locate = s.locate ∧
      (answerChaseStart offset window lead paramFlag gain reseek freewheel s).state.monitor = s.monitor ∧
      (answerChaseStart offset window lead paramFlag gain reseek freewheel s).state.survey = s.survey ∧
      (answerChaseStart offset window lead paramFlag gain reseek freewheel s).state.held = s.held ∧
      (answerChaseStart offset window lead paramFlag gain reseek freewheel s).state.freeIndex = s.freeIndex ∧
      (answerChaseStart offset window lead paramFlag gain reseek freewheel s).state.pending = s.pending := by
  unfold answerChaseStart; (repeat' split) <;> simp

@[simp] theorem answerChaseStop_frame (s : State) :
    (answerChaseStop s).state.sense = s.sense ∧ (answerChaseStop s).state.tach = s.tach ∧
      (answerChaseStop s).state.params = s.params ∧ (answerChaseStop s).state.held = s.held ∧
      (answerChaseStop s).state.freeIndex = s.freeIndex ∧ (answerChaseStop s).state.pending = s.pending := by
  unfold answerChaseStop; (repeat' split) <;> simp

@[simp] theorem matchRecord_frame (inside : Bool) (s : State) :
    (matchRecord inside s).sense = s.sense ∧ (matchRecord inside s).tach = s.tach ∧ (matchRecord inside s).packs = s.packs ∧
      (matchRecord inside s).servo = s.servo ∧ (matchRecord inside s).capstan = s.capstan ∧
      (matchRecord inside s).planner = s.planner ∧ (matchRecord inside s).zones = s.zones ∧ (matchRecord inside s).cues = s.cues ∧
      (matchRecord inside s).params = s.params ∧ (matchRecord inside s).locate = s.locate ∧
      (matchRecord inside s).fault = s.fault ∧ (matchRecord inside s).monitor = s.monitor ∧
      (matchRecord inside s).survey = s.survey ∧ (matchRecord inside s).held = s.held ∧
      (matchRecord inside s).freeIndex = s.freeIndex ∧ (matchRecord inside s).pending = s.pending := by
  unfold matchRecord; (repeat' split) <;> (try dsimp only) <;> (repeat' split) <;> simp

@[simp] theorem lockedRecord_frame (inside : Bool) (s : State) :
    (lockedRecord inside s).sense = s.sense ∧ (lockedRecord inside s).tach = s.tach ∧ (lockedRecord inside s).packs = s.packs ∧
      (lockedRecord inside s).servo = s.servo ∧ (lockedRecord inside s).capstan = s.capstan ∧
      (lockedRecord inside s).planner = s.planner ∧ (lockedRecord inside s).zones = s.zones ∧
      (lockedRecord inside s).cues = s.cues ∧ (lockedRecord inside s).params = s.params ∧
      (lockedRecord inside s).locate = s.locate ∧ (lockedRecord inside s).fault = s.fault ∧
      (lockedRecord inside s).survey = s.survey ∧ (lockedRecord inside s).held = s.held ∧
      (lockedRecord inside s).freeIndex = s.freeIndex ∧ (lockedRecord inside s).pending = s.pending := by
  unfold lockedRecord; (repeat' split) <;> (try dsimp only) <;> (repeat' split) <;> simp

@[simp] theorem trimRecord_frame (e : Int) (s : State) :
    (trimRecord e s).sense = s.sense ∧ (trimRecord e s).tach = s.tach ∧ (trimRecord e s).packs = s.packs ∧
      (trimRecord e s).servo = s.servo ∧ (trimRecord e s).planner = s.planner ∧ (trimRecord e s).zones = s.zones ∧
      (trimRecord e s).cues = s.cues ∧ (trimRecord e s).params = s.params ∧ (trimRecord e s).locate = s.locate ∧
      (trimRecord e s).fault = s.fault ∧ (trimRecord e s).survey = s.survey ∧ (trimRecord e s).held = s.held ∧
      (trimRecord e s).freeIndex = s.freeIndex ∧ (trimRecord e s).pending = s.pending := by
  unfold trimRecord; (repeat' split) <;> simp

@[simp] theorem followRecord_frame (m : MasterRec) (e : Int) (s : State) :
    (followRecord m e s).sense = s.sense ∧ (followRecord m e s).tach = s.tach ∧ (followRecord m e s).packs = s.packs ∧
      (followRecord m e s).servo = s.servo ∧ (followRecord m e s).zones = s.zones ∧ (followRecord m e s).cues = s.cues ∧
      (followRecord m e s).params = s.params ∧ (followRecord m e s).locate = s.locate ∧ (followRecord m e s).fault = s.fault ∧
      (followRecord m e s).survey = s.survey ∧ (followRecord m e s).held = s.held ∧ (followRecord m e s).freeIndex = s.freeIndex ∧
      (followRecord m e s).pending = s.pending := by
  unfold followRecord; (repeat' split) <;> simp

@[simp] theorem seekRecord_frame (m : MasterRec) (s : State) :
    (seekRecord m s).sense = s.sense ∧ (seekRecord m s).tach = s.tach ∧ (seekRecord m s).params = s.params ∧
      (seekRecord m s).held = s.held ∧ (seekRecord m s).freeIndex = s.freeIndex ∧ (seekRecord m s).pending = s.pending := by
  unfold seekRecord; (repeat' split) <;> simp

@[simp] theorem reseekFrom_frame (cause : ChaseCause) (m : MasterRec) (s : State) :
    (reseekFrom cause m s).sense = s.sense ∧ (reseekFrom cause m s).tach = s.tach ∧ (reseekFrom cause m s).params = s.params ∧
      (reseekFrom cause m s).held = s.held ∧ (reseekFrom cause m s).freeIndex = s.freeIndex ∧
      (reseekFrom cause m s).pending = s.pending := by
  unfold reseekFrom; simp

@[simp] theorem parkedRecord_frame (m : MasterRec) (s : State) :
    (parkedRecord m s).sense = s.sense ∧ (parkedRecord m s).tach = s.tach ∧ (parkedRecord m s).params = s.params ∧
      (parkedRecord m s).held = s.held ∧ (parkedRecord m s).freeIndex = s.freeIndex ∧ (parkedRecord m s).pending = s.pending := by
  unfold parkedRecord; (repeat' split) <;> simp

@[simp] theorem takeMaster_frame (position : Int) (speed : Int) (s : State) :
    (takeMaster position speed s).sense = s.sense ∧ (takeMaster position speed s).tach = s.tach ∧
      (takeMaster position speed s).params = s.params ∧ (takeMaster position speed s).held = s.held ∧
      (takeMaster position speed s).freeIndex = s.freeIndex ∧ (takeMaster position speed s).pending = s.pending := by
  unfold takeMaster; (repeat' split) <;> simp

@[simp] theorem answerMasterPosition_frame (position : Int) (speed : Int) (s : State) :
    (answerMasterPosition position speed s).state.sense = s.sense ∧ (answerMasterPosition position speed s).state.tach = s.tach ∧
      (answerMasterPosition position speed s).state.params = s.params ∧
      (answerMasterPosition position speed s).state.held = s.held ∧
      (answerMasterPosition position speed s).state.freeIndex = s.freeIndex ∧
      (answerMasterPosition position speed s).state.pending = s.pending := by
  unfold answerMasterPosition; (repeat' split) <;> simp

/-! ## Machine/SampleStep.lean -/

@[simp] theorem servoSample_frame (s : State) :
    (servoSample s).tach = s.tach ∧ (servoSample s).params = s.params ∧ (servoSample s).held = s.held ∧
      (servoSample s).freeIndex = s.freeIndex ∧ (servoSample s).pending = s.pending := by
  unfold servoSample; (repeat' split) <;> simp

/-! ## Machine/Faults.lean -/

@[simp] theorem answerGetFault_frame (s : State) :
    (answerGetFault s).state.sense = s.sense ∧ (answerGetFault s).state.tach = s.tach ∧ (answerGetFault s).state.packs = s.packs ∧
      (answerGetFault s).state.servo = s.servo ∧ (answerGetFault s).state.capstan = s.capstan ∧
      (answerGetFault s).state.planner = s.planner ∧ (answerGetFault s).state.zones = s.zones ∧
      (answerGetFault s).state.cues = s.cues ∧ (answerGetFault s).state.params = s.params ∧
      (answerGetFault s).state.locate = s.locate ∧ (answerGetFault s).state.chase = s.chase ∧
      (answerGetFault s).state.fault = s.fault ∧ (answerGetFault s).state.monitor = s.monitor ∧
      (answerGetFault s).state.survey = s.survey ∧ (answerGetFault s).state.link = s.link ∧
      (answerGetFault s).state.lines = s.lines ∧ (answerGetFault s).state.held = s.held ∧
      (answerGetFault s).state.freeIndex = s.freeIndex ∧ (answerGetFault s).state.pending = s.pending := by
  refine ⟨?_, ?_, ?_, ?_, ?_, ?_, ?_, ?_, ?_, ?_, ?_, ?_, ?_, ?_, ?_, ?_, ?_, ?_, ?_⟩ <;> rfl

@[simp] theorem clearFault_frame (s : State) :
    (clearFault s).sense = s.sense ∧ (clearFault s).tach = s.tach ∧ (clearFault s).params = s.params ∧
      (clearFault s).held = s.held ∧ (clearFault s).freeIndex = s.freeIndex ∧ (clearFault s).pending = s.pending := by
  unfold clearFault; (repeat' split) <;> simp

@[simp] theorem answerClearFault_frame (s : State) :
    (answerClearFault s).state.sense = s.sense ∧ (answerClearFault s).state.tach = s.tach ∧
      (answerClearFault s).state.params = s.params ∧ (answerClearFault s).state.held = s.held ∧
      (answerClearFault s).state.freeIndex = s.freeIndex ∧ (answerClearFault s).state.pending = s.pending := by
  unfold answerClearFault; (repeat' split) <;> simp

@[simp] theorem restartLinkTimer_frame (s : State) :
    (restartLinkTimer s).sense = s.sense ∧ (restartLinkTimer s).tach = s.tach ∧ (restartLinkTimer s).packs = s.packs ∧
      (restartLinkTimer s).servo = s.servo ∧ (restartLinkTimer s).capstan = s.capstan ∧ (restartLinkTimer s).planner = s.planner ∧
      (restartLinkTimer s).zones = s.zones ∧ (restartLinkTimer s).cues = s.cues ∧ (restartLinkTimer s).params = s.params ∧
      (restartLinkTimer s).locate = s.locate ∧ (restartLinkTimer s).chase = s.chase ∧ (restartLinkTimer s).monitor = s.monitor ∧
      (restartLinkTimer s).survey = s.survey ∧ (restartLinkTimer s).link = s.link ∧ (restartLinkTimer s).lines = s.lines ∧
      (restartLinkTimer s).held = s.held ∧ (restartLinkTimer s).freeIndex = s.freeIndex ∧
      (restartLinkTimer s).pending = s.pending := by
  unfold restartLinkTimer; (repeat' split) <;> simp

@[simp] theorem answerSetLinkTimeout_frame (timeout : Nat) (s : State) :
    (answerSetLinkTimeout timeout s).state.sense = s.sense ∧ (answerSetLinkTimeout timeout s).state.tach = s.tach ∧
      (answerSetLinkTimeout timeout s).state.packs = s.packs ∧ (answerSetLinkTimeout timeout s).state.servo = s.servo ∧
      (answerSetLinkTimeout timeout s).state.capstan = s.capstan ∧ (answerSetLinkTimeout timeout s).state.planner = s.planner ∧
      (answerSetLinkTimeout timeout s).state.zones = s.zones ∧ (answerSetLinkTimeout timeout s).state.cues = s.cues ∧
      (answerSetLinkTimeout timeout s).state.params = s.params ∧ (answerSetLinkTimeout timeout s).state.locate = s.locate ∧
      (answerSetLinkTimeout timeout s).state.chase = s.chase ∧ (answerSetLinkTimeout timeout s).state.monitor = s.monitor ∧
      (answerSetLinkTimeout timeout s).state.survey = s.survey ∧ (answerSetLinkTimeout timeout s).state.link = s.link ∧
      (answerSetLinkTimeout timeout s).state.lines = s.lines ∧ (answerSetLinkTimeout timeout s).state.held = s.held ∧
      (answerSetLinkTimeout timeout s).state.freeIndex = s.freeIndex ∧
      (answerSetLinkTimeout timeout s).state.pending = s.pending := by
  refine ⟨?_, ?_, ?_, ?_, ?_, ?_, ?_, ?_, ?_, ?_, ?_, ?_, ?_, ?_, ?_, ?_, ?_, ?_⟩ <;> rfl

@[simp] theorem linkExpires_frame (s : State) :
    (linkExpires s).sense = s.sense ∧ (linkExpires s).tach = s.tach ∧ (linkExpires s).params = s.params ∧
      (linkExpires s).held = s.held ∧ (linkExpires s).freeIndex = s.freeIndex ∧ (linkExpires s).pending = s.pending := by
  unfold linkExpires; (repeat' split) <;> simp

@[simp] theorem stepLocate_frame (l : LocateRec) (s : State) :
    (stepLocate l s).sense = s.sense ∧ (stepLocate l s).tach = s.tach ∧ (stepLocate l s).params = s.params ∧
      (stepLocate l s).held = s.held ∧ (stepLocate l s).freeIndex = s.freeIndex ∧ (stepLocate l s).pending = s.pending := by
  have h := locateStep_frame l s
  unfold stepLocate
  revert h
  cases locateStep l s with
  | goesOn s1 => intro h; simp_all
  | ends o s1 => intro h; simp_all

@[simp] theorem unitStep_frame (s : State) :
    (unitStep s).sense = s.sense ∧ (unitStep s).tach = s.tach ∧ (unitStep s).params = s.params ∧ (unitStep s).held = s.held ∧
      (unitStep s).freeIndex = s.freeIndex ∧ (unitStep s).pending = s.pending := by
  unfold unitStep; (repeat' split) <;> (try dsimp only) <;> (repeat' split) <;> simp

end Sys2Proof.Machine
end

