-- ==== Sys2Proof/Laws/FramesLink.lean ====
section
/-! SUPPORT. Laws/FramesLink.lean: what each operation of Machine/Link.lean, Machine/Resets.lean, Machine/Clock.lean leaves as it was,
one lemma an operation: every field it never writes reads the same after it. -/

namespace Sys2Proof.Machine

/-! ## Machine/Link.lean -/

@[simp] theorem clearStickies_frame (s : State) :
    (clearStickies s).tach = s.tach ∧ (clearStickies s).packs = s.packs ∧ (clearStickies s).servo = s.servo ∧
      (clearStickies s).planner = s.planner ∧ (clearStickies s).zones = s.zones ∧ (clearStickies s).cues = s.cues ∧
      (clearStickies s).params = s.params ∧ (clearStickies s).locate = s.locate ∧ (clearStickies s).chase = s.chase ∧
      (clearStickies s).fault = s.fault ∧ (clearStickies s).monitor = s.monitor ∧ (clearStickies s).survey = s.survey ∧
      (clearStickies s).lines = s.lines ∧ (clearStickies s).held = s.held ∧ (clearStickies s).freeIndex = s.freeIndex ∧
      (clearStickies s).pending = s.pending := by
  refine ⟨?_, ?_, ?_, ?_, ?_, ?_, ?_, ?_, ?_, ?_, ?_, ?_, ?_, ?_, ?_, ?_⟩ <;> rfl

@[simp] theorem answerGetStatus_frame (s : State) :
    (answerGetStatus s).state.tach = s.tach ∧ (answerGetStatus s).state.packs = s.packs ∧
      (answerGetStatus s).state.servo = s.servo ∧ (answerGetStatus s).state.planner = s.planner ∧
      (answerGetStatus s).state.zones = s.zones ∧ (answerGetStatus s).state.cues = s.cues ∧
      (answerGetStatus s).state.params = s.params ∧ (answerGetStatus s).state.locate = s.locate ∧
      (answerGetStatus s).state.chase = s.chase ∧ (answerGetStatus s).state.fault = s.fault ∧
      (answerGetStatus s).state.monitor = s.monitor ∧ (answerGetStatus s).state.survey = s.survey ∧
      (answerGetStatus s).state.lines = s.lines ∧ (answerGetStatus s).state.held = s.held ∧
      (answerGetStatus s).state.freeIndex = s.freeIndex ∧ (answerGetStatus s).state.pending = s.pending := by
  refine ⟨?_, ?_, ?_, ?_, ?_, ?_, ?_, ?_, ?_, ?_, ?_, ?_, ?_, ?_, ?_, ?_⟩ <;> rfl

@[simp] theorem answerReset_frame (retain : Nat) (s : State) :
    (answerReset retain s).state.sense = s.sense ∧ (answerReset retain s).state.tach = s.tach ∧
      (answerReset retain s).state.packs = s.packs ∧ (answerReset retain s).state.servo = s.servo ∧
      (answerReset retain s).state.capstan = s.capstan ∧ (answerReset retain s).state.planner = s.planner ∧
      (answerReset retain s).state.zones = s.zones ∧ (answerReset retain s).state.cues = s.cues ∧
      (answerReset retain s).state.params = s.params ∧ (answerReset retain s).state.locate = s.locate ∧
      (answerReset retain s).state.chase = s.chase ∧ (answerReset retain s).state.fault = s.fault ∧
      (answerReset retain s).state.monitor = s.monitor ∧ (answerReset retain s).state.survey = s.survey ∧
      (answerReset retain s).state.lines = s.lines ∧ (answerReset retain s).state.held = s.held ∧
      (answerReset retain s).state.freeIndex = s.freeIndex ∧ (answerReset retain s).state.pending = s.pending := by
  unfold answerReset; (repeat' split) <;> simp

@[simp] theorem answerSetNoticeLevel_frame (kind : Nat) (level : Nat) (s : State) :
    (answerSetNoticeLevel kind level s).state.sense = s.sense ∧ (answerSetNoticeLevel kind level s).state.tach = s.tach ∧
      (answerSetNoticeLevel kind level s).state.packs = s.packs ∧ (answerSetNoticeLevel kind level s).state.servo = s.servo ∧
      (answerSetNoticeLevel kind level s).state.capstan = s.capstan ∧
      (answerSetNoticeLevel kind level s).state.planner = s.planner ∧ (answerSetNoticeLevel kind level s).state.zones = s.zones ∧
      (answerSetNoticeLevel kind level s).state.cues = s.cues ∧ (answerSetNoticeLevel kind level s).state.params = s.params ∧
      (answerSetNoticeLevel kind level s).state.locate = s.locate ∧ (answerSetNoticeLevel kind level s).state.chase = s.chase ∧
      (answerSetNoticeLevel kind level s).state.fault = s.fault ∧ (answerSetNoticeLevel kind level s).state.monitor = s.monitor ∧
      (answerSetNoticeLevel kind level s).state.survey = s.survey ∧ (answerSetNoticeLevel kind level s).state.lines = s.lines ∧
      (answerSetNoticeLevel kind level s).state.held = s.held ∧
      (answerSetNoticeLevel kind level s).state.freeIndex = s.freeIndex ∧
      (answerSetNoticeLevel kind level s).state.pending = s.pending := by
  unfold answerSetNoticeLevel; (repeat' split) <;> simp

@[simp] theorem answerSetTelemetry_frame (period : Nat) (s : State) :
    (answerSetTelemetry period s).state.sense = s.sense ∧ (answerSetTelemetry period s).state.tach = s.tach ∧
      (answerSetTelemetry period s).state.packs = s.packs ∧ (answerSetTelemetry period s).state.servo = s.servo ∧
      (answerSetTelemetry period s).state.capstan = s.capstan ∧ (answerSetTelemetry period s).state.planner = s.planner ∧
      (answerSetTelemetry period s).state.zones = s.zones ∧ (answerSetTelemetry period s).state.cues = s.cues ∧
      (answerSetTelemetry period s).state.params = s.params ∧ (answerSetTelemetry period s).state.locate = s.locate ∧
      (answerSetTelemetry period s).state.chase = s.chase ∧ (answerSetTelemetry period s).state.fault = s.fault ∧
      (answerSetTelemetry period s).state.monitor = s.monitor ∧ (answerSetTelemetry period s).state.survey = s.survey ∧
      (answerSetTelemetry period s).state.lines = s.lines ∧ (answerSetTelemetry period s).state.held = s.held ∧
      (answerSetTelemetry period s).state.freeIndex = s.freeIndex ∧ (answerSetTelemetry period s).state.pending = s.pending := by
  refine ⟨?_, ?_, ?_, ?_, ?_, ?_, ?_, ?_, ?_, ?_, ?_, ?_, ?_, ?_, ?_, ?_, ?_, ?_⟩ <;> rfl

@[simp] theorem telemetryExpires_frame (s : State) :
    (telemetryExpires s).sense = s.sense ∧ (telemetryExpires s).tach = s.tach ∧ (telemetryExpires s).packs = s.packs ∧
      (telemetryExpires s).servo = s.servo ∧ (telemetryExpires s).capstan = s.capstan ∧ (telemetryExpires s).planner = s.planner ∧
      (telemetryExpires s).zones = s.zones ∧ (telemetryExpires s).cues = s.cues ∧ (telemetryExpires s).params = s.params ∧
      (telemetryExpires s).locate = s.locate ∧ (telemetryExpires s).chase = s.chase ∧ (telemetryExpires s).fault = s.fault ∧
      (telemetryExpires s).monitor = s.monitor ∧ (telemetryExpires s).survey = s.survey ∧ (telemetryExpires s).lines = s.lines ∧
      (telemetryExpires s).held = s.held ∧ (telemetryExpires s).freeIndex = s.freeIndex ∧
      (telemetryExpires s).pending = s.pending := by
  unfold telemetryExpires; (repeat' split) <;> simp

@[simp] theorem handleRequest_frame (c : Instr) (s : State) :
    (handleRequest c s).state.held = s.held ∧ (handleRequest c s).state.freeIndex = s.freeIndex ∧
      (handleRequest c s).state.pending = s.pending := by
  unfold handleRequest; (repeat' split) <;> simp

@[simp] theorem offerFrame_frame (f : Frame) (s : State) :
    (offerFrame f s).sense = s.sense ∧ (offerFrame f s).tach = s.tach ∧ (offerFrame f s).packs = s.packs ∧
      (offerFrame f s).servo = s.servo ∧ (offerFrame f s).capstan = s.capstan ∧ (offerFrame f s).planner = s.planner ∧
      (offerFrame f s).zones = s.zones ∧ (offerFrame f s).cues = s.cues ∧ (offerFrame f s).params = s.params ∧
      (offerFrame f s).locate = s.locate ∧ (offerFrame f s).chase = s.chase ∧ (offerFrame f s).fault = s.fault ∧
      (offerFrame f s).survey = s.survey ∧ (offerFrame f s).lines = s.lines ∧ (offerFrame f s).held = s.held ∧
      (offerFrame f s).freeIndex = s.freeIndex ∧ (offerFrame f s).pending = s.pending := by
  unfold offerFrame; (repeat' split) <;> simp

@[simp] theorem discardFrame_frame (s : State) :
    (discardFrame s).sense = s.sense ∧ (discardFrame s).tach = s.tach ∧ (discardFrame s).packs = s.packs ∧
      (discardFrame s).servo = s.servo ∧ (discardFrame s).capstan = s.capstan ∧ (discardFrame s).planner = s.planner ∧
      (discardFrame s).zones = s.zones ∧ (discardFrame s).cues = s.cues ∧ (discardFrame s).params = s.params ∧
      (discardFrame s).locate = s.locate ∧ (discardFrame s).chase = s.chase ∧ (discardFrame s).fault = s.fault ∧
      (discardFrame s).survey = s.survey ∧ (discardFrame s).lines = s.lines ∧ (discardFrame s).held = s.held ∧
      (discardFrame s).freeIndex = s.freeIndex ∧ (discardFrame s).pending = s.pending := by
  unfold discardFrame; simp

/-! ## Machine/Resets.lean -/

/-- What a reset that begins does, field by field. -/
@[simp] theorem enterReset_fields (cause : ResetCause) (s : State) :
    (enterReset cause s).sense = s.sense.inReset ∧ (enterReset cause s).tach = s.tach ∧
      (enterReset cause s).packs = s.packs.inReset ∧ (enterReset cause s).servo = s.servo.disabled ∧
      (enterReset cause s).capstan = s.capstan.inReset ∧ (enterReset cause s).planner = s.planner.inReset ∧
      (enterReset cause s).zones = { s.zones with pendingBlock := none } ∧
      (enterReset cause s).cues = { s.cues with pendingStop := none } ∧ (enterReset cause s).params = s.params ∧
      (enterReset cause s).locate = none ∧ (enterReset cause s).chase = .warm s.params ∧
      (enterReset cause s).fault = s.fault.warm ∧ (enterReset cause s).monitor = s.monitor ∧
      (enterReset cause s).survey = .cold ∧ (enterReset cause s).link = { s.link with tx := .idle } ∧
      (enterReset cause s).lines = s.lines.atReset ∧ (enterReset cause s).held = some cause ∧
      (enterReset cause s).freeIndex = s.freeIndex ∧ (enterReset cause s).pending = s.pending := by
  refine ⟨?_, ?_, ?_, ?_, ?_, ?_, ?_, ?_, ?_, ?_, ?_, ?_, ?_, ?_, ?_, ?_, ?_, ?_, ?_⟩ <;> rfl

@[simp] theorem coldBlocks_frame (s : State) :
    (coldBlocks s).lines = s.lines ∧ (coldBlocks s).held = s.held ∧ (coldBlocks s).freeIndex = s.freeIndex ∧
      (coldBlocks s).pending = s.pending := by
  refine ⟨?_, ?_, ?_, ?_⟩ <;> rfl

@[simp] theorem warmBlocks_frame (s : State) :
    (warmBlocks s).params = s.params ∧ (warmBlocks s).lines = s.lines ∧ (warmBlocks s).held = s.held ∧
      (warmBlocks s).freeIndex = s.freeIndex ∧ (warmBlocks s).pending = s.pending := by
  refine ⟨?_, ?_, ?_, ?_, ?_⟩ <;> rfl

@[simp] theorem settleReset_frame (s : State) :
    (settleReset s).sense = s.sense ∧ (settleReset s).tach = s.tach ∧ (settleReset s).packs = s.packs ∧
      (settleReset s).capstan = s.capstan ∧ (settleReset s).cues = s.cues ∧ (settleReset s).params = s.params ∧
      (settleReset s).locate = s.locate ∧ (settleReset s).chase = s.chase ∧ (settleReset s).fault = s.fault ∧
      (settleReset s).monitor = s.monitor ∧ (settleReset s).survey = s.survey ∧ (settleReset s).link = s.link ∧
      (settleReset s).lines = s.lines ∧ (settleReset s).held = s.held ∧ (settleReset s).freeIndex = s.freeIndex ∧
      (settleReset s).pending = s.pending := by
  refine ⟨?_, ?_, ?_, ?_, ?_, ?_, ?_, ?_, ?_, ?_, ?_, ?_, ?_, ?_, ?_, ?_⟩ <;> rfl

@[simp] theorem announceReset_frame (cause : ResetCause) (s : State) :
    (announceReset cause s).sense = s.sense ∧ (announceReset cause s).tach = s.tach ∧ (announceReset cause s).params = s.params ∧
      (announceReset cause s).held = s.held ∧ (announceReset cause s).freeIndex = s.freeIndex ∧
      (announceReset cause s).pending = s.pending := by
  unfold announceReset; (repeat' split) <;> (try dsimp only) <;> (repeat' split) <;> simp

@[simp] theorem endReset_frame (cause : ResetCause) (s : State) :
    (endReset cause s).freeIndex = s.freeIndex ∧ (endReset cause s).pending = s.pending := by
  unfold endReset; (repeat' split) <;> simp

/-! ## Machine/Clock.lean -/

@[simp] theorem tickRecovery_frame (s : State) :
    (tickRecovery s).sense = s.sense ∧ (tickRecovery s).tach = s.tach ∧ (tickRecovery s).packs = s.packs ∧
      (tickRecovery s).capstan = s.capstan ∧ (tickRecovery s).zones = s.zones ∧ (tickRecovery s).cues = s.cues ∧
      (tickRecovery s).params = s.params ∧ (tickRecovery s).locate = s.locate ∧ (tickRecovery s).chase = s.chase ∧
      (tickRecovery s).fault = s.fault ∧ (tickRecovery s).monitor = s.monitor ∧ (tickRecovery s).survey = s.survey ∧
      (tickRecovery s).lines = s.lines ∧ (tickRecovery s).held = s.held ∧ (tickRecovery s).freeIndex = s.freeIndex ∧
      (tickRecovery s).pending = s.pending := by
  unfold tickRecovery; (repeat' split) <;> simp

@[simp] theorem tickTelemetry_frame (s : State) :
    (tickTelemetry s).sense = s.sense ∧ (tickTelemetry s).tach = s.tach ∧ (tickTelemetry s).packs = s.packs ∧
      (tickTelemetry s).servo = s.servo ∧ (tickTelemetry s).capstan = s.capstan ∧ (tickTelemetry s).planner = s.planner ∧
      (tickTelemetry s).zones = s.zones ∧ (tickTelemetry s).cues = s.cues ∧ (tickTelemetry s).params = s.params ∧
      (tickTelemetry s).locate = s.locate ∧ (tickTelemetry s).chase = s.chase ∧ (tickTelemetry s).fault = s.fault ∧
      (tickTelemetry s).monitor = s.monitor ∧ (tickTelemetry s).survey = s.survey ∧ (tickTelemetry s).lines = s.lines ∧
      (tickTelemetry s).held = s.held ∧ (tickTelemetry s).freeIndex = s.freeIndex ∧ (tickTelemetry s).pending = s.pending := by
  unfold tickTelemetry; (repeat' split) <;> simp

@[simp] theorem tickLink_frame (s : State) :
    (tickLink s).sense = s.sense ∧ (tickLink s).tach = s.tach ∧ (tickLink s).params = s.params ∧ (tickLink s).held = s.held ∧
      (tickLink s).freeIndex = s.freeIndex ∧ (tickLink s).pending = s.pending := by
  unfold tickLink; (repeat' split) <;> simp

@[simp] theorem tick_frame (s : State) :
    (tick s).sense = s.sense ∧ (tick s).tach = s.tach ∧ (tick s).params = s.params ∧ (tick s).held = s.held ∧
      (tick s).freeIndex = s.freeIndex ∧ (tick s).pending = s.pending := by
  unfold tick; (repeat' split) <;> simp

@[simp] theorem dispatchHead_frame (s : State) :
    (dispatchHead s).held = s.held ∧ (dispatchHead s).freeIndex = s.freeIndex ∧ (dispatchHead s).pending = s.pending := by
  unfold dispatchHead; (repeat' split) <;> simp [deliver]

@[simp] theorem frameArrives_frame (f : Frame) (s : State) :
    (frameArrives f s).held = s.held ∧ (frameArrives f s).freeIndex = s.freeIndex ∧ (frameArrives f s).pending = s.pending := by
  unfold frameArrives; simp

@[simp] theorem requestArrives_frame (c : Instr) (s : State) :
    (requestArrives c s).held = s.held ∧ (requestArrives c s).freeIndex = s.freeIndex ∧
      (requestArrives c s).pending = s.pending := by
  unfold requestArrives; (repeat' split) <;> simp [deliver]

@[simp] theorem byteInFrame_frame (l : List Byte) (s : State) :
    (byteInFrame l s).held = s.held ∧ (byteInFrame l s).freeIndex = s.freeIndex ∧ (byteInFrame l s).pending = s.pending := by
  unfold byteInFrame; dsimp only; (repeat' split) <;> simp

@[simp] theorem byteArrives_frame (b : Byte) (framingError : Bool) (s : State) :
    (byteArrives b framingError s).held = s.held ∧ (byteArrives b framingError s).freeIndex = s.freeIndex ∧
      (byteArrives b framingError s).pending = s.pending := by
  unfold byteArrives; (repeat' split) <;> simp

@[simp] theorem frameFinished_frame (s : State) :
    (frameFinished s).held = s.held ∧ (frameFinished s).freeIndex = s.freeIndex ∧ (frameFinished s).pending = s.pending := by
  unfold frameFinished; split <;> simp

@[simp] theorem frameSent_frame (s : State) :
    (frameSent s).freeIndex = s.freeIndex ∧ (frameSent s).pending = s.pending := by
  unfold frameSent; split <;> simp

end Sys2Proof.Machine
end

