-- ==== Sys2Proof/Laws/Operations.lean ====
section
/-! SUPPORT. Laws/Operations.lean: for each shared operation, one lemma that says once everything it can do. -/

namespace Sys2Proof.Machine

/-! ## Commands while the part runs and while it is held -/

theorem whileRunning_of_running {f : State → State} {s : State} (h : s.held = none) : whileRunning f s = .next (f s) := by
  simp [whileRunning, h]

theorem whileRunning_of_held {f : State → State} {s : State} {c : ResetCause} (h : s.held = some c) :
    whileRunning f s = .next s := by
  simp [whileRunning, h]

/-! ## The reply and the transmitter (R182, R183) -/

/-- A delivered answer leaves everything but the link as the answer left it. -/
@[simp] theorem deliver_frame (kind tag : Byte) (a : Answer) :
    (deliver kind tag a).sense = a.state.sense ∧ (deliver kind tag a).tach = a.state.tach ∧
      (deliver kind tag a).packs = a.state.packs ∧ (deliver kind tag a).servo = a.state.servo ∧
      (deliver kind tag a).capstan = a.state.capstan ∧ (deliver kind tag a).planner = a.state.planner ∧
      (deliver kind tag a).zones = a.state.zones ∧ (deliver kind tag a).cues = a.state.cues ∧
      (deliver kind tag a).params = a.state.params ∧ (deliver kind tag a).locate = a.state.locate ∧
      (deliver kind tag a).chase = a.state.chase ∧ (deliver kind tag a).fault = a.state.fault ∧
      (deliver kind tag a).monitor = a.state.monitor ∧ (deliver kind tag a).survey = a.state.survey ∧
      (deliver kind tag a).lines = a.state.lines ∧ (deliver kind tag a).held = a.state.held ∧
      (deliver kind tag a).freeIndex = a.state.freeIndex ∧ (deliver kind tag a).pending = a.state.pending := by
  simp [deliver]

/-- What `txTake` can do: an idle transmitter starts the waiting reply, or else the first queued notice; otherwise nothing. -/
theorem txTake_cases (l : Link) :
    (∃ r, l.tx = .idle ∧ l.reply = some r ∧ txTake l = { l with tx := .sendingReply r, reply := none }) ∨
      (∃ q rest, l.tx = .idle ∧ l.reply = none ∧ l.notices = q :: rest ∧
        txTake l = { l with tx := .sendingNotice q.notice, notices := rest }) ∨
      (l.tx = .idle ∧ l.reply = none ∧ l.notices = [] ∧ txTake l = l) ∨ (l.tx ≠ .idle ∧ txTake l = l) := by
  unfold txTake
  cases h : l.tx <;> cases h' : l.reply <;> cases h'' : l.notices <;> simp

/-- A reply put into the buffer is on the pin afterwards, or still in the buffer. -/
theorem txTake_reply (l : Link) (r : Reply) :
    (txTake { l with reply := some r }).tx = .sendingReply r ∨ (txTake { l with reply := some r }).reply = some r := by
  unfold txTake
  cases l.tx <;> simp

@[simp] theorem txTake_frame (l : Link) :
    (txTake l).assembler = l.assembler ∧ (txTake l).queue = l.queue ∧ (txTake l).nextAge = l.nextAge ∧
      (txTake l).levels = l.levels ∧ (txTake l).telPeriod = l.telPeriod ∧ (txTake l).telTimer = l.telTimer ∧
      (txTake l).framesDropped = l.framesDropped ∧ (txTake l).noticesLost = l.noticesLost ∧
      (txTake l).resetPending = l.resetPending := by
  rcases txTake_cases l with ⟨r, -, -, h⟩ | ⟨q, rest, -, -, -, h⟩ | ⟨-, -, -, h⟩ | ⟨-, h⟩ <;> rw [h] <;> simp

/-- An answered command's reply is under way. -/
theorem Answered.replies {c : Instr} {s s1 : State} {kind tag : Byte} {code : ResultCode} {body : List Byte}
    (h : Answered c s kind tag code body s1) :
    ∃ t, exec c s = .next t ∧ Replies t { kind := kind, tag := tag, code := code, body := body } :=
  ⟨_, h, txTake_reply _ _⟩

/-- With nothing before it, a request is handed at once to the block that owns it (R182). -/
theorem requestArrives_ready {c : Instr} {f : Frame} {s : State} (hs : Ready s) (hf : encodeFrame c = some f) :
    requestArrives c s = deliver f.kind f.tag (handleRequest c (restartLinkTimer s)) := by
  obtain ⟨h1, h2, h3, h4⟩ := hs
  simp [requestArrives, hf, h1, Link.free, Link.mayDispatch, h2, h3, h4]

/-- A request that meets a ready part is answered with what its block answers. -/
theorem answered_of_ready {c : Instr} {f : Frame} {s s1 : State} {kind tag : Byte} {code : ResultCode} {body : List Byte}
    (hs : Ready s) (he : exec c s = .next (requestArrives c s)) (hf : encodeFrame c = some f) (hk : f.kind + 0x80 = kind)
    (ht : f.tag = tag) (ha : handleRequest c (restartLinkTimer s) = { state := s1, code := code, body := body }) :
    Answered c s kind tag code body s1 := by
  rw [Answered, he, requestArrives_ready hs hf, ha, deliver, hk, ht]

/-- In no reset, a request that may not be dispatched at once takes the way of its frame. -/
theorem requestArrives_waits {c : Instr} {f : Frame} {s : State} (hh : s.held = none) (hf : encodeFrame c = some f)
    (hb : s.link.free = false) : requestArrives c s = frameArrives f s := by
  simp [requestArrives, hf, hh, hb]

/-- Every good frame restarts the link timer where it counts, and changes nothing else (R157). -/
theorem restartLinkTimer_fault (s : State) :
    (restartLinkTimer s).fault = if linkTimerCounts s then { s.fault with linkTimer := some 0 } else s.fault := by
  unfold restartLinkTimer; split <;> simp

@[simp] theorem restartLinkTimer_record (s : State) :
    (restartLinkTimer s).fault.record = s.fault.record ∧ (restartLinkTimer s).fault.powerFailTaken = s.fault.powerFailTaken ∧
      (restartLinkTimer s).fault.linkTimeout = s.fault.linkTimeout := by
  rw [restartLinkTimer_fault]; split <;> simp

/-! ## Notices (R184, R185) -/

/-- What posting into the queue can do. -/
theorem enqueueNotice_cases (n : Notice) (l : Link) :
    (l.levelOf n.kind = 0 ∧ enqueueNotice n l = l) ∨
      (l.levelOf n.kind ≠ 0 ∧ n.kind.isState = true ∧ (∃ x ∈ l.notices, x.notice.kind = n.kind) ∧
        enqueueNotice n l =
          { l with notices := l.notices.map fun x => if x.notice.kind = n.kind then { x with notice := n } else x }) ∨
      (l.levelOf n.kind ≠ 0 ∧ (n.kind.isState = true → ∀ x ∈ l.notices, x.notice.kind ≠ n.kind) ∧ l.notices.length < 16 ∧
        enqueueNotice n l =
          { l with notices := insertNotice { notice := n, priority := l.levelOf n.kind, age := l.nextAge } l.notices,
                   nextAge := l.nextAge + 1 }) ∨
      (l.levelOf n.kind ≠ 0 ∧ (n.kind.isState = true → ∀ x ∈ l.notices, x.notice.kind ≠ n.kind) ∧ 16 ≤ l.notices.length ∧
        ((lowestPriority (l.levelOf n.kind) l.notices < l.levelOf n.kind ∧
            enqueueNotice n l =
              { l with notices := insertNotice { notice := n, priority := l.levelOf n.kind, age := l.nextAge }
                         (l.notices.eraseP fun x => x.priority == lowestPriority (l.levelOf n.kind) l.notices),
                       nextAge := l.nextAge + 1, noticesLost := true }) ∨
          (¬ lowestPriority (l.levelOf n.kind) l.notices < l.levelOf n.kind ∧
            enqueueNotice n l = { l with noticesLost := true }))) := by
  unfold enqueueNotice
  dsimp only
  split
  · exact Or.inl ⟨by assumption, rfl⟩
  · split
    · simp_all
    · have hk : n.kind.isState = true → ∀ x ∈ l.notices, x.notice.kind ≠ n.kind := by simp_all
      split
      · exact Or.inr (Or.inr (Or.inl ⟨by assumption, hk, by assumption, rfl⟩))
      · refine Or.inr (Or.inr (Or.inr ⟨by assumption, hk, by omega, ?_⟩))
        split
        · exact Or.inl ⟨by assumption, rfl⟩
        · exact Or.inr ⟨by assumption, rfl⟩

/-- Posting writes the notices, the next age and notices lost, and no other item of the link. -/
@[simp] theorem enqueueNotice_frame (n : Notice) (l : Link) :
    (enqueueNotice n l).assembler = l.assembler ∧ (enqueueNotice n l).queue = l.queue ∧ (enqueueNotice n l).reply = l.reply ∧
      (enqueueNotice n l).tx = l.tx ∧ (enqueueNotice n l).levels = l.levels ∧ (enqueueNotice n l).telPeriod = l.telPeriod ∧
      (enqueueNotice n l).telTimer = l.telTimer ∧ (enqueueNotice n l).framesDropped = l.framesDropped ∧
      (enqueueNotice n l).resetPending = l.resetPending := by
  rcases enqueueNotice_cases n l with ⟨-, h⟩ | ⟨-, -, -, h⟩ | ⟨-, -, -, h⟩ | ⟨-, -, -, ⟨-, h⟩ | ⟨-, h⟩⟩ <;> rw [h] <;> simp

@[simp] theorem postNotice_link (n : Notice) (s : State) : (postNotice n s).link = txTake (enqueueNotice n s.link) := rfl

/-! ## Counters (R164, R165) -/

/-- What an event can do to the counters. -/
theorem addCounts_cases (adds : Four Nat) (s : State) :
    (s.monitor.frozen = true ∧ addCounts adds s = s) ∨
      (s.monitor.frozen = false ∧ (addCounts adds s).monitor.counters = s.monitor.counters.zip adds Counter.add ∧
        ((addCounts adds s).monitor.frozen = false → (addCounts adds s).link = s.link)) := by
  unfold addCounts
  split
  · exact Or.inl ⟨by assumption, rfl⟩
  · refine Or.inr ⟨by simp_all, ?_, ?_⟩
    · dsimp only; split <;> simp [postNotice]
    · dsimp only; split <;> simp_all [postNotice]

/-! ## The mode (R82, R109) -/

@[simp] theorem setMode_mode (m : Mode) (sub : Option SubStage) (cause : ModeCause) (s : State) :
    (setMode m sub cause s).planner.mode = m ∧ (setMode m sub cause s).planner.sub = sub := by
  unfold setMode
  dsimp only
  split
  · simp_all
  · simp

@[simp] theorem setMode_planner (m : Mode) (sub : Option SubStage) (cause : ModeCause) (s : State) :
    (setMode m sub cause s).planner.vRef = s.planner.vRef ∧ (setMode m sub cause s).planner.aRef = s.planner.aRef ∧
      (setMode m sub cause s).planner.goal = s.planner.goal ∧
      (setMode m sub cause s).planner.stopInForce = s.planner.stopInForce ∧
      (setMode m sub cause s).planner.stopCause = s.planner.stopCause ∧
      (setMode m sub cause s).planner.brake = s.planner.brake ∧ (setMode m sub cause s).planner.pinch = s.planner.pinch ∧
      (setMode m sub cause s).planner.drivesCmd = s.planner.drivesCmd := by
  unfold setMode
  dsimp only
  split <;> simp

@[simp] theorem setMode_lines (m : Mode) (sub : Option SubStage) (cause : ModeCause) (s : State) :
    (setMode m sub cause s).lines.brakeS = s.lines.brakeS ∧ (setMode m sub cause s).lines.brakeT = s.lines.brakeT ∧
      (setMode m sub cause s).lines.pinch = s.lines.pinch := by
  unfold setMode
  dsimp only
  split
  · simp
  · simp [refreshInhibit]

@[simp] theorem setMode_record (m : Mode) (sub : Option SubStage) (cause : ModeCause) (s : State) :
    (setMode m sub cause s).fault.record = s.fault.record := by
  unfold setMode
  dsimp only
  split <;> simp [linkTimerOnMode]

/-- A change of mode or sub-stage posts its MODE notice (R109). -/
theorem setMode_posts {m : Mode} {sub : Option SubStage} {cause : ModeCause} {s : State}
    (h : ¬(s.planner.mode = m ∧ s.planner.sub = sub)) :
    (setMode m sub cause s).link =
      txTake (enqueueNotice (.mode m sub s.planner.mode s.planner.stopInForce cause) s.link) := by
  unfold setMode
  dsimp only
  rw [if_neg h]
  simp

/-! ## Stops (R98) and conditions (R148) -/

/-- What a stop demand can do. -/
theorem stopDemand_cases (sev : Severity) (cause : StopCause) (s : State) :
    (stopDemand sev cause s = s ∧
        (s.planner.mode = .idle ∨ s.planner.mode = .braking ∨ s.planner.mode = .braked ∨
          (s.planner.mode = .unloading ∧ sev ≠ .brake) ∨ ∃ now, s.planner.stopInForce = some now ∧ sev.code ≤ now.code)) ∨
      (s.planner.mode = .loading ∧ stopDemand sev cause s = failLoad (modeCauseOf cause) s) ∨
      (sev = .brake ∧ stopDemand sev cause s = enterBraking cause s) ∨
      (sev = .brake ∧ s.planner.stopInForce = none ∧ stopDemand sev cause s = enterBraking cause (endUnit cause s)) ∨
      (sev ≠ .brake ∧ s.planner.stopInForce = none ∧ stopDemand sev cause s = beginStopping sev cause (endUnit cause s)) ∨
      (sev ≠ .brake ∧ (∃ now, s.planner.stopInForce = some now ∧ now.code < sev.code) ∧
        stopDemand sev cause s =
          publishStopCause cause (s.onPlanner fun p => { p with stopInForce := some sev, stopCause := some cause })) := by
  unfold stopDemand
  cases hs : s.planner.stopInForce with
  | none => cases s.planner.mode <;> by_cases hb : sev = .brake <;> simp [hb]
  | some now =>
    by_cases hn : now.code < sev.code
    · cases s.planner.mode <;> by_cases hb : sev = .brake <;> simp_all
    · have hle : sev.code ≤ now.code := by omega
      cases s.planner.mode <;> by_cases hb : sev = .brake <;> simp_all

/-- What the end of a unit's own operation can do. -/
theorem restOrStop_cases (cause : StopCause) (s : State) :
    (s.planner.vRef = 0 ∧ restOrStop cause s = enterHold (modeCauseOf cause) s) ∨
      (s.planner.vRef ≠ 0 ∧ restOrStop cause s = stopDemand .controlled cause s) := by
  unfold restOrStop
  split
  · exact Or.inl ⟨by assumption, rfl⟩
  · exact Or.inr ⟨by assumption, rfl⟩

/-- A condition is latched as the primary, or taken as a secondary (R149, R150). -/
theorem takeConditionAt_cases (c : Condition) (sev : Severity) (s : State) :
    (s.fault.record = none ∧ takeConditionAt c sev s = latchPrimary c sev s) ∨
      (∃ r, s.fault.record = some r ∧ takeConditionAt c sev s = takeSecondary r c sev s) := by
  unfold takeConditionAt
  cases h : s.fault.record <;> simp

/-! ## What stops and conditions leave of the record, the planner and the lines -/

/-- No stop demand writes the fault record. -/
@[simp] theorem stopDemand_record (sev : Severity) (cause : StopCause) (s : State) :
    (stopDemand sev cause s).fault.record = s.fault.record := by
  rcases stopDemand_cases sev cause s with ⟨h, -⟩ | ⟨-, h⟩ | ⟨-, h⟩ | ⟨-, -, h⟩ | ⟨-, -, h⟩ | ⟨-, -, h⟩ <;> rw [h] <;>
    simp [failLoad, enterBraking, beginStopping]

@[simp] theorem restOrStop_record (cause : StopCause) (s : State) : (restOrStop cause s).fault.record = s.fault.record := by
  rcases restOrStop_cases cause s with ⟨-, h⟩ | ⟨-, h⟩ <;> rw [h] <;> simp [enterHold]

/-- A condition taken with no fault latched is the primary of the new record (R149). -/
theorem takeConditionAt_primary {c : Condition} {sev : Severity} {s : State} (h : s.fault.record = none) :
    (takeConditionAt c sev s).fault.record =
      some { primary := c, mode := s.planner.mode, sub := s.planner.sub, vMeas := mmPerS s.tach.vMeas, position := s.tach.position,
             secondaries := [], lost := false, severity := sev } := by
  simp [takeConditionAt, h, latchPrimary, State.onFault]

/-- With a fault latched, its primary and mode are kept, and its severity never falls (R150). -/
theorem takeConditionAt_keeps {c : Condition} {sev : Severity} {s : State} {r : FaultRecord} (h : s.fault.record = some r) :
    ∃ f, (takeConditionAt c sev s).fault.record = some f ∧ f.primary = r.primary ∧ f.mode = r.mode ∧ f.sub = r.sub ∧
      f.vMeas = r.vMeas ∧ f.position = r.position ∧ f.severity = (if r.severity.code < sev.code then sev else r.severity) := by
  unfold takeConditionAt
  rw [h]
  unfold takeSecondary
  dsimp only
  split <;> split <;> simp_all [State.onFault]

/-- A flag of a record that the spec gives no contents is sent as 0 or 1, whatever the free value (R192). -/
theorem undefinedFlag_cases (selector place : Nat) : undefinedFlag selector place = [0] ∨ undefinedFlag selector place = [1] := by
  unfold undefinedFlag
  cases (Config.undefinedRecord selector place).toNat % 2 == 1
  · exact .inl (by decide)
  · exact .inr (by decide)

end Sys2Proof.Machine
end

