-- ==== Sys2Proof/Laws/PerInstr.lean ====
section
/-! SUPPORT. Laws/PerInstr.lean: what holds of every command as a term, one lemma a command. CommandForm: the frame of a
well-formed request fits the serial line, a request kind below 0x80 and at most 120 payload bytes (section 10.1, R181). -/

namespace Sys2Proof.Laws.CommandForm

/-- The frame that a well-formed command has, if it is a request, is one that the host may send. -/
def Statement (c : Instr) : Prop := c.wf = true → ∀ f, encodeFrame c = some f → f.kind.toNat < 0x80 ∧ f.payload.length ≤ 120

theorem powerOn : Statement .powerOn := by
  rintro - f ⟨⟩

theorem resetInAssert : Statement .resetInAssert := by
  rintro - f ⟨⟩

theorem resetEnd : Statement .resetEnd := by
  rintro - f ⟨⟩

theorem frameReceived (byte : Byte) : Statement (.frameReceived byte) := by
  rintro - f ⟨⟩

theorem interByteTimeout : Statement .interByteTimeout := by
  rintro - f ⟨⟩

theorem requestUnknownKind (kind tag : Byte) (payload : List Byte) : Statement (.requestUnknownKind kind tag payload) := by
  rintro h f ⟨⟩
  simp only [Instr.wf, Bool.and_eq_true, decide_eq_true_eq] at h
  exact h.1

theorem requestBadLength (kind tag : Byte) (payload : List Byte) : Statement (.requestBadLength kind tag payload) := by
  rintro h f ⟨⟩
  simp only [Instr.wf, Bool.and_eq_true, decide_eq_true_eq, beq_iff_eq] at h
  refine ⟨?_, h.1⟩
  have hk : lengthAllowed kind.toNat payload ≠ none := by rw [h.2]; simp
  unfold lengthAllowed at hk
  split at hk <;> first | omega | simp_all

theorem frameSent : Statement .frameSent := by
  rintro - f ⟨⟩

theorem telemetryTimerExpiry : Statement .telemetryTimerExpiry := by
  rintro - f ⟨⟩

theorem resetAfterReply : Statement .resetAfterReply := by
  rintro - f ⟨⟩

theorem ping (tag : Byte) (payload : List Byte) : Statement (.ping tag payload) := by
  rintro h f ⟨⟩
  simp only [Instr.wf, decide_eq_true_eq] at h
  exact ⟨by simp, by dsimp only; omega⟩

theorem getStatus (tag : Byte) : Statement (.getStatus tag) := by
  rintro - f ⟨⟩
  exact ⟨by simp, by simp⟩

theorem reset (tag : Byte) (retain : Nat) : Statement (.reset tag retain) := by
  rintro - f ⟨⟩
  exact ⟨by simp, by simp [bytesU8]⟩

theorem setNoticeLevel (tag : Byte) (kind level : Nat) : Statement (.setNoticeLevel tag kind level) := by
  rintro - f ⟨⟩
  exact ⟨by simp, by simp [bytesU8]⟩

theorem setTelemetry (tag : Byte) (period : Nat) : Statement (.setTelemetry tag period) := by
  rintro - f ⟨⟩
  exact ⟨by simp, by simp [bytesU16]⟩

theorem setLinkTimeout (tag : Byte) (timeout : Nat) : Statement (.setLinkTimeout tag timeout) := by
  rintro - f ⟨⟩
  exact ⟨by simp, by simp [bytesU16]⟩

theorem getFault (tag : Byte) : Statement (.getFault tag) := by
  rintro - f ⟨⟩
  exact ⟨by simp, by simp⟩

theorem clearFault (tag : Byte) : Statement (.clearFault tag) := by
  rintro - f ⟨⟩
  exact ⟨by simp, by simp⟩

theorem setSense (tag : Byte) (channel apply range cMin cMax tOn tOff suppress : Nat) :
    Statement (.setSense tag channel apply range cMin cMax tOn tOff suppress) := by
  rintro - f ⟨⟩
  exact ⟨by simp, by simp [bytesU8, bytesU16]⟩

theorem setArmCal (tag : Byte) (channel cCentre cFull : Nat) : Statement (.setArmCal tag channel cCentre cFull) := by
  rintro - f ⟨⟩
  exact ⟨by simp, by simp [bytesU8, bytesU16]⟩

theorem setReel (tag : Byte) (side apply hub flange jf f tauLim tauFs : Nat) :
    Statement (.setReel tag side apply hub flange jf f tauLim tauFs) := by
  rintro - f ⟨⟩
  exact ⟨by simp, by simp [bytesU8, bytesU16, bytesU32]⟩

theorem setTape (tag : Byte) (apply t kj tMin tNom tMax tThr tSpan : Nat) :
    Statement (.setTape tag apply t kj tMin tNom tMax tThr tSpan) := by
  rintro - f ⟨⟩
  exact ⟨by simp, by simp [bytesU8, bytesU16, bytesU32]⟩

theorem setTension (tag : Byte) (tension : Nat) : Statement (.setTension tag tension) := by
  rintro - f ⟨⟩
  exact ⟨by simp, by simp [bytesU16]⟩

theorem setGains (tag : Byte) (apply kpS kiS iMaxS kpT kiT iMaxT kv : Nat) :
    Statement (.setGains tag apply kpS kiS iMaxS kpT kiT iMaxT kv) := by
  rintro - f ⟨⟩
  exact ⟨by simp, by simp [bytesU8, bytesU16, bytesU32]⟩

theorem setSlew (tag : Byte) (sigma : Nat) : Statement (.setSlew tag sigma) := by
  rintro - f ⟨⟩
  exact ⟨by simp, by simp [bytesU8]⟩

theorem setCapstan (tag : Byte) (apply ell w rho : Nat) : Statement (.setCapstan tag apply ell w rho) := by
  rintro - f ⟨⟩
  exact ⟨by simp, by simp [bytesU8, bytesU32]⟩

theorem setReference (tag : Byte) (source m d : Nat) : Statement (.setReference tag source m d) := by
  rintro - f ⟨⟩
  exact ⟨by simp, by simp [bytesU8, bytesU16]⟩

theorem setVarispeed (tag : Byte) (vsHost : Int) : Statement (.setVarispeed tag vsHost) := by
  rintro - f ⟨⟩
  exact ⟨by simp, by simp [bytesU16, bytesS16]⟩

theorem setLockNotice (tag : Byte) (choice : Nat) : Statement (.setLockNotice tag choice) := by
  rintro - f ⟨⟩
  exact ⟨by simp, by simp [bytesU8]⟩

theorem load (tag : Byte) : Statement (.load tag) := by
  rintro - f ⟨⟩
  exact ⟨by simp, by simp⟩

theorem unload (tag : Byte) : Statement (.unload tag) := by
  rintro - f ⟨⟩
  exact ⟨by simp, by simp⟩

theorem play (tag : Byte) : Statement (.play tag) := by
  rintro - f ⟨⟩
  exact ⟨by simp, by simp⟩

theorem wind (tag : Byte) (speed : Int) : Statement (.wind tag speed) := by
  rintro - f ⟨⟩
  exact ⟨by simp, by simp [bytesU16, bytesS16]⟩

theorem stop (tag : Byte) (kind : Nat) : Statement (.stop tag kind) := by
  rintro - f ⟨⟩
  exact ⟨by simp, by simp [bytesU8]⟩

theorem setLimits (tag : Byte) (apply vMax aAcc aDec guard : Nat) : Statement (.setLimits tag apply vMax aAcc aDec guard) := by
  rintro - f ⟨⟩
  exact ⟨by simp, by simp [bytesU8, bytesU16, bytesU32]⟩

theorem presetPosition (tag : Byte) (value : Int) : Statement (.presetPosition tag value) := by
  rintro - f ⟨⟩
  exact ⟨by simp, by simp [bytesU32, bytesS32]⟩

theorem positionFix (tag : Byte) (value : Int) (window : Nat) : Statement (.positionFix tag value window) := by
  rintro - f ⟨⟩
  exact ⟨by simp, by simp [bytesU16, bytesU32, bytesS32]⟩

theorem setZone (tag : Byte) (index enabled : Nat) (base : Int) (k limit scale dirs inhibit : Nat) :
    Statement (.setZone tag index enabled base k limit scale dirs inhibit) := by
  rintro - f ⟨⟩
  exact ⟨by simp, by simp [bytesU8, bytesU16, bytesU32, bytesS32]⟩

theorem clearZone (tag : Byte) (index : Nat) : Statement (.clearZone tag index) := by
  rintro - f ⟨⟩
  exact ⟨by simp, by simp [bytesU8]⟩

theorem setBaseZone (tag : Byte) (limit scale dirs inhibit : Nat) : Statement (.setBaseZone tag limit scale dirs inhibit) := by
  rintro - f ⟨⟩
  exact ⟨by simp, by simp [bytesU8, bytesU16]⟩

theorem getZones (tag : Byte) : Statement (.getZones tag) := by
  rintro - f ⟨⟩
  exact ⟨by simp, by simp⟩

theorem addCue (tag : Byte) (id : Nat) (position : Int) (kind : Nat) (label : List Byte) :
    Statement (.addCue tag id position kind label) := by
  rintro h f ⟨⟩
  simp only [Instr.wf, Bool.and_eq_true, decide_eq_true_eq] at h
  refine ⟨by simp, ?_⟩
  simp [bytesU8, bytesS32, bytesU32]
  omega

theorem deleteCue (tag : Byte) (id : Nat) : Statement (.deleteCue tag id) := by
  rintro - f ⟨⟩
  exact ⟨by simp, by simp [bytesU8]⟩

theorem clearCues (tag : Byte) : Statement (.clearCues tag) := by
  rintro - f ⟨⟩
  exact ⟨by simp, by simp⟩

theorem getCues (tag : Byte) (start count : Nat) : Statement (.getCues tag start count) := by
  rintro - f ⟨⟩
  exact ⟨by simp, by simp [bytesU8]⟩

theorem locate (tag : Byte) (targetKind : Nat) (position : Int)
    (cueId thenPlay preroll approachDist approachSpeed tolerance : Nat) :
    Statement (.locate tag targetKind position cueId thenPlay preroll approachDist approachSpeed tolerance) := by
  rintro - f ⟨⟩
  exact ⟨by simp, by simp [bytesU8, bytesU16, bytesU32, bytesS32]⟩

theorem chaseStart (tag : Byte) (offset : Int) (window lead paramFlag gain reseek freewheel : Nat) :
    Statement (.chaseStart tag offset window lead paramFlag gain reseek freewheel) := by
  rintro - f ⟨⟩
  exact ⟨by simp, by simp [bytesU8, bytesU16, bytesU32, bytesS32]⟩

theorem masterPosition (tag : Byte) (position speed : Int) : Statement (.masterPosition tag position speed) := by
  rintro - f ⟨⟩
  exact ⟨by simp, by simp [bytesU16, bytesU32, bytesS16, bytesS32]⟩

theorem chaseStop (tag : Byte) : Statement (.chaseStop tag) := by
  rintro - f ⟨⟩
  exact ⟨by simp, by simp⟩

theorem setCounter (tag : Byte) (counter apply event qualifier edge invert threshold ovfNotice enable : Nat) :
    Statement (.setCounter tag counter apply event qualifier edge invert threshold ovfNotice enable) := by
  rintro - f ⟨⟩
  exact ⟨by simp, by simp [bytesU8, bytesU16]⟩

theorem readCounters (tag : Byte) (clear : Nat) : Statement (.readCounters tag clear) := by
  rintro - f ⟨⟩
  exact ⟨by simp, by simp [bytesU8]⟩

theorem freeze (tag : Byte) : Statement (.freeze tag) := by
  rintro - f ⟨⟩
  exact ⟨by simp, by simp⟩

theorem unfreeze (tag : Byte) : Statement (.unfreeze tag) := by
  rintro - f ⟨⟩
  exact ⟨by simp, by simp⟩

theorem resetCounters (tag : Byte) : Statement (.resetCounters tag) := by
  rintro - f ⟨⟩
  exact ⟨by simp, by simp⟩

theorem surveyStart (tag : Byte) (start finish : Int) (speed tension : Nat) (step : Int)
    (stepCount dwell limitSource limitValue slackThr excThr fastFlag thres shift : Nat) :
    Statement (.surveyStart tag start finish speed tension step stepCount dwell limitSource limitValue slackThr excThr fastFlag thres shift) := by
  rintro - f ⟨⟩
  exact ⟨by simp, by simp [bytesU8, bytesU16, bytesU32, bytesS8, bytesS32]⟩

theorem surveyAbort (tag : Byte) : Statement (.surveyAbort tag) := by
  rintro - f ⟨⟩
  exact ⟨by simp, by simp⟩

theorem getSurvey (tag : Byte) (start count : Nat) : Statement (.getSurvey tag start count) := by
  rintro - f ⟨⟩
  exact ⟨by simp, by simp [bytesU8]⟩

theorem armMeasurementComplete (reel : Reel) (count : Nat) : Statement (.armMeasurementComplete reel count) := by
  rintro - f ⟨⟩

theorem presenceMeasurementComplete (count : Nat) : Statement (.presenceMeasurementComplete count) := by
  rintro - f ⟨⟩

theorem measurementStalled (counter : SenseCounter) : Statement (.measurementStalled counter) := by
  rintro - f ⟨⟩

theorem rollerEdge (dir : Dir) : Statement (.rollerEdge dir) := by
  rintro - f ⟨⟩

theorem reelTachEdge (reel : Reel) (winding : Bool) : Statement (.reelTachEdge reel winding) := by
  rintro - f ⟨⟩

theorem predictionCountFull (reel : Reel) (winding : Bool) : Statement (.predictionCountFull reel winding) := by
  rintro - f ⟨⟩

theorem packWindowComplete (reel : Reel) (winding : Bool) : Statement (.packWindowComplete reel winding) := by
  rintro - f ⟨⟩

theorem packResync (reel : Reel) (winding : Bool) : Statement (.packResync reel winding) := by
  rintro - f ⟨⟩

theorem speedSample : Statement .speedSample := by
  rintro - f ⟨⟩

theorem servoSample : Statement .servoSample := by
  rintro - f ⟨⟩

theorem saturation (reel : Reel) : Statement (.saturation reel) := by
  rintro - f ⟨⟩

theorem slack (reel : Reel) : Statement (.slack reel) := by
  rintro - f ⟨⟩

theorem overtension (reel : Reel) : Statement (.overtension reel) := by
  rintro - f ⟨⟩

theorem supplyLowAssert : Statement .supplyLowAssert := by
  rintro - f ⟨⟩

theorem supplyLowDeassert : Statement .supplyLowDeassert := by
  rintro - f ⟨⟩

theorem driveRecoveryExpiry : Statement .driveRecoveryExpiry := by
  rintro - f ⟨⟩

theorem capstanStep : Statement .capstanStep := by
  rintro - f ⟨⟩

theorem capstanStall : Statement .capstanStall := by
  rintro - f ⟨⟩

theorem capstanEncoderEdge (dir : Dir) : Statement (.capstanEncoderEdge dir) := by
  rintro - f ⟨⟩

theorem capstanLockGained (dir : Dir) : Statement (.capstanLockGained dir) := by
  rintro - f ⟨⟩

theorem capstanLockLost (dir : Dir) : Statement (.capstanLockLost dir) := by
  rintro - f ⟨⟩

theorem refInEdge (period : Nat) : Statement (.refInEdge period) := by
  rintro - f ⟨⟩

theorem internalReferenceEdge : Statement .internalReferenceEdge := by
  rintro - f ⟨⟩

theorem referenceReturned (period : Nat) : Statement (.referenceReturned period) := by
  rintro - f ⟨⟩

theorem referenceLost : Statement .referenceLost := by
  rintro - f ⟨⟩

theorem plannerStep : Statement .plannerStep := by
  rintro - f ⟨⟩

theorem brakeComplete : Statement .brakeComplete := by
  rintro - f ⟨⟩

theorem pinchComplete : Statement .pinchComplete := by
  rintro - f ⟨⟩

theorem loadTakeUpDone : Statement .loadTakeUpDone := by
  rintro - f ⟨⟩

theorem loadTimeout : Statement .loadTimeout := by
  rintro - f ⟨⟩

theorem engageMatch : Statement .engageMatch := by
  rintro - f ⟨⟩

theorem pinchCloseCommand : Statement .pinchCloseCommand := by
  rintro - f ⟨⟩

theorem engageTimeout : Statement .engageTimeout := by
  rintro - f ⟨⟩

theorem brakingStandstill : Statement .brakingStandstill := by
  rintro - f ⟨⟩

theorem locateUnitStep : Statement .locateUnitStep := by
  rintro - f ⟨⟩

theorem locateSettled : Statement .locateSettled := by
  rintro - f ⟨⟩

theorem chaseLocked (tag : Byte) (position speed : Int) : Statement (.chaseLocked tag position speed) := by
  rintro - f ⟨⟩

theorem chaseLoss (tag : Byte) (position speed : Int) : Statement (.chaseLoss tag position speed) := by
  rintro - f ⟨⟩

theorem chaseSilence : Statement .chaseSilence := by
  rintro - f ⟨⟩

theorem chaseMasterLost : Statement .chaseMasterLost := by
  rintro - f ⟨⟩

theorem powerFailAssert : Statement .powerFailAssert := by
  rintro - f ⟨⟩

theorem powerFailDeassert : Statement .powerFailDeassert := by
  rintro - f ⟨⟩

theorem linkSilence : Statement .linkSilence := by
  rintro - f ⟨⟩

theorem surveySettleDone : Statement .surveySettleDone := by
  rintro - f ⟨⟩

theorem surveyStepEnd : Statement .surveyStepEnd := by
  rintro - f ⟨⟩

theorem byteReceived (byte : Byte) (framingError : Bool) : Statement (.byteReceived byte framingError) := by
  rintro - f ⟨⟩

end Sys2Proof.Laws.CommandForm
end

