-- ==== Sys2Proof/Tests/Slice0.lean ====
section
/-! SUPPORT. Tests/Slice0.lean: our own tests: ill-formed terms refused, frames written out byte by byte from Table 11-4, the spec's
worked cases, and for each statement of Certificates/Slice0/Obligations.lean that has hypotheses a concrete state and operands that
meet them, clause by clause. A docstring names the place in spec/ that an expected value comes from. -/

namespace Sys2Proof.Tests

set_option Elab.async false

open Sys2Proof.Machine

/-! ## Ill-formed terms -/

def allWf (l : List Instr) : Bool := l.all fun c => c.wf

def noneWf (l : List Instr) : Bool := l.all fun c => !c.wf

theorem test_wf_link :
    allWf
      [.reset 0 0, .setNoticeLevel 0 0 0, .setTelemetry 0 0, .setLinkTimeout 0 0] = true ∧
    noneWf
      [.reset 0 256, .setNoticeLevel 0 256 0, .setNoticeLevel 0 0 256, .setTelemetry 0 65536, .setLinkTimeout 0 65536] = true := by
  decide

theorem test_wf_sensing :
    allWf
      [.setSense 0 0 0 0 0 0 0 0 0, .setArmCal 0 0 0 0, .setReel 0 0 0 0 0 0 0 0 0, .setTape 0 0 0 0 0 0 0 0 0] = true ∧
    noneWf
      [.setSense 0 256 0 0 0 0 0 0 0, .setSense 0 0 256 0 0 0 0 0 0, .setSense 0 0 0 256 0 0 0 0 0,
       .setSense 0 0 0 0 65536 0 0 0 0, .setSense 0 0 0 0 0 65536 0 0 0, .setSense 0 0 0 0 0 0 65536 0 0,
       .setSense 0 0 0 0 0 0 0 65536 0, .setSense 0 0 0 0 0 0 0 0 256, .setArmCal 0 256 0 0, .setArmCal 0 0 65536 0,
       .setArmCal 0 0 0 65536, .setReel 0 256 0 0 0 0 0 0 0, .setReel 0 0 256 0 0 0 0 0 0,
       .setReel 0 0 0 4294967296 0 0 0 0 0, .setReel 0 0 0 0 4294967296 0 0 0 0, .setReel 0 0 0 0 0 65536 0 0 0,
       .setReel 0 0 0 0 0 0 65536 0 0, .setReel 0 0 0 0 0 0 0 65536 0, .setReel 0 0 0 0 0 0 0 0 65536,
       .setTape 0 256 0 0 0 0 0 0 0, .setTape 0 0 256 0 0 0 0 0 0, .setTape 0 0 0 4294967296 0 0 0 0 0,
       .setTape 0 0 0 0 65536 0 0 0 0, .setTape 0 0 0 0 0 65536 0 0 0, .setTape 0 0 0 0 0 0 65536 0 0,
       .setTape 0 0 0 0 0 0 0 65536 0, .setTape 0 0 0 0 0 0 0 0 65536] = true := by
  decide

theorem test_wf_drives :
    allWf
      [.setTension 0 0, .setGains 0 0 0 0 0 0 0 0 0, .setSlew 0 0, .setCapstan 0 0 0 0 0, .setReference 0 0 0 0,
       .setVarispeed 0 0, .setLockNotice 0 0] = true ∧
    noneWf
      [.setTension 0 65536, .setGains 0 256 0 0 0 0 0 0 0, .setGains 0 0 65536 0 0 0 0 0 0,
       .setGains 0 0 0 256 0 0 0 0 0, .setGains 0 0 0 0 4294967296 0 0 0 0, .setGains 0 0 0 0 0 65536 0 0 0,
       .setGains 0 0 0 0 0 0 256 0 0, .setGains 0 0 0 0 0 0 0 4294967296 0, .setGains 0 0 0 0 0 0 0 0 65536,
       .setSlew 0 256, .setCapstan 0 256 0 0 0, .setCapstan 0 0 4294967296 0 0, .setCapstan 0 0 0 256 0,
       .setCapstan 0 0 0 0 256, .setReference 0 256 0 0, .setReference 0 0 65536 0, .setReference 0 0 0 65536,
       .setVarispeed 0 (-32769), .setVarispeed 0 32768, .setLockNotice 0 256] = true := by
  decide

theorem test_wf_motion :
    allWf
      [.wind 0 0, .stop 0 0, .setLimits 0 0 0 0 0 0, .presetPosition 0 0, .positionFix 0 0 0] = true ∧
    noneWf
      [.wind 0 (-32769), .wind 0 32768, .stop 0 256, .setLimits 0 256 0 0 0 0, .setLimits 0 0 65536 0 0 0,
       .setLimits 0 0 0 65536 0 0, .setLimits 0 0 0 0 65536 0, .setLimits 0 0 0 0 0 4294967296,
       .presetPosition 0 (-2147483649), .presetPosition 0 2147483648, .positionFix 0 (-2147483649) 0,
       .positionFix 0 2147483648 0, .positionFix 0 0 65536] = true := by
  decide

theorem test_wf_zones_and_cues :
    allWf
      [.setZone 0 0 0 0 0 0 0 0 0, .clearZone 0 0, .setBaseZone 0 0 0 0 0, .deleteCue 0 0, .getCues 0 0 0] = true ∧
    noneWf
      [.setZone 0 256 0 0 0 0 0 0 0, .setZone 0 0 256 0 0 0 0 0 0, .setZone 0 0 0 (-2147483649) 0 0 0 0 0,
       .setZone 0 0 0 2147483648 0 0 0 0 0, .setZone 0 0 0 0 256 0 0 0 0, .setZone 0 0 0 0 0 65536 0 0 0,
       .setZone 0 0 0 0 0 0 256 0 0, .setZone 0 0 0 0 0 0 0 256 0, .setZone 0 0 0 0 0 0 0 0 256, .clearZone 0 256,
       .setBaseZone 0 65536 0 0 0, .setBaseZone 0 0 256 0 0, .setBaseZone 0 0 0 256 0, .setBaseZone 0 0 0 0 256,
       .deleteCue 0 256, .getCues 0 256 0, .getCues 0 0 256] = true := by
  decide

theorem test_wf_chase :
    allWf
      [.locate 0 0 0 0 0 0 0 0 0, .chaseStart 0 0 0 0 0 0 0 0, .masterPosition 0 0 0, .chaseLocked 0 0 0, .chaseLoss 0 0 0] = true ∧
    noneWf
      [.locate 0 256 0 0 0 0 0 0 0, .locate 0 0 (-2147483649) 0 0 0 0 0 0, .locate 0 0 2147483648 0 0 0 0 0 0,
       .locate 0 0 0 256 0 0 0 0 0, .locate 0 0 0 0 256 0 0 0 0, .locate 0 0 0 0 0 4294967296 0 0 0,
       .locate 0 0 0 0 0 0 4294967296 0 0, .locate 0 0 0 0 0 0 0 65536 0, .locate 0 0 0 0 0 0 0 0 65536,
       .chaseStart 0 (-2147483649) 0 0 0 0 0 0, .chaseStart 0 2147483648 0 0 0 0 0 0, .chaseStart 0 0 65536 0 0 0 0 0,
       .chaseStart 0 0 0 65536 0 0 0 0, .chaseStart 0 0 0 0 256 0 0 0, .chaseStart 0 0 0 0 0 65536 0 0,
       .chaseStart 0 0 0 0 0 0 4294967296 0, .chaseStart 0 0 0 0 0 0 0 65536, .masterPosition 0 (-2147483649) 0,
       .masterPosition 0 2147483648 0, .masterPosition 0 0 (-32769), .masterPosition 0 0 32768,
       .chaseLocked 0 (-2147483649) 0, .chaseLocked 0 2147483648 0, .chaseLocked 0 0 (-32769), .chaseLocked 0 0 32768,
       .chaseLoss 0 (-2147483649) 0, .chaseLoss 0 2147483648 0, .chaseLoss 0 0 (-32769), .chaseLoss 0 0 32768] = true := by
  decide

theorem test_wf_monitor_and_survey :
    allWf
      [.setCounter 0 0 0 0 0 0 0 0 0 0, .readCounters 0 0, .surveyStart 0 0 0 0 0 0 0 0 0 0 0 0 0 0 0, .getSurvey 0 0 0] = true ∧
    noneWf
      [.setCounter 0 256 0 0 0 0 0 0 0 0, .setCounter 0 0 256 0 0 0 0 0 0 0, .setCounter 0 0 0 256 0 0 0 0 0 0,
       .setCounter 0 0 0 0 256 0 0 0 0 0, .setCounter 0 0 0 0 0 256 0 0 0 0, .setCounter 0 0 0 0 0 0 256 0 0 0,
       .setCounter 0 0 0 0 0 0 0 65536 0 0, .setCounter 0 0 0 0 0 0 0 0 256 0, .setCounter 0 0 0 0 0 0 0 0 0 256,
       .readCounters 0 256, .surveyStart 0 (-2147483649) 0 0 0 0 0 0 0 0 0 0 0 0 0,
       .surveyStart 0 2147483648 0 0 0 0 0 0 0 0 0 0 0 0 0, .surveyStart 0 0 (-2147483649) 0 0 0 0 0 0 0 0 0 0 0 0,
       .surveyStart 0 0 2147483648 0 0 0 0 0 0 0 0 0 0 0 0, .surveyStart 0 0 0 65536 0 0 0 0 0 0 0 0 0 0 0,
       .surveyStart 0 0 0 0 65536 0 0 0 0 0 0 0 0 0 0, .surveyStart 0 0 0 0 0 (-129) 0 0 0 0 0 0 0 0 0,
       .surveyStart 0 0 0 0 0 128 0 0 0 0 0 0 0 0 0, .surveyStart 0 0 0 0 0 0 256 0 0 0 0 0 0 0 0,
       .surveyStart 0 0 0 0 0 0 0 65536 0 0 0 0 0 0 0, .surveyStart 0 0 0 0 0 0 0 0 256 0 0 0 0 0 0,
       .surveyStart 0 0 0 0 0 0 0 0 0 4294967296 0 0 0 0 0, .surveyStart 0 0 0 0 0 0 0 0 0 0 65536 0 0 0 0,
       .surveyStart 0 0 0 0 0 0 0 0 0 0 0 65536 0 0 0, .surveyStart 0 0 0 0 0 0 0 0 0 0 0 0 256 0 0,
       .surveyStart 0 0 0 0 0 0 0 0 0 0 0 0 0 256 0, .surveyStart 0 0 0 0 0 0 0 0 0 0 0 0 0 0 256, .getSurvey 0 256 0,
       .getSurvey 0 0 256] = true := by
  decide

/-- A PING of 9 bytes, a label of 114, counts outside 1 to 48 000 (R2), and frames of a defined kind or an allowed length. -/
theorem test_wf_frames_and_counts :
    allWf
      [.ping 0 (List.replicate 8 0), .addCue 0 255 (-2147483648) 255 (List.replicate 113 0), .armMeasurementComplete .supply 1,
       .presenceMeasurementComplete 48000, .requestUnknownKind 0x07 0 [], .requestBadLength 0x02 0 [0]] = true ∧
    noneWf
      [.ping 0 (List.replicate 9 0), .addCue 0 256 0 0 [], .addCue 0 0 2147483648 0 [], .addCue 0 0 0 256 [],
       .addCue 0 0 0 0 (List.replicate 114 0), .armMeasurementComplete .supply 0, .presenceMeasurementComplete 48001,
       .requestUnknownKind 0x80 0 [], .requestUnknownKind 0x02 0 [], .requestUnknownKind 0x07 0 (List.replicate 121 0),
       .requestBadLength 0x02 0 [], .requestBadLength 0x07 0 [0], .requestBadLength 0x02 0 (List.replicate 121 0)] = true := by
  decide

/-! ## Frames, byte by byte -/

/-- Table 11-1 and R180: SET_SLEW with σ 20 and tag 7 is A5 01 1A 07 14 and a check byte that makes the sum of the five 0. -/
theorem test_frame_bytes : frameBytes 0x1A 7 [0x14] = [0xA5, 0x01, 0x1A, 0x07, 0x14, 0xCA] := by decide

/-- Table 11-4, requests of the link, the senses and the drives. -/
theorem test_decode_link_and_drives :
    decodeFrame { kind := 0x01, tag := 9, payload := [1, 2] } = .ping 9 [1, 2] ∧
    decodeFrame { kind := 0x05, tag := 1, payload := [0xE8, 0x03] } = .setTelemetry 1 1000 ∧
    decodeFrame { kind := 0x11, tag := 2, payload := [1, 0x88, 0x13, 0x40, 0x1F] } = .setArmCal 2 1 5000 8000 ∧
    decodeFrame { kind := 0x14, tag := 3, payload := [1, 1, 0x50, 0xC3, 0, 0, 0x50, 0xB7, 2, 0, 0x28, 0x0A, 0x28, 0, 0x40, 0x1F, 0x30, 0x75] } =
      .setReel 3 1 1 50000 178000 2600 40 8000 30000 ∧
    decodeFrame { kind := 0x18, tag := 4, payload := [0x96, 0] } = .setTension 4 150 ∧
    decodeFrame { kind := 0x22, tag := 5, payload := [0x9C, 0xFF] } = .setVarispeed 5 (-100) := by decide

/-- Table 11-4, requests of the planner, the tables, the chase and the survey. -/
theorem test_decode_motion_and_tables :
    decodeFrame { kind := 0x2A, tag := 1, payload := [] } = .play 1 ∧
    decodeFrame { kind := 0x2B, tag := 1, payload := [0xC0, 0xE0] } = .wind 1 (-8000) ∧
    decodeFrame { kind := 0x30, tag := 2, payload := [0, 0x36, 0x65, 0xC4] } = .presetPosition 2 (-1000000000) ∧
    decodeFrame { kind := 0x34, tag := 2, payload := [2, 1, 0, 0, 0x40, 0, 22, 0xD0, 7, 100, 0, 0] } =
      .setZone 2 2 1 4194304 22 2000 100 0 0 ∧
    decodeFrame { kind := 0x38, tag := 3, payload := [9, 0, 0x53, 7, 0, 1, 2, 0x54, 0x32] } = .addCue 3 9 480000 1 [0x54, 0x32] ∧
    decodeFrame { kind := 0x42, tag := 4, payload := [0x40, 0x42, 0x0F, 0, 0x7D, 1] } = .masterPosition 4 1000000 381 ∧
    decodeFrame { kind := 0x48, tag := 5, payload := [3, 1, 5, 2, 0, 0, 0x2C, 1, 1, 1] } = .setCounter 5 3 1 5 2 0 0 300 1 1 ∧
    decodeFrame { kind := 0x52, tag := 6, payload := [1, 6] } = .getSurvey 6 1 6 := by decide

/-- R182, R194: a kind that is not defined, a length that its kind does not allow. -/
theorem test_decode_refused :
    decodeFrame { kind := 0x07, tag := 1, payload := [] } = .requestUnknownKind 0x07 1 [] ∧
    decodeFrame { kind := 0x2B, tag := 1, payload := [0] } = .requestBadLength 0x2B 1 [0] := by decide

/-- The opcode table gives no row any bits: no word spells a command, and `withFetchWord` leaves the state. -/
theorem test_no_word_decodes :
    decodeTableWord 8 5 = none ∧ (State.reset.withFetchWord 8 5).pending = [] := by decide

/-! ## States to test from -/

/-- The state after reset in another mode. -/
def inMode (m : Mode) : State := State.reset.onPlanner fun p => { p with mode := m }

/-- A fault record of one condition. -/
def recordOf (kind : FaultKind) (reel : Option Reel) (sev : Severity) : FaultRecord :=
  { primary := { kind := kind, reel := reel }, mode := .play, sub := none, vMeas := 0, position := 0, secondaries := [],
    lost := false, severity := sev }

def faulted (r : FaultRecord) (s : State) : State := s.onFault fun f => { f with record := some r }

/-- The state after a command; every command answers next. -/
def after (c : Instr) (s : State) : State :=
  match exec c s with
  | .next t => t
  | _ => s

/-- A TRACKING pack of the worked cases. -/
def tracking (radius : Nat) (j : Int) : Pack :=
  { Pack.unknown with status := .tracking, rq := radius * 256, winDir := some .forward, j := j }

/-- The packs of the worked cases of chapters 2, 3 and 5: 120 mm and 80 mm. -/
def workedPacks : Packs :=
  { Packs.cold with pack := { supply := tracking 120000 13031, takeup := tracking 80000 4400 }, a0 := some 20800 }

/-- The state after reset with those packs and the limits they give. -/
def worked : State := recomputeLimits { State.reset with packs := workedPacks }

/-! ## Worked cases of the spec -/

/-- R103 at the cold reset: hubs and flanges of 50 and 178 mm, stand-in radius 114 mm (Table 5-9 gives the rest). -/
theorem test_reset_torque : torqueLimits State.reset = State.reset.planner.torque := by decide +kernel

/-- Section 1.8: PH at t_off = 5 000 debounces 4 820, 5 400 (the dead band), 4 700, a stall, 4 650, 4 690, 4 600 to ABSENT at
the fourth reading in a row, which stops the WIND and blocks forward. -/
theorem test_presence_debounce :
    let s : State :=
      { inMode .wind with
        sense := { Sense.cold with turn := some .ph, ps := { PresenceChannel.cold with range := .off },
                                   pt := { PresenceChannel.cold with range := .off },
                                   ph := { PresenceChannel.cold with state := .present } } }
    let t := ([.presenceMeasurementComplete 6180, .presenceMeasurementComplete 4820, .presenceMeasurementComplete 5400,
      .presenceMeasurementComplete 4700, .measurementStalled .presence, .presenceMeasurementComplete 4650,
      .presenceMeasurementComplete 4690] : List Instr).foldl (fun s c => after c s)
        (s.onPlanner fun p => { p with vRef := 8000000, goal := 8000 })
    let u := after (.presenceMeasurementComplete 4600) t
    t.sense.ph.state = .present ∧ t.sense.ph.run = 3 ∧ u.sense.ph.state = .absent ∧ u.planner.mode = .stopping ∧
      u.planner.fwdBlocked = true := by decide +kernel

/-- Section 2.7.1: a full window of 256 edges over 60 309 roller edges is accepted at 119 984 µm, with J 12 995. -/
theorem test_window_accepted :
    let s := worked.onPack .supply fun k => { k with rq := 30720000 - 255 * 38, wAcc := 255, lAcc := 60309 }
    let t := after (.reelTachEdge .supply false) s
    (t.packs.pack.get .supply).rq = 30715904 ∧ (t.packs.pack.get .supply).j = 12995 := by decide +kernel

/-- Section 2.7.1: J of 50, 80, 120 and 178 mm. -/
theorem test_inertia :
    [50000, 80000, 120000, 178000].map (inertiaAt .cold 51870) = [2600, 4400, 13031, 54346] := by decide +kernel

/-- The state of section 3.7: a forward wind at 0.4 m/s accelerating at 2 000 mm/s². -/
def windSample : State :=
  { worked with
    servo := { Servo.cold with enabled := true, tEff16 := 2400,
                               reels := { supply := { ReelServo.cold with integ := -3000 },
                                          takeup := { ReelServo.cold with integ := 1500 } } }
    tach := { Tach.cold with vMeas := 400000 }
    planner := { worked.planner with mode := .wind, vRef := 402000, aRef := 2000, goal := 8000 }
    sense := { Sense.cold with arms := { supply := { ArmChannel.cold with p := -120 }, takeup := { ArmChannel.cold with p := 40 } } } }

/-- Section 3.7 (Table 3-9): the codes, the integrators and the estimated tensions of that sample. -/
theorem test_servo_sample :
    let t := (after .servoSample windSample).servo.reels
    t.supply.code = -138 ∧ t.takeup.code = 2487 ∧ t.supply.integ = -3120 ∧ t.takeup.integ = 1540 ∧ t.supply.tEst = 138 ∧
      t.takeup.tEst = 154 := by decide +kernel

/-- Section 3.8: in REDUCED the supply reel saturates HIGH at code 4 369, and its integrator holds while p is negative. -/
theorem test_servo_saturates :
    let s := (windSample.onServo fun v => { v with reduced := true }).onPlanner fun p => { p with aRef := -2000 }
    [(-300, -20000), (-250, -20000), (60, -19940)].all (fun x : Int × Int =>
      let u := after .servoSample ((s.onArm .supply fun a => { a with p := x.1 }).onReelServo .supply fun v => { v with integ := -20000 })
      decide (u.servo.reels.supply.code = 4369 ∧ u.servo.reels.supply.sat = some .high ∧ u.servo.reels.supply.integ = x.2)) = true := by
  decide +kernel

/-- Section 3.5: drive codes of 8 000, 4 000, 30 000 and 15 000 at τ_fs 30 000. -/
theorem test_drive_codes : [8000, 4000, 30000, 15000].map (fun t => codeOf t 30000) = [8738, 4369, 32767, 16384] := by decide +kernel

/-- Sections 4.2 and 4.3: 48 kHz × 127/800 at varispeeds 0, 10, 50 and 100. -/
theorem test_capstan_rates :
    ([0, 10, 50, 100] : List Int).map (fun v =>
      let c : Capstan := { Capstan.cold with m := 127, d := 800, ell := 50000, vs := v }
      (c.targetRate, c.vPlay)) = [(7620000, 381000), (7627620, 381381), (7658100, 382905), (7696200, 384810)] := by decide +kernel

/-- Section 4.6: 28 periods of 1 089 and 36 of 1 088 counts give 44 099.913 Hz and v_play 380.999 mm/s; the loss freezes the base rate. -/
theorem test_house_sync :
    let c : Capstan :=
      { Capstan.cold with
        source := .external, m := 127, d := 735, ell := 50000, fRef := 44099913, lock := .locked
        periods := List.replicate 28 1089 ++ List.replicate 36 1088 }
    c.measuredRef = 44099913 ∧ c.base = 7619984 ∧ c.vPlay = 380999 ∧
      (after .referenceLost { State.reset with capstan := c }).capstan.frozenBase = some 7619984 := by decide +kernel

/-- Section 5.8.1: torque-available limits of the worked packs, in FULL and in REDUCED. -/
theorem test_torque_limits :
    worked.planner.torque.fwdDec = 4199 ∧ worked.planner.torque.fwdAcc = 7588 ∧
      (torqueLimits (worked.onServo fun v => { v with reduced := true })).fwdDec = 1252 := by decide +kernel

/-- Section 5.9.1: v_goal_eff of a WIND at 8 000 mm/s toward a zone of 2 000 mm/s at 4 194 304. -/
theorem test_slow_zone_ahead :
    let z : Zones :=
      { Zones.cold with
        entries := Zones.cold.entries.set 2 { enabled := true, base := 4194304, k := 22, attrs := { ZoneAttrs.default with limit := 2000 } } }
    ([2000000, 2993504, 3594304, 4193504] : List Int).map (fun x =>
      goalEff { worked with zones := z, tach := { Tach.cold with position := x },
                            planner := { worked.planner with mode := .wind, goal := 8000, vRef := 8000000 } }) =
      [8000, 8000, 5827, 2000] := by decide +kernel

/-- Section 5.7: the first step of ENGAGING is 375 µm/s; a stop from v_play begins with a step to 380 500. -/
theorem test_play_and_stop :
    let s : State := { inMode .engaging with capstan := { Capstan.cold with m := 127, d := 800, ell := 50000, lock := .locked } }
    (after .plannerStep (s.onPlanner fun p => { p with goal := 381 })).planner.vRef = 375 ∧
      (after .plannerStep (s.onPlanner fun p =>
        { p with mode := .stopping, stopInForce := some .controlled, stopCause := some .request, vRef := 381000 })).planner.vRef =
          380500 := by decide +kernel

/-- The zones of section 6.1: entry 0 holds 1 048 576 to 2 097 151, entry 1 lies within it, entry 2 ends at -1. -/
def workedZones : Zones :=
  let e (base : Int) (k : Nat) : ZoneEntry := { enabled := true, base := base, k := k, attrs := .default }
  { Zones.cold with entries := [e 1048576 20, e 1835008 18, e (-262144) 18] ++ List.replicate 5 .default }

/-- R113 (Table 6-2): the lowest-numbered enabled entry that holds the position is in force. -/
theorem test_zone_in_force :
    ([-300000, -1, 0, 1048576, 1900000, 2097151, 2097152] : List Int).map (zoneAt workedZones) = [8, 2, 8, 0, 0, 0, 8] := by
  decide +kernel

/-- Section 6.2.5: three cues join in order of position; a second id 9 and a second 300 000 are duplicates. -/
theorem test_cue_list :
    let s1 := (answerAddCue 5 120000 0 [] State.reset).state
    let s2 := (answerAddCue 9 480000 1 [] s1).state
    let a3 := answerAddCue 2 300000 0 [] s2
    a3.body = [1, 3] ∧ a3.state.cues.list.map (·.id) = [5, 2, 9] ∧ (answerAddCue 9 600000 0 [] a3.state).code = .duplicate ∧
      (answerAddCue 12 300000 0 [] a3.state).code = .duplicate ∧ (answerAddCue 0 700000 0 [] a3.state).code = .badValue := by
  decide +kernel

/-- Table 7-4: creep goals at 1 600, 50, 49, 8 and 1 edges from the aim. -/
theorem test_creep_goals :
    ([1600, 50, 49, 8, 1] : List Int).map (fun d => creepGoal worked
      { owner := .host, target := 0, cueId := none, thenPlay := false, preroll := 0, aim := d, dir := .forward, phase := .creep,
        attempts := 0, settleRun := 0 }) = [50, 50, 49, 20, 7] := by decide +kernel

/-- A chase in MATCH with the offset of section 7.3. -/
def matching (x : Int) : State :=
  { (inMode .chase).onTach (fun y => { y with position := x }) with
    chase := { Chase.cold with state := .matching, offset := 20000, plan := some .running } }

/-- Section 7.3 (Table 7-9): the first record of MATCH: e = −12, trim −3. -/
theorem test_master_record :
    let t := after (.masterPosition 1 1097536 381) (matching 1117548)
    t.chase.e = some (-12) ∧ t.capstan.trim = -3 ∧ t.chase.inRun = 1 := by decide +kernel

/-- Section 8.6: POWER_FAIL during the controlled stop makes it FAST, and SUPPLY_LOW then escalates it to BRAKE. -/
theorem test_power_failure :
    let s := (inMode .stopping).onPlanner fun p => { p with vRef := 5960000, stopInForce := some .controlled, stopCause := some .fault }
    let t := after .powerFailAssert (faulted (recordOf .saturation (some .supply) .controlled) s)
    let u := after .supplyLowAssert t
    t.planner.stopInForce = some .fast ∧ u.planner.mode = .braking ∧ u.fault.record.map (·.severity) = some .brake := by decide +kernel

/-- The survey of section 9.4, from HOLD at its start. -/
theorem test_survey_starts :
    let s := ((inMode .hold).onTach fun x => { x with position := 100000 }).onMonitor fun m =>
      { m with counters := { m.counters with c2 := { Counter.cold with value := 7 } } }
    let t := after (.surveyStart 1 100000 900000 500 120 (-30) 3 2000 1 400 600 300 1 1 6) s
    t.survey.state = .positioning ∧ t.planner.mode = .survey ∧ t.monitor.counters.c2.value = 7 ∧
      t.monitor.counters.c2.holder = .survey := by decide +kernel

/-! ## Witnesses: the hypotheses of each statement, clause by clause, met by a concrete state and operands -/

/-- A WIND or PLAY at position x with two packs tracked forward. -/
def running (m : Mode) (x : Int) : State :=
  ((({ worked with tach := { Tach.cold with position := x } }).onPlanner fun p =>
    { p with mode := m, vRef := 1000, goal := 1 }).onServo fun v => { v with enabled := true })

def asm (l : List Byte) : State := State.reset.onLink fun x => { x with assembler := some l }

/-- A waiting reply. -/
def someReply : Reply := { kind := 0x81, tag := 1, code := .ok, body := [] }

/-- A frame of GET_STATUS. -/
def someFrame : Frame := { kind := 0x02, tag := 1, payload := [] }

/-- The recovery, the telemetry and the link timer, with bounds of 1 000, 20 and 500 ms. -/
def timersAt (recovery telemetry link : Option Nat) : State :=
  ((State.reset.onServo fun v => { v with recovery := recovery, reduced := true }).onLink fun l =>
    { l with telPeriod := 20, telTimer := telemetry }).onFault fun f => { f with linkTimeout := 500, linkTimer := link }

/-- What a millisecond of the empty queue leaves of the three timers, and how many faults are latched. -/
def timersAfterMs (s : State) : List (Option Nat) :=
  match step s with
  | .next t => [t.servo.recovery, t.link.telTimer, t.fault.linkTimer, t.fault.record.map fun r => r.secondaries.length]
  | _ => []

/-- Each timer not running, one below the ms of its bound and at it, and a part held in a reset with all three at theirs. -/
theorem test_witness_StepTakesTheFrontCommand :
    ({ State.reset with pending := [.play 1, .freeze 2] } : State).pending = .play 1 :: [.freeze 2] ∧
      (timersAt none none none).pending = [] ∧ (timersAt none none none).held = none ∧
      timersAfterMs (timersAt none none none) = [none, none, none, none] ∧
      timersAfterMs (timersAt (some 998) (some 18) (some 498)) = [some 999, some 19, some 499, none] ∧
      timersAfterMs (timersAt (some 999) (some 19) (some 499)) = [none, some 0, none, some 0] ∧
      timersAfterMs { timersAt (some 999) (some 19) (some 499) with held := some .warm } = [some 999, some 19, some 499, none] := by
  decide +kernel

theorem test_witness_DecodeReadsWhatEncodeWrites :
    (Instr.wind 0 (-32768)).wf = true ∧ encodeFrame (.wind 0 (-32768)) = some { kind := 0x2B, tag := 0, payload := [0, 0x80] } ∧
    (Instr.presetPosition 255 2147483647).wf = true ∧
      encodeFrame (.presetPosition 255 2147483647) = some { kind := 0x30, tag := 255, payload := [0xFF, 0xFF, 0xFF, 0x7F] } := by
  decide

theorem test_witness_ARequestIsItsBytes :
    (Instr.setSlew 7 20).wf = true ∧ encodeFrame (.setSlew 7 20) = some { kind := 0x1A, tag := 7, payload := [0x14] } ∧
      State.reset.held = none ∧ State.reset.link.assembler = none := by decide

/-- Clause by clause: the length bytes 120 and 121, the last byte but one and the last, sums 3 and 256. -/
theorem test_witness_TheAssemblerTakesBytes :
    State.reset.held = none ∧ State.reset.link.assembler = none ∧ (asm []).held = none ∧ (asm []).link.assembler = some [] ∧
      120 < ((([] : List Byte) ++ [121]).headD 0).toNat ∧ ((([] : List Byte) ++ [120]).headD 0).toNat ≤ 120 ∧
      ([] : List Byte).length + 1 < 120 + 4 ∧ ((([0, 2] : List Byte) ++ [1]).headD 0).toNat + 4 = 3 + 1 ∧
      byteSum ([0, 2, 1] ++ [0]) % 256 ≠ 0 ∧ byteSum ([0, 2, 1] ++ [0xFD]) % 256 = 0 ∧
      (asm [0, 2]).monitor.frozen = false ∧ ((asm [0, 2]).onMonitor fun m => { m with frozen := true }).monitor.frozen = true := by
  decide

theorem test_witness_RequestsWaitTheirTurn :
    let r := State.reset.onLink fun l => { l with reply := some someReply }
    (Instr.getStatus 1).wf = true ∧ encodeFrame (.getStatus 1) = some someFrame ∧
      ({ State.reset with held := some .warm } : State).held ≠ none ∧ r.held = none ∧ r.link.tx ≠ .idle ∧
      r.link.resetPending = none ∧ r.link.reply ≠ none ∧
      (r.onLink fun l => { l with queue := List.replicate 3 someFrame }).link.queue.length < 4 ∧
      4 ≤ (r.onLink fun l => { l with queue := List.replicate 4 someFrame }).link.queue.length ∧
      (State.reset.onLink fun l => { l with resetPending := some true }).link.resetPending ≠ none := by decide

theorem test_witness_FrameSentFeedsTheTransmitter :
    let n : QueuedNotice := { notice := .drive true, priority := 2, age := 1 }
    let s := State.reset.onLink fun l => { l with notices := [n] }
    let r := s.onLink fun l => { l with reply := some someReply, queue := [someFrame] }
    State.reset.held = none ∧ State.reset.link.tx ≠ .idle ∧ State.reset.link.resetPending = none ∧ State.reset.link.queue = [] ∧
      State.reset.link.reply = none ∧ State.reset.link.notices = [] ∧ s.link.notices = n :: [] ∧ s.link.tx ≠ .idle ∧
      r.link.queue = someFrame :: [] ∧ r.link.reply = some someReply ∧ r.link.tx ≠ .idle := by decide

/-- A full notice queue of PACK notices, all of priority 1. -/
def fullLink : Link :=
  { Link.cold with
    nextAge := 16
    notices := (List.range 16).map fun i => { notice := .pack .clamped none 0 0, priority := 1, age := i } }

def oneDrive : Link := { Link.cold with notices := [{ notice := .drive true, priority := 2, age := 0 }], nextAge := 1 }

theorem test_notice_queues_ordered :
    NoticesOrdered Link.cold ∧ NoticesOrdered oneDrive ∧ NoticesOrdered { fullLink with notices := fullLink.notices.take 15 } ∧
      NoticesOrdered fullLink := by
  refine ⟨?_, ?_, ?_, ?_⟩ <;> decide +kernel

/-- Level 0 (ZONE), a queued state kind (DRIVE), room at 0 and at 15, and a full queue for a PACK and for a FAULT. -/
theorem test_witness_PostingFollowsPriority :
    Link.cold.levelOf .zone = 0 ∧ oneDrive.levelOf .drive ≠ 0 ∧ NoticeKind.drive.isState = true ∧
      oneDrive.notices = [] ++ { notice := .drive true, priority := 2, age := 0 } :: [] ∧
      (fullLink.notices.take 15).length < 16 ∧ fullLink.notices.length = 16 ∧ NoticeKind.pack.isState = false ∧
      (∀ x ∈ fullLink.notices, fullLink.levelOf .pack ≤ x.priority) ∧ NoticeKind.fault.isState = false ∧
      fullLink.notices = [] ++ { notice := .pack .clamped none 0 0, priority := 1, age := 0 } :: fullLink.notices.tail ∧
      1 < fullLink.levelOf .fault ∧ ∀ x ∈ fullLink.notices.tail, x.priority = 1 := by decide +kernel

/-- Each cold cause with both lines deasserted; each cause with one line and with both asserted (R65, R155, R160). -/
theorem test_witness_PowerOnEndsInTheResetState :
    let s (cause : ResetCause) (low fail : Bool) := ({ inMode .braked with held := some cause } : State).onLines fun l =>
      { l with supplyLow := low, powerFail := fail }
    (inMode .play).lines.supplyLow = false ∧ (inMode .play).lines.powerFail = false ∧
      (∀ c ∈ [ResetCause.powerOn, .resetLine, .resetRequest], c ≠ .warm ∧ (s c false false).held = some c ∧
        (s c false false).lines.supplyLow = false ∧ (s c false false).lines.powerFail = false ∧
        (after .resetEnd (s c false false)).link.tx = .sendingNotice (.ready c 0 false)) ∧
      ∀ c ∈ [ResetCause.powerOn, .resetLine, .resetRequest, .warm],
        (s c true false).lines.supplyLow = true ∧ (s c true false).lines.powerFail = false ∧
        (after .resetEnd (s c true false)).servo.reduced = true ∧
        ∀ low ∈ [true, false], (s c low true).lines.powerFail = true ∧
          (after .resetEnd (s c low true)).fault.record.map (fun f => (f.primary.kind, f.mode, f.severity)) =
            some (.powerFail, .idle, if low then .brake else .fast) := by decide +kernel

/-- A reset from PLAY and during a power-on reset; all that R17, R42 and R147 clear while the part is held. -/
theorem test_witness_AResetHoldsTheMachine :
    let s := (((running .play 0).onServo fun v => { v with tEff16 := 1920 }).onCapstan fun c =>
      { c with lock := .locked, trim := 5 }).onSense fun x => { x with turn := some .ps }
    let t := after .resetInAssert s
    (∀ c ∈ [Instr.powerOn, .resetInAssert], c = .powerOn ∨ c = .resetInAssert) ∧ s.held ≠ some .powerOn ∧
      ({ s with held := some .powerOn } : State).held = some .powerOn ∧ t.servo.tEff16 = 0 ∧ t.capstan.trim = 0 ∧ t.capstan.lock = .off ∧
      excitation s (.presence .ps) = s.sense.ps.range ∧ excitation t (.presence .ps) = .off := by decide +kernel

/-- A warm reset with SUPPLY_LOW low and high; a channel in OFF and one in use; each source; a telemetry period of 0 and of 1. -/
theorem test_witness_AWarmResetKeepsTheSettings :
    ∀ low ∈ [true, false],
      let s := ({ inMode .braked with held := some .warm } : State).onLines fun l => { l with supplyLow := low }
      s.held = some .warm ∧ s.lines.powerFail = false ∧ s.lines.supplyLow = low ∧ s.sense.ps.range ≠ .off ∧
        (s.onPresence .ps fun q => { q with range := .off }).sense.ps.range = .off ∧ s.capstan.source = .internal ∧
        (s.onCapstan fun c => { c with source := .external }).capstan.source = .external ∧
        (s.onLink fun l => { l with telPeriod := 1 }).link.telPeriod ≠ 0 := by decide

/-- Retain flags 0, 1 and 2; a granted RESET's reply on the pin. -/
theorem test_witness_AResetFollowsItsReply :
    let r : Reply := { kind := 0x83, tag := 1, code := .ok, body := [] }
    let s := State.reset.onLink fun l => { l with tx := .sendingReply r, resetPending := some true }
    Ready State.reset ∧ 1 < 2 ∧ 1 ≤ 1 ∧ s.held = none ∧ s.link.tx = .sendingReply r ∧ r.kind = 0x83 ∧ r.code = .ok ∧
      s.link.resetPending = some true := by decide

theorem test_witness_PingReturnsItsBytes : Ready State.reset ∧ (List.replicate 8 (0 : Byte)).length ≤ 8 := by decide

/-- Pages of 8 and 9 cues, of 6 and 7 steps. -/
theorem test_witness_RefusalsAndReadsChangeNothing : Ready State.reset ∧ ¬8 < 8 ∧ 8 < 9 ∧ ¬6 < 6 ∧ 6 < 7 := by decide

/-- Five records with full labels fit, at 104 bytes with the result code; a sixth of 8 + 8 fits at 120, of 8 + 9 does not (R122). A start
at the end of the list returns none. -/
theorem test_cue_pages_stop_at_120_bytes :
    let c (n i : Nat) : Cue := { id := i + 1, position := i, kind := .mark, label := List.replicate n 0x41, mark := .none }
    let s (n : Nat) := State.reset.onCues fun q => { q with list := (List.range 5).map (c 12) ++ [c n 5, c 0 6] }
    let page (start count : Nat) (s : State) := ((answerGetCues start count s).body.length, (answerGetCues start count s).body[2]?)
    [page 0 8 (s 8), page 0 8 (s 9), page 0 3 (s 9), page 5 8 (s 9), page 7 8 (s 9)] =
      [(119, some 6), (103, some 5), (63, some 3), (28, some 2), (3, some 0)] := by decide +kernel

theorem test_witness_StatusIsReportedAndStickiesCleared : Ready (inMode .play) ∧ Ready State.reset := by decide

/-- A counting mode and a quiet one; notice kinds 0xE0, 0xE1, 0xF0, 0xF1; TELEMETRY at its default level and at 0. -/
theorem test_witness_LinkSettingsAreStored :
    let t := State.reset.onLink fun l => { l with telTimer := some 9 }
    let u := t.onLink fun l => { l with levels := l.levels.set 14 0 }
    Ready (inMode .play) ∧ (inMode .play).planner.mode.quiet = false ∧ Ready State.reset ∧ State.reset.planner.mode.quiet = true ∧
      0xE0 ≤ 0xE0 ∧ 0xE0 < 0xE1 ∧ 0xF0 ≤ 0xF0 ∧ 0xF0 < 0xF1 ∧ t.held = none ∧ t.link.telTimer = some 9 ∧
      t.link.levels.getD 14 0 ≠ 0 ∧ t.link.notices.length < 16 ∧ u.held = none ∧ u.link.telTimer = some 9 ∧
      u.link.levels.getD 14 0 = 0 ∧ u.link.tx ≠ .idle := by decide

theorem test_witness_ClearFaultEmptiesTheRecord :
    let r := recordOf .slack (some .supply) .fast
    let s := faulted r (inMode .braked)
    let u := faulted r (inMode .stopping) |>.onPlanner fun p => { p with stopInForce := some .fast }
    let v := s.onLines fun l => { l with powerFail := true }
    Ready State.reset ∧ State.reset.fault.record = none ∧ Ready u ∧ u.fault.record ≠ none ∧ u.planner.stopInForce ≠ none ∧
      Ready s ∧ s.fault.record ≠ none ∧ s.planner.stopInForce = none ∧ s.lines.powerFail = false ∧ Ready v ∧
      v.fault.record ≠ none ∧ v.planner.stopInForce = none ∧ v.lines.powerFail = true := by decide

/-- Apply 0 and 1, channels 4 and 5, a window of one count and an empty one, thresholds at their bounds, a changed range. -/
theorem test_witness_SenseChannelsAreProgrammed :
    let h := inMode .hold
    Ready State.reset ∧ State.reset.planner.mode = .idle ∧ Ready h ∧ h.planner.mode ≠ .idle ∧ 4 < 5 ∧ 3 < 4 ∧ 48000 < 48001 ∧
      2 ≤ 2 ∧ 48000 ≤ 48000 ∧
      (∀ r ∈ [Reel.supply, .takeup], ∃ c ≤ 1, c = reelCode r ∧ ¬(SenseRange.ofCode 0 = some (h.sense.arms.get r).range ∧
        1 = (h.sense.arms.get r).cMin ∧ 48000 = (h.sense.arms.get r).cMax)) ∧
      (∀ i ∈ [PresenceId.ps, .pt, .ph], SenseRange.ofCode 0 ≠ some (h.sense.presence i).range ∧ i.channelCode ∈ [2, 3, 4]) ∧
      SenseRange.ofCode 0 = some .off ∧ SenseRange.ofCode 2 = some .medium ∧ 1 ≤ 1 ∧ 1 < 48000 := by decide

/-- R11, R14: suppress cleared on an ABSENT channel, PH in a WIND and PS in HOLD and IDLE; a threshold changed alone in a run. -/
theorem test_witness_SenseChannelsAreProgrammed_in_motion :
    let gone (i : PresenceId) (s : State) := s.onPresence i fun q => { q with suppress := true, state := .absent }
    let w := gone .ph ((inMode .wind).onPlanner fun p => { p with vRef := 1, goal := 1 })
    let h := gone .ps (inMode .hold)
    let r := State.reset.onPresence .pt fun q => { q with candidate := some .present, run := 2 }
    let q := State.reset.sense.pt
    let u := after (.setSense 1 3 1 q.range.code q.cMin q.cMax (q.tOn + 1) q.tOff 0) r
    Ready w ∧ (w.sense.presence .ph).state = .absent ∧ (w.sense.presence .ph).suppress = true ∧ w.planner.stopInForce = none ∧
      Ready h ∧ (h.sense.presence .ps).state = .absent ∧ h.planner.mode ≠ .idle ∧ h.fault.record = none ∧ Ready r ∧
      1 ≤ q.tOff ∧ q.tOff < q.tOn + 1 ∧ q.tOn + 1 ≤ 48000 ∧ u.sense.pt.run = 0 ∧ u.sense.pt.candidate = none ∧
      (after (.setSense 1 4 1 q.range.code q.cMin q.cMax q.tOn q.tOff 0) w).planner.stopCause = some .tapeEnd ∧
      (after (.setSense 1 2 1 q.range.code q.cMin q.cMax q.tOn q.tOff 0) h).fault.record.map (·.primary) =
        some { kind := .pathLost, reel := some .supply } := by decide +kernel

/-- Hub and flange at their bounds, with the least legal gap and one less; a kept and a changed profile outside IDLE. With the drives
ENABLED τ_lim 4 000 of τ_fs 30 000 bounds a standing code at 4 369 (section 3.5), and T_max 100 takes T_eff 150 down (R49). -/
theorem test_witness_ReelAndTapeProfilesAreStored :
    let h := inMode .hold
    let p := h.packs.profile.get .supply
    let k := h.packs.tape
    let w := ({ windSample with link := .cold } : State).onReelServo .supply fun x => { x with code := -20000 }
    Ready State.reset ∧ State.reset.planner.mode = .idle ∧ Ready h ∧ h.planner.mode ≠ .idle ∧
      20000 ≤ 20000 ∧ 60000 ≤ 185000 ∧ 100000 + 10000 < 110001 ∧ 110000 ≤ 100000 + 10000 ∧
      ¬(20000 = p.hub ∧ 60000 = p.flange ∧ 20000 = p.jf) ∧ ¬(60 = h.packs.tape.t ∧ 200000 = h.packs.tape.kj) ∧
      150 = State.reset.packs.tape.tNom ∧ 20 ≤ 20 ∧ 20 ≤ 150 ∧ 150 ≤ 600 ∧ Ready w ∧ w.servo.enabled = true ∧
      (w.packs.profile.get .supply = p) ∧ 4000 < p.tauLim ∧
      (after (.setReel 1 0 1 p.hub p.flange p.jf p.f 4000 30000) w).servo.reels.supply.code = -4369 ∧
      (after (.setTape 1 1 k.t k.kj 20 50 100 40 60) w).servo.tEff16 = 1600 := by decide +kernel

theorem test_witness_TensionGainsAndLimitsAreStored :
    Ready State.reset ∧ State.reset.packs.tape.tMin ≤ State.reset.packs.tape.tMax ∧ Ready (inMode .play) := by decide

/-- σ at 0, 100 and 255 and a slew of the default rate from 50 cN. -/
theorem test_witness_TheSlewRateIsStored :
    let v : Servo := { Servo.cold with tEff16 := 800 }
    Ready State.reset ∧ max 1 (min 100 0) = 1 ∧ max 1 (min 100 255) = 100 ∧ v.slew = 5 ∧ v.tEff16 = 800 := by decide

theorem test_witness_VarispeedIsStored :
    let s := State.reset.onCapstan fun c => { c with vsHost := 1000 }
    Ready State.reset ∧ max (-1000) (min 1000 (1001 : Int)) = 1000 ∧ Ready s ∧ 1000 = s.capstan.vsHost := by decide

/-- ℓ at 4 999, 5 000 and 200 000, the capstan OFF and not; every state of the reference's clauses. -/
theorem test_witness_CapstanAndReferenceAreSet :
    let s := State.reset.onCapstan fun c => { c with lock := .locked }
    let e := s.onCapstan fun c => { c with source := .external }
    let h := s.onCapstan fun c => { c with lock := .holdover, frozenBase := some 7 }
    Ready State.reset ∧ 4999 < 5000 ∧ 5000 ≠ s.capstan.ell ∧ Ready s ∧ s.capstan.lock ≠ .off ∧ State.reset.capstan.lock = .off ∧
      46000 = s.capstan.ell ∧ LockChoice.both.code = 3 ∧ 3 < 4 ∧ 1 < 2 ∧ 4096 < 4097 ∧ Ready e ∧
      e.capstan.source = .external ∧ e.capstan.lock ≠ .off ∧ RefSource.external.code = 1 ∧ RefSource.internal.code = 0 ∧
      RefSource.internal = State.reset.capstan.source ∧ 1 = State.reset.capstan.m ∧ 1 = State.reset.capstan.d ∧
      RefSource.external ≠ State.reset.capstan.source ∧ ¬(s.capstan.lock = .off ∨ s.capstan.lock = .spinup) ∧
      Ready h ∧ h.capstan.lock = .holdover := by decide

/-- Calibrated arms, tape over both arms. -/
def threadedState : State :=
  State.reset.onSense fun x =>
    { x with arms := .both { ArmChannel.cold with cal := some (5000, 8000) },
             ps := { x.ps with state := .present }, pt := { x.pt with state := .present } }

def blocked (f r : Bool) (s : State) : State := s.onPlanner fun p => { p with fwdBlocked := f, revBlocked := r }

def r0 : FaultRecord := recordOf .slack (some .supply) .fast

theorem test_witness_LoadAndUnloadAnswerByMode :
    Ready (inMode .hold) ∧ (inMode .hold).planner.mode ≠ .idle ∧ Ready State.reset ∧ State.reset.planner.mode = .idle ∧
      Ready (faulted r0 State.reset) ∧ (faulted r0 State.reset).fault.record ≠ none ∧ State.reset.fault.record = none ∧
      configured State.reset.sense = false ∧
      configured (threadedState.onSense fun x => { x with pt := .cold }).sense = true ∧
      (threadedState.onSense fun x => { x with pt := .cold }).sense.pt.state ≠ .present ∧ Ready threadedState ∧
      configured threadedState.sense = true ∧ threadedState.sense.ps.state = .present ∧ threadedState.sense.pt.state = .present ∧
      forbidden threadedState .forward = false ∧ forbidden (blocked true true threadedState) .forward = true ∧
      forbidden (blocked true true threadedState) .reverse = true ∧ forbidden (blocked true false threadedState) .forward = true ∧
      forbidden (blocked true false threadedState) .reverse = false ∧ Ready (inMode .play) ∧
      (inMode .play).planner.mode ≠ .hold ∧ (inMode .play).planner.mode ≠ .braked ∧ Ready (inMode .braked) ∧
      (inMode .braked).planner.mode = .braked := by decide

/-- UNLOAD from BRAKED, and the end of BRAKE_SET, with two TRACKING packs: both become what a reset leaves (log entries 48 and 68). -/
theorem test_tracking_packs_at_the_entry_to_idle :
    let at_ (m : Mode) (sub : Option SubStage) := worked.onPlanner fun p => { p with mode := m, sub := sub, brake := .applying }
    (worked.packs.pack.get .supply) = tracking 120000 13031 ∧
    ([after (.unload 1) (at_ .braked none), after .brakeComplete (at_ .unloading (some .brakeSet))].map fun t =>
        (t.planner.mode, t.packs.pack.get .supply, t.packs.pack.get .takeup, t.packs.a0)) =
      List.replicate 2 (.idle, Pack.unknown, Pack.unknown, none) := by decide +kernel

def stoppingBy (cause : StopCause) : State :=
  (inMode .stopping).onPlanner fun p => { p with stopInForce := some .controlled, stopCause := some cause }

/-- Goals 0, 8 000 and −8 000, a refused mode, a fault, a fault's stop, a blocked direction. -/
theorem test_witness_WindTakesAGoal :
    let l := [Mode.hold, .wind, .locate, .engaging, .play, .chase, .stopping]
    (8000 : Int) = max (-(vMaxEff (inMode .hold) : Int)) (min (vMaxEff (inMode .hold)) 32767) ∧
      (-8000 : Int) = max (-(vMaxEff (inMode .hold) : Int)) (min (vMaxEff (inMode .hold)) (-32768)) ∧
      Ready (inMode .survey) ∧ (inMode .survey).planner.mode ∉ l ∧
      (∀ m ∈ l, Ready (inMode m) ∧ (inMode m).planner.mode ∈ l ∧ (inMode m).fault.record = none ∧
        forbidden (inMode m) .forward = false ∧ forbidden (inMode m) .reverse = false ∧
        ¬((inMode m).planner.mode = .stopping ∧ (inMode m).planner.stopCause = some .fault)) ∧
      (faulted r0 (inMode .hold)).fault.record ≠ none ∧ (stoppingBy .fault).planner.stopCause = some .fault ∧
      (stoppingBy .fault).planner.mode = .stopping ∧ forbidden (blocked true false (inMode .hold)) .forward = true ∧
      forbidden (blocked false true (inMode .hold)) .reverse = true ∧
      0 = max (-(vMaxEff (inMode .hold) : Int)) (min (vMaxEff (inMode .hold)) 0) := by decide

theorem test_witness_PlayEngages :
    (∀ m ∈ [Mode.engaging, .play], Ready (inMode m) ∧ ((inMode m).planner.mode = .engaging ∨ (inMode m).planner.mode = .play)) ∧
      (inMode .survey).planner.mode ∉ [Mode.hold, .wind, .locate, .chase, .stopping, .engaging, .play] ∧
      (∀ m ∈ [Mode.hold, .wind, .locate, .chase, .stopping], Ready (inMode m) ∧ (inMode m).planner.mode = m ∧
        (inMode m).fault.record = none ∧ forbidden (inMode m) .forward = false) ∧
      (stoppingBy .fault).planner.stopCause = some .fault ∧ (faulted r0 (inMode .hold)).fault.record ≠ none ∧
      Ready (blocked true false (inMode .hold)) ∧ forbidden (blocked true false (inMode .hold)) .forward = true ∧
      ((inMode .chase).onPlanner fun p => { p with pinch := .closed }).planner.pinch = .closed := by decide

/-- Kinds 0, 1 and 2; every mode's clause; a CONTROLLED and a FAST stop in force. -/
theorem test_witness_StopBringsTheTapeToRest :
    let rest := [Mode.idle, .hold, .unloading, .braking, .braked]
    let motion := [Mode.wind, .locate, .engaging, .play, .chase, .survey]
    1 < 2 ∧ (∀ m ∈ rest, Ready (inMode m) ∧ (inMode m).planner.mode ∈ rest) ∧ Ready (stoppingBy .request) ∧
      (stoppingBy .request).planner.mode = .stopping ∧ (stoppingBy .request).planner.stopInForce = some .controlled ∧
      0 + 1 ≤ Severity.controlled.code ∧ 1 + 1 ≤ Severity.fast.code ∧ ¬1 + 1 ≤ Severity.controlled.code ∧ Ready (inMode .loading) ∧
      (inMode .loading).planner.mode = .loading ∧
      ∀ m ∈ motion, Ready (inMode m) ∧ (inMode m).planner.mode ∈ motion ∧ (inMode m).planner.stopInForce = none := by decide

/-- The bounds of a position, the window 800 with d = 800 and 801, and the modes of each clause. -/
theorem test_witness_PositionIsSetByTheHost :
    let m := matching 0
    Ready (inMode .play) ∧ (inMode .play).planner.mode ∉ [Mode.idle, .hold, .braked] ∧
      (∀ m ∈ [Mode.idle, .hold, .braked], Ready (inMode m) ∧ (inMode m).planner.mode ∈ [Mode.idle, .hold, .braked] ∧
        ¬((inMode m).planner.mode = .play)) ∧
      (1000000000 : Int) < 1000000001 ∧ zoneAt State.reset.zones 1000000000 = State.reset.zones.index ∧
      (inMode .play).planner.mode = .play ∧ Ready m ∧ m.planner.mode = .chase ∧ m.chase.state = .matching ∧
      m.tach.fixWindow = 800 ∧ 800 - m.tach.position ≤ (800 : Nat) ∧ ((800 : Nat) : Int) < 801 - m.tach.position ∧
      max 8 (min 8000 1) = 8 ∧ max 8 (min 8000 65535) = 8000 := by decide

/-- k at 11, 12, 28 and 29, a base aligned to 2^12 and one off; indices 7 and 8; directions 3 and 4. -/
theorem test_witness_ZonesAreEdited :
    Ready State.reset ∧ State.reset.zones.index = zoneAt State.reset.zones State.reset.tach.position ∧ 7 < 8 ∧ 11 < 12 ∧ 28 < 29 ∧
      3 < 4 ∧ (4097 : Int) % 2 ^ 12 ≠ 0 ∧ (-4096 : Int) % 2 ^ 12 = 0 ∧ (268435456 : Int) % 2 ^ 28 = 0 ∧ 7 ≤ 7 ∧
      ZoneDirs.none.code = 3 ∧ ZoneDirs.both.code = 0 := by decide

def cueAt (id : Nat) (x : Int) : Cue := { id := id, position := x, kind := .mark, label := [], mark := .none }

def withCues (l : List Cue) (s : State) : State := s.onCues fun q => { q with list := l }

/-- Ids 0, 1, 250 and 251, a label of 12 and of 13, a duplicate, 31 and 32 cues in the list, an id that is not there; a deleted cue is in
force no more, and a step in ENGAGING takes one up (R120, log entry 52). -/
theorem test_witness_CuesAreAddedAndRemoved :
    let many (n : Nat) := withCues ((List.range n).map fun i => cueAt (i + 1) (10 * i)) State.reset
    let s := withCues [cueAt 5 100, cueAt 9 300] State.reset
    250 < 251 ∧ (List.replicate 12 (0x41 : Byte)).length ≤ 12 ∧ (∀ b ∈ List.replicate 12 (0x7E : Byte), 0x20 ≤ b.toNat ∧ b.toNat ≤ 0x7E) ∧
      12 < (List.replicate 13 (0x41 : Byte)).length ∧ Ready s ∧ CueKind.autoStop.code = 1 ∧
      (∃ c ∈ s.cues.list, c.id = 9 ∨ c.position = 200) ∧ (∀ c ∈ s.cues.list, c.id ≠ 7 ∧ c.position ≠ 200) ∧
      s.cues.list = [cueAt 5 100] ++ [cueAt 9 300] ∧ (∀ c ∈ [cueAt 5 100], c.position < 200) ∧
      (∀ c ∈ [cueAt 9 300], 200 < c.position) ∧ Ready (many 32) ∧ 32 ≤ (many 32).cues.list.length ∧
      (many 31).cues.list.length < 32 ∧ (∀ c ∈ (many 32).cues.list, c.id ≠ 250 ∧ c.position ≠ 5) ∧
      (∃ c ∈ s.cues.list, c.id = 9) ∧
      (after (.deleteCue 1 9) (s.onPlanner fun p => { p with inForce := [(5, 100), (9, 300)] })).planner.inForce = [(5, 100)] ∧
      (after .plannerStep (withCues [{ cueAt 3 7 with kind := .autoStop }] (inMode .engaging))).planner.inForce = [(3, 7)] := by
  decide +kernel

/-- Zone 1 covers 4 096 to 8 191 and allows no direction: its guard of 800 stands 3 296 rc ahead of 0. -/
def barredAhead (s : State) : State :=
  s.onZones fun z =>
    { z with entries := z.entries.set 1 { enabled := true, base := 4096, k := 12, attrs := { ZoneAttrs.default with dirs := .none } } }

/-- Zone 0 covers 0 to 4 095 and allows no direction. -/
def noWay (s : State) : State :=
  s.onZones fun z =>
    { z with entries := z.entries.set 0 { enabled := true, base := 0, k := 12, attrs := { ZoneAttrs.default with dirs := .none } } }

/-- Bounds of the fields; an aim with and without preroll; each phase's distance at its bound. -/
theorem test_witness_LocateBeginsTowardItsAim :
    let l := [Mode.hold, .wind, .play, .locate, .chase]
    Ready State.reset ∧ State.reset.planner.mode ∉ l ∧ (∀ m ∈ l, Ready (inMode m) ∧ (inMode m).planner.mode ∈ l ∧
        (inMode m).fault.record = none ∧ forbidden (inMode m) .forward = false ∧ forbidden (inMode m) .reverse = false) ∧
      (faulted r0 (inMode .hold)).fault.record ≠ none ∧ 1 < 2 ∧ (1000000000 : Int) < 1000000001 ∧ 250 < 251 ∧
      (∀ c ∈ State.reset.cues.list, c.id ≠ 250) ∧ (1000000000 : Int) - min 800000 4294967295 = 999200000 ∧
      (withCues [cueAt 250 7] (inMode .hold)).cues.list = [] ++ cueAt 250 7 :: [] ∧ (cueAt 250 7).id = 250 ∧
      (attrsAt (noWay (inMode .hold)).zones 4095).dirs = .none ∧ (attrsAt (noWay (inMode .hold)).zones 4096).dirs ≠ .none ∧
      forbidden (blocked true false (inMode .hold)) .forward = true ∧ (inMode .hold).tach.position < 1 ∧
      forbidden (blocked false true (inMode .hold)) .reverse = true ∧ -1 < (inMode .hold).tach.position ∧
      (inMode .hold).params.approachDist < mag (40001 - 0) ∧ ¬(inMode .hold).params.approachDist < mag (40000 - 0) ∧
      1600 < mag (1601 - 0) ∧ ¬1600 < mag (1600 - 0) ∧ (inMode .hold).params.tolerance < mag (9 - 0) ∧
      ¬(inMode .hold).params.tolerance < mag (8 - 0) := by decide +kernel

theorem test_witness_ChaseStartsAndStops :
    let h := (inMode .hold).onCapstan fun c => { c with lock := .spinup }
    Ready State.reset ∧ State.reset.planner.mode ≠ .hold ∧ (inMode .hold).capstan.lock = .off ∧ Ready h ∧ h.planner.mode = .hold ∧
      h.capstan.lock ≠ .off ∧ h.fault.record = none ∧ Ready (faulted r0 h) ∧ (faulted r0 h).fault.record ≠ none ∧
      (1000000000 : Int) < 1000000001 ∧ 1 < 2 ∧ forbidden h .forward = false ∧ forbidden (blocked true false h) .forward = true ∧
      Ready (matching 0) ∧ (matching 0).planner.mode = .chase ∧ (matching 0).chase.state ≠ .off ∧
      (matching 0).planner.stopInForce = none := by decide

/-- A chase of state `st` at position 0 with these runs, offset 20 000. -/
def chasing (st : ChaseState) (inRun outRun : Nat) : State :=
  (matching 0).onChase fun c => { c with state := st, inRun := inRun, outRun := outRun }

/-- |e| at the reseek threshold 120 000, and at the window 16 and beyond it; runs at 9 and 3. -/
theorem test_witness_MasterRecordsSetTheTrim :
    Ready (chasing .runup 0 0) ∧ (chasing .runup 0 0).planner.mode = .chase ∧ (chasing .runup 0 0).chase.state = .runup ∧
      Ready State.reset ∧ State.reset.planner.mode ≠ .chase ∧ (1000000000 : Int) < 1000000001 ∧ (0 : Int) < 1 ∧
      (12000 : Int) = max (-12000) (min 12000 32767) ∧ (120000 : Int) = 100000 + (chasing .runup 0 0).chase.offset - 0 ∧
      mag 120000 ≤ (chasing .runup 0 0).params.reseek ∧ (chasing .matching 9 0).chase.state = .matching ∧
      (16 : Int) = -19984 + (chasing .matching 9 0).chase.offset - 0 ∧ mag 16 ≤ (chasing .matching 9 0).params.window ∧
      10 ≤ (chasing .matching 9 0).chase.inRun + 1 ∧ (chasing .locked 0 3).chase.state = .locked ∧
      (chasing .locked 0 3).params.window < mag 17 ∧ 4 ≤ (chasing .locked 0 3).chase.outRun + 1 := by decide

theorem test_witness_ChaseLockAndSilence :
    let m := chasing .matching 9 0
    let n := chasing .matching 8 0
    let k := chasing .locked 0 3
    let j := chasing .locked 0 2
    Ready m ∧ m.planner.mode = .chase ∧ (16 : Int) = -19984 + m.chase.offset - m.tach.position ∧ mag 16 ≤ m.params.reseek ∧
      m.chase.state = .matching ∧ mag 16 ≤ m.params.window ∧ m.chase.inRun = 9 ∧
      Ready n ∧ ¬(mag 16 ≤ n.params.window ∧ 9 ≤ n.chase.inRun) ∧ Ready k ∧ k.chase.state = .locked ∧ k.params.window < mag 17 ∧
      k.chase.outRun = 3 ∧ Ready j ∧ ¬(j.params.window < mag 17 ∧ 3 ≤ j.chase.outRun) ∧ m.held = none ∧ 200 < m.params.freewheel ∧
      m.chase.state ≠ .off ∧ m.planner.stopInForce = none ∧ m.planner.vRef = 0 ∧
      (m.onPlanner fun p => { p with vRef := 1 }).planner.vRef ≠ 0 := by decide

/-- A plan to make, kept and changed; a park position at its bound; |e| one beyond 120 000; the silence timer at 799 and at the limit of
1 000 ms; the remaining distance at d_run and one beyond. -/
theorem test_witness_ChaseLockAndSilence_elsewhere :
    let k (st : ChaseState) (plan : Option ChasePlan) := (chasing st 0 0).onChase fun c => { c with plan := plan, halting := false, pPark := 0 }
    let q (st : ChaseState) (n : Nat) := (k st (some .stopped)).onChase fun c => { c with silence := some n }
    let s := k .seek none
    let x := (1000000000 : Int) + divTrunc (381 * 80 * s.chase.lead) 1000 + s.chase.offset
    let r := (k .parked (some .running)).onChase fun c =>
      { c with silence := some 0, master := some { position := 0, speed := 381, age := 0 } }
    let dRun := divCeil (mmPerS r.capstan.vPlay ^ 2 * 40) (aAccEff r .forward)
    Ready s ∧ s.chase.state = .seek ∧ s.chase.halting = false ∧ s.chase.plan = none ∧ s.planner.stopInForce = none ∧
      (attrsAt s.zones 20000).dirs ≠ .none ∧ forbidden s .forward = false ∧ forbidden s .reverse = false ∧ 1000000000 < x ∧
      (s.onChase fun c => { c with halting := true }).chase.halting = true ∧
      (∀ p ∈ [ChasePlan.running, .stopped], Ready (k .parked (some p)) ∧ (k .parked (some p)).chase.state = .parked) ∧
      mag (16 - 0) ≤ s.params.window ∧ s.params.window < mag (17 - 0) ∧
      (∀ st ∈ [ChaseState.runup, .matching, .locked, .freewheel], Ready (k st (some .running)) ∧ (k st (some .running)).chase.state = st) ∧
      s.params.reseek < mag 120001 ∧ mag 120000 ≤ s.params.reseek ∧ (0 : Int) ≤ 0 ∧
      (q .matching 799).chase.silence = some 799 ∧ 799 + 1 = 800 ∧ (q .seek 3).locate = none ∧
      799 + 1 < 4 * s.params.freewheel ∧ 4 * s.params.freewheel ≤ 4 * s.params.freewheel - 1 + 1 ∧
      r.chase.master.isSome = true ∧ r.held = none ∧ r.locate = none ∧
      dRun < dRun + 1 - (0 + divTrunc (381 * 80 * ((0 + 1) / 4 : Nat)) 1000 + 0) ∧
      (after .locateUnitStep (r.onChase fun c => { c with pPark := dRun + r.chase.offset })).chase.state = .runup ∧
      (after .locateUnitStep (r.onChase fun c => { c with pPark := dRun + 1 + r.chase.offset })).chase.state = .parked ∧
      (after (.masterPosition 1 100001 381) (k .locked (some .running))).chase.halting = true ∧
      (after .locateUnitStep (q .matching 799)).chase.state = .freewheel := by decide +kernel

/-- A halting chase at rest; its locate settled at remaining = d_run and one less, with 3 and 4 doublings; past the aim at a fourth
approach, and with the way back blocked (R139, R140). -/
theorem test_witness_ChaseLockAndSilence_seeking :
    let l (ph : LocatePhase) (n : Nat) : LocateRec :=
      { owner := .chase, target := 0, cueId := none, thenPlay := false, preroll := 0, aim := 0, dir := .forward, phase := ph,
        attempts := n, settleRun := 39 }
    let q (pl : Option ChasePlan) (pPark : Int) (n : Nat) := (chasing .seek 0 0).onChase fun c =>
      { c with plan := pl, halting := pl.isNone, pPark := pPark, offset := 0, silence := some 0, doublings := n
               master := some { position := 0, speed := 381, age := 0 } }
    let at_ (r : LocateRec) (s : State) : State := { s with locate := some r }
    let dRun := divCeil (mmPerS (q none 0 0).capstan.vPlay ^ 2 * 40) (aAccEff (q none 0 0) .forward)
    let x : Int := 0 + divTrunc (381 * 80 * (q none 0 0).chase.lead) 1000
    let past (s : State) := (s.onTach fun t => { t with position := 9 }).onPlanner fun p => { p with vRef := 8000 }
    (∀ s ∈ [q none 0 0, at_ (l .settle 0) (q (some .running) dRun 0), past (at_ (l .creep 3) (q (some .running) dRun 0))],
      s.held = none ∧ s.chase.state = .seek ∧ s.planner.mode = .chase ∧ s.planner.stopInForce = none ∧ s.chase.silence = some 0 ∧
        s.chase.master.isSome = true ∧ 0 + 1 < 4 * s.params.freewheel) ∧
    (q none 0 0).locate = none ∧ (q none 0 0).chase.halting = true ∧ (q none 0 0).planner.vRef = 0 ∧
    (q none 0 0).planner.pinch = .opened ∧ -1000000000 ≤ x ∧ 2 * x ≤ 1000000000 ∧ (attrsAt (q none 0 0).zones x).dirs ≠ .none ∧
    forbidden (q none 0 0) .forward = false ∧ ¬x < (q none 0 0).tach.position ∧
    forbidden (blocked true false (q none 0 0)) .forward = true ∧ mag 0 ≤ (q none 0 0).params.tolerance ∧
    (q none 0 0).params.tolerance < mag (0 - 9) ∧
    (after .locateUnitStep (q none 0 0)).locate.map (·.aim) = some x ∧
    (after .locateUnitStep (blocked true false (q none 0 0))).planner.mode = .hold ∧
    [at_ (l .settle 0) (q (some .running) dRun 0), at_ (l .settle 0) (q (some .running) (dRun - 1) 3),
      at_ (l .settle 0) (q (some .running) (dRun - 1) 4), past (at_ (l .creep 3) (q (some .running) dRun 0)),
      past (blocked false true (at_ (l .creep 0) (q (some .running) dRun 0)))].map (fun s =>
        ((after .locateUnitStep s).chase.state, (after .locateUnitStep s).chase.doublings, (after .locateUnitStep s).planner.mode)) =
      [(.parked, 0, .chase), (.seek, 4, .chase), (.off, 4, .hold), (.off, 0, .stopping), (.off, 0, .stopping)] ∧
    Ready (at_ (l .travel 0) (q (some .stopped) 0 0)) ∧ mag (0 + 16 - 0) ≤ (q none 0 0).params.window ∧
    (after (.masterPosition 1 16 0) (at_ (l .travel 0) (q (some .stopped) 0 0))).locate.map (·.aim) = some 0 ∧
    (after (.masterPosition 1 17 0) (at_ (l .travel 0) (q (some .stopped) 0 0))).locate.map (·.aim) = some 17 := by decide +kernel

/-- A host's locate to 100 in a phase. -/
def locating (ph : LocatePhase) (settleRun : Nat) (x : Int) : State :=
  { (inMode .locate).onTach fun y => { y with position := x } with
    locate := some { owner := .host, target := 100, cueId := none, thenPlay := false, preroll := 0, aim := 100, dir := .forward,
                     phase := ph, attempts := 0, settleRun := settleRun } }

/-- Each phase at a bound: 40 000, 1 600 and 1 601 edges off, the tolerance 8 and 9, passed the aim, a fourth approach; a barred path. -/
theorem test_witness_LocateSettlesIntoHold :
    let mv (s : State) := s.onPlanner fun p => { p with vRef := 8000 }
    let still (s : State) := s.onTach fun y => { y with vMeas := -1999 }
    let set (f : LocateRec → LocateRec) (s : State) := s.onLocate fun l => l.map f
    let d := still (locating .settle 39 92)
    let l : List State := [locating .travel 0 (-39900), mv (locating .approach 0 (-1501)), locating .creep 0 92, locating .creep 0 91,
      locating .creep 0 109, noWay (locating .creep 0 (-9)), locating .settle 38 92, d, still (locating .settle 39 91)]
    (∀ s ∈ l, s.held = none ∧ s.chase.state = .off ∧ s.planner.mode = .locate ∧ s.planner.stopInForce = none ∧
      s.locate.map (·.owner) = some .host) ∧
    forbidden d .forward = false ∧ forbidden (blocked true true d) .forward = true ∧ d.planner.pinch ≠ .closed ∧
    l.map (fun s => (after .locateUnitStep s).locate.map fun r => (r.phase, r.attempts, r.settleRun)) =
      [some (.approach, 0, 0), some (.approach, 0, 0), some (.settle, 0, 0), some (.creep, 0, 0), some (.creep, 1, 0), none,
       some (.settle, 0, 39), none, some (.creep, 1, 40)] ∧
    (after .locateUnitStep (set (fun r => { r with attempts := 3 }) (mv (locating .creep 0 109)))).planner.stopCause = some .locate ∧
    (after .locateUnitStep (blocked false true (locating .creep 0 109))).planner.mode = .hold ∧
    (after .locateSettled d).planner.mode = .hold ∧
    (after .locateSettled (set (fun r => { r with thenPlay := true }) d)).planner.mode = .engaging := by decide +kernel

/-- A survey runs with counters 2 and 3 taken. -/
def surveying (q : Survey) : State :=
  { inMode .survey with
    survey := q
    servo := { Servo.cold with enabled := true }
    monitor := { Monitor.cold with
                 counters := { Monitor.cold.counters with
                   c2 := { Counter.cold with event := .slackSamples, enable := true, holder := .survey },
                   c3 := { Counter.cold with event := .excursion, enable := true, holder := .survey } } } }

/-- Counters 1 and 2, EXCURSION on each, every field at its bound and one beyond, an overflow with its notice on. -/
theorem test_witness_CountersAreSetReadAndFrozen :
    let v := surveying { Survey.cold with state := .positioning }
    let o := State.reset.onMonitor fun m =>
      { m with counters := { m.counters with c3 := { Counter.cold with overflow := true, ovfNotice := true } } }
    Ready State.reset ∧ 3 < 4 ∧ 13 < 14 ∧ 7 < 8 ∧ 1 < 2 ∧ MonEvent.linkRejects.code = 13 ∧ MonEvent.excursion.code = 5 ∧
      ({ supply := true, takeup := true, capstan := true } : Qualifier).bits = 7 ∧ ¬(5 = 5 ∧ 2 < 2) ∧ (5 = 5 ∧ 1 < 2) ∧
      Ready v ∧ surveyRuns v.survey = true ∧ surveyRuns State.reset.survey = false ∧ Ready o ∧
      (∃ n < 4, (o.monitor.counters.get n).overflow = true ∧ (o.monitor.counters.get n).ovfNotice = true) ∧
      ∀ n < 4, ¬((State.reset.monitor.counters.get n).overflow = true ∧
        (State.reset.monitor.counters.get n).ovfNotice = true) := by decide

theorem test_witness_EdgeEventsAreCounted :
    let s := surveying Survey.cold
    s.monitor.frozen = false ∧ (s.onMonitor fun m => { m with frozen := true }).monitor.frozen = true ∧
      Counter.cold = State.reset.monitor.counters.get 0 := by decide

/-- Arms at ±1 000 and ±1 001, threshold 0, each sample-type and edge-type event. -/
theorem test_witness_ExcursionSumsTheDeflection :
    let q : Qualifier := { supply := true, takeup := true, capstan := false }
    let c : Counter := { Counter.cold with event := .excursion, qualifier := q, enable := true }
    let k : Counter := { c with event := .slackSamples }
    c.event = .excursion ∧ c.enable = true ∧ mag (-1000) ≤ 1000 ∧ mag 1000 ≤ 1000 ∧ c.threshold = 0 ∧ c.edge = false ∧
      c.invert = false ∧ c.qualifier.supply = true ∧ c.qualifier.takeup = true ∧ k.event = .slackSamples ∧ k.enable = true ∧
      c.event ∉ [MonEvent.servoSamples, .movingSamples, .slackSamples, .highSamples, .saturatedSamples] ∧
      MonEvent.packWindows ∉ [MonEvent.slackSamples, .highSamples, .excursion] ∧ Ready State.reset ∧ 1 < 2 ∧
      windSample.held = none ∧ windSample.servo.enabled = true ∧ windSample.survey.state ≠ .running ∧
      windSample.monitor.frozen = false ∧ (∀ r ∈ [Reel.supply, .takeup], (windSample.servo.reels.get r).satRun < 799 ∧
        (windSample.servo.reels.get r).slackRun < 7 ∧ (windSample.servo.reels.get r).overRun < 7) ∧
      exec .servoSample windSample = .next (after .servoSample windSample) :=
  ⟨by decide, by decide, by decide, by decide, by decide, by decide, by decide, by decide, by decide, by decide, by decide, by decide,
    by decide, by decide, by decide, rfl, rfl, by decide, rfl, by decide +kernel, rfl⟩

theorem test_witness_SurveysStartAndAbort :
    let h := inMode .hold
    let f := h.onMonitor fun m => { m with frozen := true }
    let b := h.onMonitor fun m => { m with counters := { m.counters with c2 := { Counter.cold with enable := true } } }
    let v := surveying { Survey.cold with state := .running }
    Ready State.reset ∧ State.reset.planner.mode ≠ .hold ∧ Ready h ∧ h.planner.mode = .hold ∧ h.fault.record = none ∧
      (faulted r0 h).fault.record ≠ none ∧ (-1000000000 : Int) ≠ 1000000000 ∧ (1000000000 : Int) < 1000000001 ∧ 32 ≤ 32 ∧ 32 < 33 ∧
      2 < 3 ∧ 7 < 8 ∧ 15 < 16 ∧ Ready b ∧ b.monitor.counters.c2.enable = true ∧ b.monitor.counters.c2.holder = .host ∧
      h.monitor.counters.c2.enable = false ∧ h.monitor.counters.c3.enable = false ∧ h.monitor.frozen = false ∧
      Ready f ∧ f.monitor.frozen = true ∧ h.zones.entries = List.replicate 8 .default ∧ h.zones.base.dirs = .both ∧
      h.planner.fwdBlocked = false ∧ h.planner.revBlocked = false ∧ surveyRuns h.survey = false ∧ Ready v ∧
      surveyRuns v.survey = true ∧ v.planner.mode = .survey ∧ v.planner.stopInForce = none ∧ v.planner.vRef = 0 := by decide

/-- Zone 1 (4 096 to 8 191) allows no direction: a start in it, runs over it in both directions and beside it, a run that ends before it;
each block; a way to the start (R170). A field in range and one clamped (Table 9-3). -/
theorem test_witness_survey_start_checks_zones_and_blocks :
    let h := barredAhead (inMode .hold)
    let q (a b : Int) (v : Nat) : Instr := .surveyStart 1 a b v 120 10 3 200 0 0 0 0 0 0 0
    let code (c : Instr) (s : State) : Option ResultCode :=
      let l := (after c (s.onLink fun l => { l with tx := .idle })).link
      (match l.tx with | .sendingReply r => some r | _ => l.reply).map Reply.code
    ([q 4096 9000 500, q 0 4096 500, q 9000 8191 500, q 0 4095 500, q 9000 8192 500, q 0 4095 99].map fun c => code c h) =
      [some .targetForbidden, some .targetForbidden, some .targetForbidden, some .ok, some .ok, some .okClamped] ∧
    ([(true, false, q 0 4095 500), (false, true, q 9000 8192 500), (true, false, q 9000 8192 500), (false, true, q (-1) 4095 500),
        (false, true, q 0 4095 500)].map fun x => code x.2.2 (blocked x.1 x.2.1 h)) =
      [some .directionBlocked, some .directionBlocked, some .directionBlocked, some .directionBlocked, some .ok] := by decide +kernel

/-- Counts at the window's bounds 1 000 and 12 000 and beyond, t_off 5 000 and t_on 6 000 and one beyond, a run of 3, each turn. -/
theorem test_witness_MeasurementsAreTaken :
    let s := State.reset
    let w (i : PresenceId) := (inMode .wind).onSense fun x => { x with turn := some i }
    let a := s.onArm .supply fun x => { x with cal := some (5000, 8000) }
    let e := (inMode .hold).onServo fun v => { v with enabled := true }
    let q := PresenceChannel.cold
    s.held = none ∧ (s.sense.arms.get .supply).range ≠ .off ∧ (s.sense.arms.get .supply).cMin ≤ 1000 ∧
      12000 ≤ (s.sense.arms.get .supply).cMax ∧ (s.sense.arms.get .supply).cal = none ∧
      (a.sense.arms.get .supply).cal = some (5000, 8000) ∧ 999 < (s.sense.arms.get .supply).cMin ∧
      (s.sense.arms.get .supply).cMax < 12001 ∧ s.servo.enabled = false ∧ e.servo.enabled = true ∧ e.fault.record = none ∧
      (s.onArm .takeup fun x => { x with range := .off }).sense.arms.takeup.range = .off ∧
      (s.onSense fun x => { x with turn := none }).sense.turn = none ∧
      (∀ i ∈ [PresenceId.ps, .pt, .ph], (w i).sense.turn = some i ∧ (w i).sense.presence i = q ∧ (w i).held = none ∧
        (w i).fault.record = none ∧ (w i).planner.mode = .wind) ∧
      q.tOff < 5001 ∧ 5999 < q.tOn ∧ q.tOn ≤ 6000 ∧ (5000 < q.tOn ∧ 5000 ≤ q.tOff) ∧
      ({ q with candidate := some .absent, run := 3 } : PresenceChannel).candidate = some .absent ∧ 3 ≤ 3 ∧
      0 < ((w .ph).onPlanner fun p => { p with vRef := 1 }).planner.vRef ∧ (w .ph).planner.stopInForce = none := by decide

/-- The wrap at both ends; a window direction of each kind; a cue at the new position; a zone ahead that allows and one that forbids. -/
theorem test_witness_RollerEdgesCountPosition :
    let c : Cue := { cueAt 3 1 with kind := .autoStop }
    let z := noWay (running .play (-1))
    (∀ m ∈ [Mode.play, .wind], (running m 0).held = none ∧ (running m 0).tach.position = 0 ∧ (running m 0).planner.mode = m ∧
      (running m 0).zones.current.dirs = .both ∧ zoneAt (running m 0).zones 1 = (running m 0).zones.index ∧
      (running m 0).survey.state ≠ .running ∧ (∀ c ∈ (running m 0).cues.list, c.position ≠ 1) ∧
      (withCues [c] (running m 0)).cues.list = [] ++ c :: [] ∧ c.position = 1 ∧ mag 1 ≤ 1000000000 ∧
      (withCues [c] (running m 0)).cues.lastReached ≠ some c.id) ∧
    (withCues [c] (running .wind 0)).planner.inForce = [] ∧
      (after .plannerStep (withCues [c] (running .wind 0))).planner.inForce = [(3, 1)] ∧
      (after (.rollerEdge .forward) (withCues [c] (running .wind 0))).planner.autoStopCap = false ∧
      (after (.rollerEdge .forward) (after .plannerStep (withCues [c] (running .wind 0)))).planner.autoStopCap = true ∧
      (after (.rollerEdge .forward) (after .plannerStep (withCues [c] ((running .wind 0).onPlanner fun p =>
        { p with pinch := .opening })))).planner.autoStopCap = true ∧
    (running .wind 2147483647).tach.position = 2147483647 ∧ (running .wind (-2147483648)).tach.position = -2147483648 ∧
      ({ State.reset with held := some .warm } : State).held ≠ none ∧ (State.reset.packs.pack.get .supply).status = .unknown ∧
      ((running .wind 0).packs.pack.get .supply).status ≠ .unknown ∧
      ((running .wind 0).packs.pack.get .supply).winDir = some .forward ∧ Dir.reverse ≠ .forward ∧
      c.kind = .autoStop ∧ c.id ∉ (running .wind 0).planner.missed ∧ (running .wind 0).planner.travel = some .forward ∧
      (running .wind 0).cues.pendingStop = none ∧ zoneAt z.zones 0 ≠ z.zones.index ∧ z.planner.heading = some .forward ∧
      (attrsAt z.zones 0).dirs.allows .forward = false ∧ z.planner.stopInForce = none ∧
      (attrsAt (running .play (-1)).zones 0).dirs.allows .forward = true := by decide +kernel

/-- A pack of 254 and 255 edges, 254 and 255 predictions, 2 rejections; a PROBE of 30 and 31 edges; against the direction. -/
theorem test_witness_ReelEdgesFillTheWindow :
    let s (k : Pack) := worked.onPack .supply fun _ => k
    let t := tracking 120000 13031
    let p : Pack := { Pack.unknown with status := .probe, wAcc := 31, lAcc := 7540 }
    State.reset.held = none ∧ (State.reset.packs.profile.get .supply).hub ≤ (State.reset.packs.profile.get .supply).flange ∧
      (State.reset.packs.pack.get .supply).status = .unknown ∧ t.status = .tracking ∧ t.winDir = some .forward ∧
      (s { t with wAcc := 254 }).held = none ∧ (254 + 1 < 256) ∧ ({ t with wAcc := 255 } : Pack).wAcc = 255 ∧
      ({ t with predCount := 255 } : Pack).predCount = 255 ∧ Dir.forward ≠ .reverse ∧ p.status = .probe ∧ p.winDir = none ∧
      p.wAcc = 31 ∧ 30 + 1 < 32 ∧ (s p).packs.pack.takeup.status = .tracking ∧
      ((s p).onPack .takeup fun _ => .unknown).packs.pack.takeup.status ≠ .tracking ∧
      ((s p).onPlanner fun x => { x with mode := .loading, sub := some .probeCreep }).planner.mode = .loading ∧
      (if (Reel.supply = .takeup ↔ false = true) then Dir.forward else .reverse) = .forward ∧
      (60309 * 3200000 + 804224) / 1608448 = 119984 ∧ 100 * mag ((119984 : Int) - (119962 : Nat)) ≤ 3 * 119962 ∧
      ¬100 * mag ((110000 : Int) - (119962 : Nat)) ≤ 3 * 119962 ∧ (7540 * 3200000 + 100528) / 201056 = 120006 := by decide +kernel

/-- Quiet and drive runs at 1 999 and 2 000; the roller silent for 400 slots with 16 edges of each reel; 799 and 800 roller edges. -/
theorem test_witness_SpeedIsSampled :
    let s := (inMode .wind).onServo fun v => { v with enabled := true }
    let moving := (s.onPlanner fun p => { p with vRef := 1 }).onTach fun x => { x with reels := .both { ReelTach.zero with edgeHist := [16] } }
    let quiet := (s.onTach fun x =>
      { x with rollerEdges := 800, reels := { supply := { ReelTach.zero with quietRun := 1999, driveRun := 1999 }, takeup := .zero } }).onReelServo
        .supply fun v => { v with code := -8192 }
    State.reset.held = none ∧ State.reset.servo.enabled = false ∧ State.reset.fault.record = none ∧ moving.servo.enabled = true ∧
      moving.planner.vRef ≠ 0 ∧ ((((moving.tach.rollerNet, moving.tach.rollerEdges) :: moving.tach.rollerHist).take 400).map (·.2)).sum = 0 ∧
      16 ≤ ((0 :: moving.tach.reels.supply.edgeHist).take 400).sum ∧
      800 ≤ (((quiet.tach.rollerNet, quiet.tach.rollerEdges) :: quiet.tach.rollerHist).map (·.2)).sum ∧
      min 2000 (quiet.tach.reels.supply.quietRun + 1) = 2000 ∧ 8192 ≤ mag (quiet.servo.reels.get .supply).code ∧
      min 2000 (quiet.tach.reels.supply.driveRun + 1) = 2000 ∧ quiet.tach.reels.takeup.quietRun + 1 < 2000 ∧
      quiet.fault.record = none := by decide

/-- The state of section 3.7 with a slack, over and saturation run of the supply reel. -/
def nearEnd (slackRun overRun satRun : Nat) (p : Int) : State :=
  (windSample.onReelServo .supply fun v => { v with slackRun := slackRun, overRun := overRun, satRun := satRun }).onArm .supply fun a =>
    { a with p := p }

/-- Runs of 6, 7 and 799; arms at ±950; a supply reel that saturates; the drives DISABLED. -/
theorem test_witness_ServoSamplesSetTheDrives :
    State.reset.held = none ∧ State.reset.servo.enabled = false ∧
    (∀ s ∈ [windSample, nearEnd 7 0 0 (-950), nearEnd 0 7 0 950, nearEnd 0 0 799 949], s.held = none ∧ s.servo.enabled = true ∧
      s.survey.state ≠ .running ∧ s.fault.record = none ∧ (s.servo.reels.get .takeup).satRun < 799 ∧
      mag (s.sense.arms.get .takeup).p < 950 ∧ ¬(s.planner.mode = .loading ∧ s.planner.sub = some .takeUp)) ∧
    (∀ r ∈ [Reel.supply, .takeup], (windSample.servo.reels.get r).satRun < 799 ∧ (windSample.servo.reels.get r).slackRun < 7 ∧
      (windSample.servo.reels.get r).overRun < 7) ∧
    ((nearEnd 7 0 0 (-950)).servo.reels.get .supply).slackRun = 7 ∧ ((nearEnd 0 7 0 950).servo.reels.get .supply).overRun = 7 ∧
      ((nearEnd 0 0 799 949).servo.reels.get .supply).satRun = 799 ∧ mag ((nearEnd 0 0 799 949).sense.arms.get .supply).p < 950 ∧
      reelDriven (nearEnd 0 0 799 949) = true ∧
      (after (.saturation .supply)
        ((nearEnd 0 0 799 949).onPacks fun x => { x with profile := .both { ReelProfile.cold with tauLim := 500 } })).fault.record.isSome =
          true := by decide +kernel

theorem test_witness_SupplyLowReducesTheDrives :
    let d := State.reset.onServo fun v => { v with reduced := true, recovery := some 7 }
    let f := recordOf .powerFail none .fast
    let p := (faulted f (stoppingBy .fault)).onLines fun l => { l with powerFail := true }
    let q := p.onFault fun x => { x with powerFailTaken := true }
    ({ State.reset with held := some .warm } : State).held ≠ none ∧ State.reset.held = none ∧ d.servo.reduced = true ∧
      d.fault.record = none ∧ State.reset.servo.reduced = false ∧ State.reset.fault.record = none ∧ q.held = none ∧
      q.lines.powerFail = true ∧ q.fault.powerFailTaken = true ∧ q.fault.record = some f ∧ f.severity ≠ .brake ∧
      q.planner.mode = .stopping ∧ q.planner.stopInForce = some .controlled ∧ State.reset.servo.recovery = none ∧
      d.servo.recovery ≠ none := by decide

/-- A latched fault with 2 and with 3 secondaries; SUPPLY_LOW asserted and not; each mode's clause. -/
theorem test_witness_FaultsAreTaken :
    let c (k : FaultKind) : Condition := { kind := k, reel := none }
    let f2 : FaultRecord := { r0 with secondaries := [c .rollerSilent, c .capstanStall] }
    let f3 : FaultRecord := { r0 with secondaries := f2.secondaries ++ [c .linkSilence] }
    let t := (inMode .play).onFault fun f => { f with linkTimeout := 100, linkTimer := some 99 }
    ({ State.reset with held := some .warm } : State).held ≠ none ∧ State.reset.held = none ∧ State.reset.fault.record = none ∧
      State.reset.planner.mode = .idle ∧
      (∀ m ∈ [Mode.hold, .wind, .locate, .engaging, .play, .chase, .survey], (inMode m).held = none ∧ (inMode m).fault.record = none ∧
        (inMode m).planner.mode = m ∧ (inMode m).planner.stopInForce = none) ∧
      (∀ f ∈ [f2, f3], (faulted f (inMode .stopping)).fault.record = some f ∧ f.primary.kind ≠ .powerFail ∧
        ∀ c ∈ f.secondaries, c.kind ≠ .powerFail) ∧
      f2.secondaries.length < 3 ∧ 3 ≤ f3.secondaries.length ∧ (State.reset.onLines fun l => { l with supplyLow := true }).lines.supplyLow = true ∧
      State.reset.lines.supplyLow = false ∧ State.reset.fault.linkTimer = none ∧ t.held = none ∧ t.fault.linkTimer ≠ none ∧
      t.fault.record = none ∧ t.planner.mode.quiet = false ∧ t.planner.stopInForce = none ∧
      (∀ m ∈ [Mode.wind, .locate, .engaging, .play, .chase, .survey, .loading, .unloading, .stopping], m.quiet = false) ∧
      (stoppingBy .request).planner.stopInForce ≠ none := by decide

/-- A LINK_SILENCE that finds a fault: new with 2 and with 3 secondaries, and listed (R150); a load and an unload that it finds. -/
theorem test_witness_FaultsAreTaken_at_a_silence :
    let k : Condition := { kind := .linkSilence, reel := none }
    let c (x : FaultKind) : Condition := { kind := x, reel := none }
    let at_ (l : List Condition) (m : Mode) := (faulted { r0 with secondaries := l } (inMode m)).onFault fun f => { f with linkTimer := some 9 }
    let two := [c .rollerSilent, c .capstanStall]
    let fresh (m : Mode) := (inMode m).onFault fun f => { f with linkTimer := some 9 }
    r0.primary ≠ k ∧ k ∉ two ∧ two.length < 3 ∧ 3 ≤ (two ++ [c .powerFail]).length ∧ k ∉ two ++ [c .powerFail] ∧
      [at_ two .stopping, at_ (two ++ [c .powerFail]) .stopping, at_ [k] .stopping].map (fun s =>
        (after .linkSilence s).fault.record.map fun f => (f.secondaries, f.lost, f.severity)) =
        [some (two ++ [k], false, .fast), some (two ++ [c .powerFail], true, .fast), some ([k], false, .fast)] ∧
      (after .linkSilence (fresh .loading)).planner.mode = .braked ∧
      (after .linkSilence (fresh .unloading)).planner.mode = .unloading := by decide

def capstanIn (l : LockState) (lockRun unlockRun : Nat) : State :=
  State.reset.onCapstan fun c => { c with lock := l, lockRun := lockRun, unlockRun := unlockRun }

/-- Runs of 62, 63, 6 and 7; |e_φ| at w = 2 and 3, and at 512 and 513; every lock state and notice choice. -/
theorem test_witness_EncoderEdgesKeepThePhase :
    (∀ l ∈ [LockState.off, .spinup, .unlocked, .locked, .holdover], (capstanIn l 0 0).held = none ∧ (capstanIn l 0 0).capstan.lock = l) ∧
      ((capstanIn .unlocked 63 0).capstan.e + 1 = 1) ∧ divTrunc (1 * 65536 - (capstanIn .unlocked 63 0).capstan.r) 65536 = 1 ∧
      max (-512) (min 512 (513 : Int)) = 512 ∧ mag 2 ≤ (capstanIn .unlocked 63 0).capstan.w ∧ 62 + 1 < 64 ∧ 64 ≤ 63 + 1 ∧
      (capstanIn .locked 0 7).capstan.w < mag 3 ∧ 6 + 1 < 8 ∧ 8 ≤ 7 + 1 ∧ State.reset.capstan.lockChoice = .loss ∧
      (State.reset.onCapstan fun c => { c with lockChoice := .both }).capstan.lockChoice = .both := by decide

/-- An idle link, and a counter of one event that the capstan's qualifier admits. -/
def counting (ev : MonEvent) (frozen : Bool) (s : State) : State :=
  ({ s with link := .cold } : State).onMonitor fun m =>
    { m with frozen := frozen
             counters := m.counters.set 0 { Counter.cold with event := ev, qualifier := ⟨false, false, true⟩, enable := true } }

/-- The eighth edge beyond w, and a loss of the reference, each counted, and not by a frozen monitor (R68, R74, R165). -/
theorem test_capstan_losses_are_counted :
    let l (fz : Bool) := (counting .capstanUnlocks fz (capstanIn .locked 0 7)).onCapstan fun c => { c with e := 2 }
    let r (fz : Bool) := (counting .referenceLosses fz (capstanIn .locked 0 0)).onCapstan fun c => { c with source := .external }
    [false, true].map (fun fz => ((after (.capstanEncoderEdge .forward) (l fz)).monitor.counters.c0.value,
      (after .referenceLost (r fz)).monitor.counters.c0.value)) = [(1, 1), (0, 0)] ∧
    (after (.capstanEncoderEdge .forward) (l false)).link.tx = .sendingNotice (.lock .unlocked .loss 3) ∧
    (after .referenceLost (r false)).link.tx = .sendingNotice (.ref .lost .external false) := by decide +kernel

/-- A quiet run of 198 and 199; a target above and below the applied varispeed; SPINUP with the rate reached and not. -/
theorem test_witness_CapstanStepsFollowTheTarget :
    let s := capstanIn .spinup 0 0
    let fast := s.onCapstan fun c => { c with stepNet := 48, rateWindow := List.replicate 31 48, edgeSeen := true }
    State.reset.held = none ∧ State.reset.capstan.lock = .off ∧ s.capstan.lock ≠ .off ∧
      (s.onCapstan fun c => { c with quiet := 198 }).capstan.quiet + 1 < 200 ∧
      200 ≤ (s.onCapstan fun c => { c with quiet := 199 }).capstan.quiet + 1 ∧ s.fault.record = none ∧ s.planner.stopInForce = none ∧
      fast.capstan.lock = .spinup ∧ fast.capstan.present = true ∧
      (fast.onCapstan fun c => { c with present := false }).capstan.present = false ∧
      fast.capstan.base * (10000 + 0) / 10000 = 48000000 ∧
      (100 * (mag ((1536 : Int) * 31250 - 48000000) : Int) ≤ 2 * 48000000) ∧
      ¬(100 * (mag ((0 : Int) * 31250 - 48000000) : Int) ≤ 2 * 48000000) ∧ (capstanIn .holdover 0 0).capstan.lock = .holdover ∧
      (capstanIn .locked 0 0).capstan.lock = .locked := by decide +kernel

/-- Periods of 239, 240, 1 500 and 1 501; a run of 62 and 63; both sources; HOLDOVER with a base held. -/
theorem test_witness_ReferenceEdgesAreFollowed :
    let e := State.reset.onCapstan fun c => { c with source := .external, present := false, presentRun := 63, lock := .holdover, frozenBase := some 48000000 }
    let p := e.onCapstan fun c => { c with present := true, lock := .locked, frozenBase := none }
    State.reset.held = none ∧ State.reset.capstan.source = .internal ∧ e.held = none ∧ e.capstan.source = .external ∧ 239 < 240 ∧
      240 ≤ 240 ∧ 1500 ≤ 1500 ∧ ¬1501 ≤ 1500 ∧ p.capstan.present = true ∧ p.capstan.lock = .locked ∧ 1 ≤ p.capstan.d ∧
      e.capstan.present = false ∧ e.capstan.presentRun + 1 = 64 ∧ 62 + 1 < 64 ∧ e.capstan.lock = .holdover ∧
      e.capstan.frozenBase ≠ none ∧ State.reset.capstan.present = true ∧ State.reset.capstan.lock = .off ∧
      (after .internalReferenceEdge (State.reset.onCapstan fun c => { c with r := 7 })).capstan.r = 7 := by decide

/-- A WIND at rest, below, at and above its goal; a CONTROLLED and a FAST stop above and within a quarter of the rate; runs of 38 and 39. -/
theorem test_witness_PlannerStepsMoveTheReference :
    let w (v : Int) := (inMode .wind).onPlanner fun p => { p with goal := 8000, vRef := v }
    let st (v : Int) := (stoppingBy .request).onPlanner fun p => { p with vRef := v }
    let b (n : Nat) := (inMode .braking).onPlanner fun p => { p with standRun := n }
    (∀ m ∈ [Mode.wind, .locate, .survey, .chase], m.looksAhead = true) ∧
      (∀ m ∈ [Mode.idle, .hold, .braked, .play], (inMode m).held = none ∧ (inMode m).planner.mode = m ∧ (inMode m).cues.list = [] ∧
        ∀ z ∈ (inMode m).zones.entries, z.enabled = false) ∧
      (∀ v ∈ [(0 : Int), 7999999, 8000000, 8000001], (w v).held = none ∧ (w v).planner.mode = .wind ∧ (w v).planner.pinch = .opened ∧
        (w v).planner.autoStopCap = false ∧ (w v).planner.unitPoints = [] ∧ 0 < (w v).planner.goal ∧
        (8000000 : Int) = 1000 * min (min (w v).planner.goal (vMaxEff (w v))) (w v).zones.current.limit ∧ 0 ≤ v ∧
        4 ≤ aAccEff (w v) .forward ∧ 4 ≤ aDecEff (w v) .forward) ∧
      (∀ v ∈ [(381000 : Int), 500], (st v).held = none ∧ (st v).planner.mode = .stopping ∧ (st v).planner.pinch = .opened ∧
        dirOf v = some .forward ∧ 4 ≤ aDecEff (st v) .forward ∧ aDecEff (st v) .forward / 4 = 500) ∧
      4 ≤ (st 1).planner.torque.dec .forward ∧ dirOf (-1) = some .reverse ∧ (b 38).held = none ∧ (b 38).planner.mode = .braking ∧
      (b 38).planner.standRun < 40 ∧ (b 39).planner.standRun + 1 = 40 ∧ (b 39).planner.brake = .applied ∧
      mag (b 39).tach.vMeas < 5000 := by decide +kernel

def inStage (m : Mode) (x : SubStage) (b : BrakeState) (n : Nat) : State :=
  (inMode m).onPlanner fun p => { p with sub := some x, brake := b, armRun := n }

/-- TAKE_UP at 11 998 and 11 999; the probe creep below and at its goal; RAMP_DOWN settled and not; a LOCATE below, above and against its
goal, with its drop point in reach at a_dec_eff and not; a PLAY whose cue is first seen inside the fast stopping distance, seen
farther off (R106), at the controlled stopping distance and one beyond. -/
theorem test_witness_PlannerStepsMoveTheReference_in_stages :
    let t (n : Nat) := (inStage .loading .takeUp .released 0).onPlanner fun p => { p with stageTimer := some n }
    let c (v : Int) := (inStage .loading .probeCreep .released 0).onPlanner fun p => { p with goal := 100, vRef := v }
    let u := (inStage .unloading .rampDown .released 0).onServo fun x => { x with settled := true }
    let m (v g : Int) (q : List DropPoint) := (inMode .locate).onPlanner fun p => { p with vRef := v, goal := g, unitPoints := q }
    let near : DropPoint := { pos := 1000, limit := 0, guard := 0 }
    let play (x : Int) (seen : List (Nat × Int)) := (withCues [{ cueAt 3 x with kind := .autoStop }] (inMode .play)).onPlanner fun p =>
      { p with pinch := .closed, vRef := 381000, seen := seen }
    let slow : Int := divCeil (381 * 16) 5 + divCeil (381 ^ 2 * 40) (aDecEff (play 1 []) .forward)
    let fast : Int := divCeil (381 * 16) 5 + divCeil (381 ^ 2 * 40) (play 1 []).planner.torque.fwdDec
    (t 11998).planner.stageTimer = some 11998 ∧ 11998 + 1 < 12000 ∧ 12000 ≤ 11999 + 1 ∧ 0 + 1 < 40 ∧ (c 0).planner.sub = some .probeCreep ∧
      4 ≤ aAccEff (c 0) .forward ∧ 0 ≤ aDecEff (c 0) .forward ∧ (100000 : Int) ≤ 1000 * 100 ∧ u.servo.settled = true ∧
      (inStage .unloading .rampDown .released 0).servo.settled = false ∧
      (∀ v ∈ [(0 : Int), 9000000, -5, 8000000], (m v 8000 []).planner.pinch = .opened ∧ (m v 8000 []).planner.travel.isSome = true ∧
        1000 * goalEff (m v 8000 []) = 8000000) ∧
      (∀ q ∈ dropPoints (m 300000 8000 [near]) .forward, (distanceTo 0 q.pos q.guard : Int) <
        neededDistance (mag 300000 / 1000) q.limit (aDecEff (m 300000 8000 [near]) .forward)) ∧
      (after .plannerStep (m 300000 8000 [near])).planner.aRef = -4803 ∧
      (after .plannerStep (m 100000 8000 [{ near with pos := 200 }])).planner.aRef = 0 ∧
      fast < slow ∧ (play fast []).planner.stopInForce = none ∧
      [play (fast - 1) [], play (fast - 1) [(3, fast - 1)], play slow [], play (slow + 1) []].map
          (fun s => ((after .plannerStep s).planner.mode, (after .plannerStep s).planner.missed)) =
        [(.play, [3]), (.stopping, []), (.stopping, []), (.play, [])] := by decide +kernel

/-- ENGAGING and RUNUP below, at, above and against v_play (a_acc 1 500, a_dec 2 000; R101), with the pinch in each state, and with a
barred zone inside the stopping distance (R106: 960 + 1 800 rc at 300 mm/s, 1 220 + 2 904 at 381, 0 + 4 050 at 450 with the pinch
OPEN) and not; a WIND under the auto-stop cap within a quarter of a_dec and beyond (R105); STOPPING held and at 0 (R99). -/
theorem test_witness_PlannerStepsMoveTheReference_by_the_pinch :
    let m (m : Mode) (x : PinchState) (v : Int) := (inMode m).onPlanner fun p => { p with pinch := x, vRef := v }
    let run (v : Int) := ((m .chase .opened v).onChase fun c => { c with state := .runup }).onPlanner fun p => { p with goal := 2208 }
    let chase (v : Int) := ((m .chase .closed v).onChase fun c => { c with state := .locked }).onPlanner fun p =>
      { p with unitPoints := [{ pos := 4096, limit := 0, guard := 800 }] }
    let cap (v : Int) := (m .wind .opened v).onPlanner fun p => { p with goal := 8000, autoStopCap := true }
    let step (s : State) := ((after .plannerStep s).planner.mode, (after .plannerStep s).planner.vRef)
    (State.reset.capstan.vPlay = 2208000 ∧ 4 ≤ aAccEff State.reset .forward ∧ 4 ≤ aDecEff State.reset .reverse) ∧
    ([0, 2208000, 2208001, -800].map fun v => step (m .engaging .opened v)) =
      [(.engaging, 375), (.engaging, 2208000), (.engaging, 2208000), (.engaging, -300)] ∧
    ([PinchState.opening, .closing, .closed].map fun x => step (m .engaging x 5)) =
      [(.engaging, 5), (.engaging, 2208000), (.engaging, 2208000)] ∧
    step (run 0) = (.chase, 375) ∧ (run 0).planner.travel = some .forward ∧
    ([300000, 381000].map fun v => step (barredAhead (m .engaging .closed v))) = [(.engaging, 2208000), (.stopping, 381000)] ∧
    step (barredAhead (m .engaging .opened 450000)) = (.stopping, 449500) ∧
    (after .plannerStep (withCues [{ cueAt 3 4096 with kind := .autoStop }]
      (barredAhead (m .play .closed 381000)))).planner.stopCause = some .zone ∧
    ([300000, 381000].map fun v => (step (chase v), (after .plannerStep (chase v)).chase.state)) =
      [((.chase, 2208000), .locked), ((.stopping, 381000), .off)] ∧
    ([500, 501].map fun v => step (cap v)) = [(.hold, 0), (.wind, 1)] ∧
    step (m .stopping .opening 7) = (.stopping, 7) ∧ step (m .stopping .opened 0) = (.hold, 0) ∧
    step (m .locate .opening 7) = (.locate, 7) ∧ step (m .locate .opened 0) = (.locate, 0) := by decide +kernel

/-- R106, R117, R99: at a goal of 0 mm/s a step in ENGAGING inside the guard of a barred zone demands the stop, with v_ref 0, above 0 and
below 0 alike. With v_ref 0 the same step ends it, and the ZONE notice says BLOCKED by zone 1 in the forward direction. -/
theorem test_play_stop_at_goal_zero_is_blocked_forward :
    let s (v : Int) := (((barredAhead (inMode .engaging)).onPlanner fun p => { p with pinch := .opened, vRef := v }).onCapstan fun c =>
      { c with m := 1, d := 4096, ell := 5000 }).onTach fun x => { x with position := 4000 }
    let loud := (s 0).onLink fun l => { l with levels := List.replicate 20 2 }
    let t := after .plannerStep loud
    mmPerS loud.capstan.vPlay = 0 ∧ loud.planner.heading = none ∧
      ([0, 700, -700].map fun v => (checkPlayStops (s v)).zones.pendingBlock) = List.replicate 3 (some (1, .forward)) ∧
      t.planner.mode = .hold ∧ t.zones.pendingBlock = none ∧
      (t.link.notices.any fun q => q.notice == .zone .blocked 8 ZoneAttrs.default 4000 none (some (1, .forward))) = true := by
  decide +kernel

/-- Each brake state; arms at 200 and 201; an arm run of 38 and 39. -/
theorem test_witness_LoadingRunsThroughItsStages :
    let r := inStage .loading .release .releasing 0
    let u := inStage .unloading .brakeSet .applying 0
    let t := inStage .loading .takeUp .released 39
    let a (p : Int) := t.onArm .takeup fun x => { x with p := p }
    State.reset.held = none ∧ State.reset.planner.brake = .applied ∧ (inMode .hold |>.onPlanner fun p => { p with brake := .releasing }).planner.mode = .hold ∧
      r.planner.brake = .releasing ∧ r.planner.mode = .loading ∧ r.planner.sub = some .release ∧ r.servo.enabled = false ∧
      (∀ x ∈ [Reel.supply, .takeup], (r.sense.arms.get x).outcome ≠ .stalled ∧ (r.sense.arms.get x).outcome ≠ .outOfRange) ∧
      u.planner.brake = .applying ∧ u.planner.mode = .unloading ∧ u.planner.sub = some .brakeSet ∧ t.planner.mode = .loading ∧
      t.planner.sub = some .takeUp ∧ t.planner.armRun = 39 ∧ (∀ x ∈ [Reel.supply, .takeup], mag ((a 200).sense.arms.get x).p ≤ 200) ∧
      200 < mag ((a (-201)).sense.arms.get .takeup).p ∧ (inStage .loading .takeUp .released 38).planner.armRun < 39 ∧
      ¬(State.reset.planner.mode = .loading ∧ State.reset.planner.sub = some .takeUp) := by decide

/-- The speed 1 % off v_play and beyond; a match run of 38 and 39; each pinch state; a RUNUP. -/
theorem test_witness_EngagingClosesThePinch :
    let e (v : Int) (n : Nat) (l : LockState) :=
      ((capstanIn l 0 0).onPlanner fun p => { p with mode := .engaging, matchRun := n }).onTach fun x => { x with vMeas := v }
    let v := State.reset.capstan.vPlay
    let g := (e 0 0 .locked).onPlanner fun p => { p with matchTimer := some 5 }
    v = 2208000 ∧ (mag (2230080 - v) : Int) ≤ v / 100 ∧ ¬(mag (2230081 - v) : Int) ≤ v / 100 ∧
      (e 2230080 39 .unlocked).held = none ∧ (e 2230080 39 .unlocked).planner.mode = .engaging ∧
      (e 2230080 39 .unlocked).planner.pinch = .opened ∧ ForwardPathClear (e 2230080 39 .unlocked) ∧
      40 = min 40 ((e 2230080 39 .unlocked).planner.matchRun + 1) ∧ 39 = min 40 ((e 2230080 38 .unlocked).planner.matchRun + 1) ∧
      (e 2230080 39 .unlocked).planner.matchTimer = none ∧ (e 2230080 39 .unlocked).capstan.lock ≠ .locked ∧
      (e 2230080 39 .unlocked).capstan.lock ≠ .holdover ∧ (e 2230080 39 .locked).capstan.lock = .locked ∧
      g.planner.matchTimer ≠ none ∧ g.planner.stopInForce = none ∧
      (∀ x ∈ [PinchState.opening, .closing, .closed], (State.reset.onPlanner fun p => { p with pinch := x }).planner.pinch ≠ .opened) ∧
      State.reset.planner.mode = .idle ∧ (chasing .runup 0 0).chase.state = .runup ∧ (chasing .runup 0 0).planner.mode = .chase := by
  decide +kernel

/-- A match of 39 steps with its timer at n, an AUTO_STOP cue and a barred zone at 4 096, at v µm/s. -/
def engagedAt (m : Mode) (x : ChaseState) (l : LockState) (v : Int) (n : Nat) : State :=
  ((((withCues [{ cueAt 3 4096 with kind := .autoStop }] (barredAhead (inMode m))).onChase fun c => { c with state := x }).onPlanner fun p =>
    { p with pinch := .opened, vRef := v, matchRun := 39, matchTimer := some n, goal := 2208 }).onTach fun x =>
      { x with vMeas := 2208000 }).onCapstan fun c => { c with lock := l }

/-- In ENGAGING with the barred zone beyond the stopping distance (R106: 3 200 of 3 296 rc at 400 mm/s, 3 395 at 412), and in RUNUP: the
match timer brought to 11 999 and to 12 000 steps (R94, R142), above a quarter of a_dec (2 000), at it and at 0, and the close. -/
theorem test_witness_EngagingClosesThePinch_with_zones_and_in_a_chase :
    let both (l : LockState) (v : Int) (n : Nat) := [engagedAt .engaging .off l v n, engagedAt .chase .runup l v n]
    let stepped (s : State) := (after .plannerStep s).planner
    let shown (s : State) := ((stepped s).mode, (stepped s).vRef, (stepped s).matchTimer)
    (∀ s ∈ both .unlocked 400000 11998, ForwardPathClear s) ∧ ¬ForwardPathClear (engagedAt .engaging .off .unlocked 412000 0) ∧
    (both .unlocked 400000 11999).map (fun s => (s.held, s.planner.stopInForce, aDecEff s .forward)) = List.replicate 2 (none, none, 2000) ∧
    (both .unlocked 400000 11998).map shown = [(.engaging, 400375, some 11999), (.chase, 400375, some 11999)] ∧
    (both .unlocked 501 11999).map shown = List.replicate 2 (.stopping, 1, none) ∧
    (both .unlocked 500 11999 ++ both .unlocked 0 11999).map shown = List.replicate 4 (.hold, 0, none) ∧
    (both .unlocked 501 11999).map (fun s => (stepped s).stopCause) = List.replicate 2 (some .engageFailed) ∧
    (after .plannerStep (engagedAt .chase .runup .unlocked 501 11999)).chase.state = .off ∧
    (both .locked 400000 11999).map shown = [(.engaging, 2208000, none), (.chase, 2208000, none)] := by decide +kernel

/-- A survey of three steps of 200 samples. -/
def surveyAt (phase : StepPhase) (count k : Nat) : State :=
  let e : StepEntry := { tension := 120, clamped := false, samples := 0, slack := 0, excursion := 0, endedBy := none, frozen := false }
  surveying { Survey.cold with
    state := .running, phase := some phase, phaseCount := count, k := k, table := List.replicate k { e with endedBy := some .dwell } ++ [e]
    request := some { start := 0, finish := 900000, speed := 500, tension := 120, step := -30, stepCount := 3, dwell := 200,
                      limitSource := .dwell, limitValue := 0, slackThr := 600, excThr := 300, fast := false, thres := 0, shift := 0 } }

/-- Samples 98 and 99 of SETTLE; samples 198 and 199 of a dwell of 200, on the second and on the last step. -/
theorem test_witness_SurveyStepsCountTheirSamples :
    (∀ s ∈ [surveyAt .settle 98 0, surveyAt .settle 99 0, surveyAt .count 198 1, surveyAt .count 199 1, surveyAt .count 199 2],
      s.held = none ∧ s.servo.enabled = true ∧ s.survey.state = .running ∧ s.survey.request.isSome = true ∧
      (∀ z ∈ s.zones.entries, z.enabled = false) ∧ ∀ r ∈ [Reel.supply, .takeup], (s.servo.reels.get r).satRun < 799 ∧
        (s.servo.reels.get r).slackRun < 7 ∧ (s.servo.reels.get r).overRun < 7) ∧
    (surveyAt .settle 98 0).survey.phaseCount < 99 ∧ (surveyAt .settle 99 0).survey.phaseCount = 99 ∧
    (surveyAt .count 199 2).survey.k = (List.replicate 2 (0 : Nat)).length ∧
    (surveyAt .count 199 2).survey.request.map (fun q => (q.limitSource, q.fast, q.dwell, q.stepCount)) = some (.dwell, false, 200, 3) ∧
    198 + 1 < 200 ∧ 200 ≤ 199 + 1 ∧ 1 + 1 < 3 ∧ 2 + 1 = 3 ∧ 20 ≤ State.reset.packs.tape.tMax ∧
    (surveyAt .count 199 2).survey.table.map (·.endedBy) = [some .dwell, some .dwell, none] := by decide +kernel

/-- A survey's step in COUNT at its 11th sample, with a gain of 5 on both counters: limits of 5 and 6 by each source, a dwell of 11 met by
itself and with the limit, and a fast threshold of 5 and of 6 with the flag on (R173, R174). -/
theorem test_witness_survey_steps_end_by_limit_dwell_and_fast :
    let at_ (src : LimitSource) (limit dwell : Nat) (fast : Bool) (thres : Nat) := (surveyAt .count 10 1).onSurvey fun v =>
      { v with base2 := 4294967291, base3 := 4294967291, request := v.request.map fun q =>
          { q with limitSource := src, limitValue := limit, dwell := dwell, fast := fast, thres := thres } }
    let run (s : State) := ((after .servoSample s).survey.outcome, (after .servoSample s).survey.table.map (·.endedBy))
    ([at_ .slack 6 200 true 4, at_ .slack 5 200 false 4, at_ .excursion 5 200 false 4, at_ .excursion 5 11 false 4, at_ .slack 6 11 false 4,
        at_ .dwell 1 11 true 5, at_ .dwell 1 11 true 4].map run) =
      [(none, [some .dwell, none]), (none, [some .dwell, some .limit, none]), (none, [some .dwell, some .limit, none]),
       (none, [some .dwell, some .limit, none]), (none, [some .dwell, some .dwell, none]), (none, [some .dwell, some .dwell, none]),
       (some .fastEnd, [some .dwell, some .dwell])] ∧
    ((after .servoSample (surveyAt .count 199 2)).survey.outcome, (after .servoSample (surveyAt .count 199 2)).planner.mode) =
      (some .complete, .hold) := by decide +kernel

/-- RAMP with v_ref at the goal and 1 µm/s below; a zone between the position and `to` that forbids both directions; `to` reached, and one
edge before it, in both directions (R173, R175). -/
theorem test_witness_survey_ramps_and_ends_at_its_range :
    let ramp (v : Int) := ((surveyAt .ramp 0 0).onSurvey fun x => { x with table := [] }).onPlanner fun p => { p with goal := 500, vRef := v }
    let place (x : Int) := (surveyAt .count 10 1).onTach fun y => { y with position := x }
    let back (x : Int) := (place x).onSurvey fun v => { v with request := v.request.map fun q => { q with start := 900000, finish := 0 } }
    let b := after .servoSample (barredAhead (surveyAt .settle 5 0))
    let show_ (s : State) := (s.survey.state, s.survey.outcome, s.survey.table.map (·.endedBy))
    (∀ s ∈ [ramp 0, place 0, barredAhead (surveyAt .settle 5 0)], s.planner.mode = .survey ∧ s.planner.stopInForce = none ∧
      s.zones.index = zoneAt s.zones s.tach.position ∧ s.cues.list = [] ∧ s.zones.current.dirs = .both) ∧
    goalEff (ramp 500000) = 500 ∧ 20 ≤ (ramp 0).packs.tape.tMax ∧ (after .servoSample (ramp 499999)).survey = (ramp 0).survey ∧
    show_ (after .servoSample (ramp 500000)) = (.running, none, [none]) ∧ show_ b = (.ended, some .aborted, [some .abort]) ∧
    b.survey.reason = some .zone ∧ b.planner.mode = .hold ∧
    ([place 899998, place 899999].map fun s => show_ (after (.rollerEdge .forward) s)) =
      [(.running, none, [some .dwell, none]), (.ended, some .rangeEnd, [some .dwell, some .range])] ∧
    ([back 2, back 1].map fun s => show_ (after (.rollerEdge .reverse) s)) =
      [(.running, none, [some .dwell, none]), (.ended, some .rangeEnd, [some .dwell, some .range])] := by decide +kernel

/-- A survey's locate at a step before its end, DONE, MISSED, and BLOCKED by a barred path and by a direction block (R172). -/
theorem test_witness_survey_takes_its_locate :
    let pos (s : State) := { s.onPlanner fun p => { p with mode := .survey } with
      survey := { (surveyAt .ramp 0 0).survey with state := .positioning, phase := none, table := [] }
      locate := s.locate.map fun l => { l with owner := .survey } }
    let late (s : State) := s.onLocate fun l => l.map fun r => { r with attempts := 3 }
    let l : List State := [pos (locating .travel 0 (-39900)), pos (locating .settle 39 92), late (pos (locating .creep 0 109)),
      pos (noWay (locating .creep 0 (-9))), pos (blocked false true (locating .creep 0 109))]
    (∀ s ∈ l, s.held = none ∧ s.chase.state = .off ∧ s.locate.map (·.owner) = some .survey ∧ s.survey.state = .positioning ∧
      s.survey.request.isSome = true ∧ s.survey.table = [] ∧ s.planner.mode = .survey ∧ s.planner.stopInForce = none) ∧
    (l.map fun s => ((after .locateUnitStep s).survey.state, (after .locateUnitStep s).survey.reason,
        (after .locateUnitStep s).locate.isSome, (after .locateUnitStep s).planner.mode)) =
      [(.positioning, none, true, .survey), (.running, none, false, .survey), (.ended, some .locateMissed, false, .hold),
       (.ended, some .locateBlocked, false, .hold), (.ended, some .locateBlocked, false, .hold)] ∧
    (after .locateSettled (pos (locating .settle 39 92))).planner.goal = 500 := by decide +kernel

/-! The premises of the invariants, at the reset state and at states further on. -/

theorem test_witness_invariants_at_reset :
    InhibitFollows State.reset ∧ ZoneInForce State.reset ∧ LinesFollow State.reset ∧ DrivesSafe State.reset ∧
      CapstanInRange State.reset ∧ LinkServed State.reset := by
  refine ⟨?_, ?_, ?_, ?_, ?_, ?_⟩ <;> decide +kernel

theorem test_witness_more_invariants_at_reset :
    NoticesOrdered State.reset.link ∧ CuesOrdered State.reset.cues.list ∧ ZonesInRange State.reset.zones ∧
      UnitsOwnModes State.reset ∧ FaultRecordSound State.reset.fault ∧ step State.reset = .next (tick State.reset) := by
  refine ⟨?_, ?_, ?_, ?_, ?_, rfl⟩ <;> decide +kernel

/-- A latched fault with three secondaries, two cues, eight notices, the worked zones. -/
theorem test_witness_invariants_further_on :
    FaultRecordSound { FaultUnit.cold with
      record := some { r0 with secondaries := [.rollerSilent, .capstanStall, .linkSilence].map fun k => { kind := k, reel := none }, lost := true } } ∧
      CuesOrdered [cueAt 5 (-100), cueAt 9 300] ∧ NoticesOrdered fullLink ∧ ZonesInRange workedZones ∧
      UnitsOwnModes (locating .travel 0 0) := by
  refine ⟨?_, ?_, ?_, ?_, ?_⟩ <;> decide +kernel

/-- The supply and power lines are deasserted, and a power-on and its end answer next. -/
theorem test_witness_TheResetStateIsSafe :
    State.reset.lines.supplyLow = false ∧ State.reset.lines.powerFail = false ∧
      exec .powerOn State.reset = .next (after .powerOn State.reset) ∧
      exec .resetEnd (after .powerOn State.reset) = .next (after .resetEnd (after .powerOn State.reset)) := by
  refine ⟨rfl, rfl, rfl, rfl⟩
end Sys2Proof.Tests
end

namespace Sys2Proof.Machine

/-! # Proofs of family 01, tape path and sensing

First what the updates of the Sense Scanner do and leave, then a reset (O10), SET_SENSE and SET_ARM_CAL (O18), measurements (O40). -/

/-! ## Updates of the Sense Scanner -/

theorem State.onSense_onlyChanges (s : State) (f : Sense → Sense) : OnlyChanges [.sense] s (s.onSense f) := by
  intro b; cases b <;> simp [sameBlock]

theorem State.onArm_onlyChanges (s : State) (r : Reel) (f : ArmChannel → ArmChannel) : OnlyChanges [.sense] s (s.onArm r f) :=
  s.onSense_onlyChanges _

theorem State.onPresence_onlyChanges (s : State) (i : PresenceId) (f : PresenceChannel → PresenceChannel) :
    OnlyChanges [.sense] s (s.onPresence i f) :=
  s.onSense_onlyChanges _

/-- Only what the update makes of the arm's own record counts. -/
theorem State.onArm_congr {s : State} {r : Reel} {f g : ArmChannel → ArmChannel}
    (h : f (s.sense.arms.get r) = g (s.sense.arms.get r)) : s.onArm r f = s.onArm r g := by
  simp [State.onArm, State.onSense, h]

theorem State.onArm_other (s : State) {r q : Reel} (f : ArmChannel → ArmChannel) (h : q ≠ r) :
    (s.onArm r f).sense.arms.get q = s.sense.arms.get q := by
  simp [State.onArm, PerReel.get_set_other _ _ _ _ h]

theorem State.onArm_sense (s : State) (r : Reel) (f : ArmChannel → ArmChannel) :
    (s.onArm r f).sense = { s.sense with arms := (s.onArm r f).sense.arms } := rfl

@[simp] theorem Sense.setPresence_frame (x : Sense) (i : PresenceId) (c : PresenceChannel) :
    (x.setPresence i c).arms = x.arms ∧ (x.setPresence i c).turn = x.turn ∧ (x.setPresence i c).tensionLost = x.tensionLost := by
  cases i <;> simp [Sense.setPresence]

theorem Sense.presence_setPresence_other (x : Sense) {i j : PresenceId} (c : PresenceChannel) (h : j ≠ i) :
    (x.setPresence i c).presence j = x.presence j := by
  cases i <;> cases j <;> simp_all [Sense.presence, Sense.setPresence]

@[simp] theorem State.onPresence_rest (s : State) (i : PresenceId) (f : PresenceChannel → PresenceChannel) :
    (s.onPresence i f).sense.arms = s.sense.arms ∧ (s.onPresence i f).sense.turn = s.sense.turn ∧
      (s.onPresence i f).sense.tensionLost = s.sense.tensionLost := by
  simp [State.onPresence]

theorem State.onPresence_other (s : State) {i j : PresenceId} (f : PresenceChannel → PresenceChannel) (h : j ≠ i) :
    (s.onPresence i f).sense.presence j = s.sense.presence j := by
  simp [State.onPresence, Sense.presence_setPresence_other _ _ h]

/-- The shared counter is assigned to another channel, or to none. -/
def Sense.setTurn (x : Sense) (turn : Option PresenceId) : Sense := { x with turn := turn }

@[simp] theorem Sense.setTurn_frame (x : Sense) (turn : Option PresenceId) :
    (x.setTurn turn).arms = x.arms ∧ (x.setTurn turn).turn = turn ∧ (x.setTurn turn).tensionLost = x.tensionLost := by
  simp [Sense.setTurn]

/-- The shared counter's channel is no field of a channel record. -/
@[simp] theorem Sense.presence_setTurn (x : Sense) (turn : Option PresenceId) (i : PresenceId) :
    (x.setTurn turn).presence i = x.presence i := by
  cases i <;> rfl

theorem Sense.passTurn_eq (x : Sense) (i : PresenceId) : x.passTurn i = x.setTurn (x.turnFrom i.next) := rfl

/-- A channel record is made of the Sense Scanner's items alone (Table 11-5). -/
theorem channelRecord_congr {s t : State} (h : t.sense = s.sense) (selector : Nat) :
    channelRecord t selector = channelRecord s selector := by
  unfold channelRecord armRecord presenceRecord unnamedChannelRecord
  rw [h]

/-! ## The order of the shared counter (R6) -/

@[simp] theorem PresenceId.next_next_next (i : PresenceId) : i.next.next.next = i := by cases i <;> rfl

theorem PresenceId.ne_ph_of_path {i : PresenceId} {r : Reel} (h : (i = .ps ∧ r = .supply) ∨ (i = .pt ∧ r = .takeup)) :
    i ≠ .ph := by
  rcases h with ⟨rfl, -⟩ | ⟨rfl, -⟩ <;> decide

theorem PresenceId.next_ne (i : PresenceId) : i.next ≠ i := by cases i <;> decide

theorem PresenceId.next_next_ne (i : PresenceId) : i.next.next ≠ i := by cases i <;> decide

/-- R6: the first of three channels in the order that is not in range OFF. -/
theorem Sense.turnFrom_eq (x : Sense) (i : PresenceId) :
    x.turnFrom i =
      if (x.presence i).range ≠ .off then some i else if (x.presence i.next).range ≠ .off then some i.next
      else if (x.presence i.next.next).range ≠ .off then some i.next.next else none := by
  simp [Sense.turnFrom, Sense.measured]

/-! ## What a bad arm, and a channel that becomes ABSENT, hand on -/

/-- A condition taken with no fault latched is latched, with the severity of its kind and the mode of that moment (R149). -/
theorem takeCondition_primary (kind : FaultKind) (reel : Option Reel) {s : State} (h : s.fault.record = none) :
    ∃ f, (takeCondition kind reel s).fault.record = some f ∧ f.primary = { kind := kind, reel := reel } ∧
      f.severity = kind.severity ∧ f.mode = s.planner.mode :=
  ⟨_, takeConditionAt_primary h, rfl, rfl, rfl⟩

/-- R13: in IDLE nothing is loaded, and PS and PT hand nothing on. -/
theorem handAbsent_path_idle {i : PresenceId} {s : State} (hi : i ≠ .ph) (hm : s.planner.mode = .idle) : handAbsent i s = s := by
  cases i with
  | ps => simp [handAbsent, Mode.loaded, hm]
  | pt => simp [handAbsent, Mode.loaded, hm]
  | ph => exact absurd rfl hi

/-- R13: in a loaded mode PS and PT hand on PATH_LOST of their reel. -/
theorem handAbsent_path_loaded {i : PresenceId} {r : Reel} {s : State}
    (hi : (i = .ps ∧ r = .supply) ∨ (i = .pt ∧ r = .takeup)) (hm : s.planner.mode ≠ .idle) (hrec : s.fault.record = none) :
    ∃ f, (handAbsent i s).fault.record = some f ∧ f.primary = { kind := .pathLost, reel := some r } ∧ f.severity = .brake ∧
      f.mode = s.planner.mode := by
  have htaken : handAbsent i s = takeCondition .pathLost (some r) s := by
    rcases hi with ⟨rfl, rfl⟩ | ⟨rfl, rfl⟩ <;> simp [handAbsent, Mode.loaded, hm]
  rw [htaken]
  exact takeCondition_primary .pathLost (some r) hrec

/-- R107: a tape end at rest, in no moving mode, is nothing. -/
theorem handAbsent_ph_still {s : State} (h : s.planner.moving = false) : handAbsent .ph s = s := by
  simp [handAbsent, tapeEnd, h]

/-- A mode change leaves the direction blocks. -/
@[simp] theorem setMode_blocks (m : Mode) (sub : Option SubStage) (cause : ModeCause) (s : State) :
    (setMode m sub cause s).planner.fwdBlocked = s.planner.fwdBlocked ∧
      (setMode m sub cause s).planner.revBlocked = s.planner.revBlocked := by
  unfold setMode
  dsimp only
  split <;> simp

/-- R98: what a stop that begins leaves in the planner. -/
theorem beginStopping_planner (sev : Severity) (cause : StopCause) (s : State) :
    (beginStopping sev cause s).planner.mode = .stopping ∧ (beginStopping sev cause s).planner.stopInForce = some sev ∧
      (beginStopping sev cause s).planner.stopCause = some cause ∧
      (beginStopping sev cause s).planner.fwdBlocked = s.planner.fwdBlocked ∧
      (beginStopping sev cause s).planner.revBlocked = s.planner.revBlocked := by
  simp [beginStopping, openPinch]

/-- R98: in a WIND with no stop in force, which no unit owns, a CONTROLLED or FAST stop demand begins the stop. -/
theorem stopDemand_wind {sev : Severity} {s : State} (cause : StopCause) (hm : s.planner.mode = .wind)
    (hs : s.planner.stopInForce = none) (hb : sev ≠ .brake) : stopDemand sev cause s = beginStopping sev cause s := by
  simp [stopDemand, endUnit, hm, hs, hb]

/-- R107: the tape end of a forward WIND blocks forward and stops the tape. -/
theorem handAbsent_ph_wind {s : State} (hm : s.planner.mode = .wind) (hs : s.planner.stopInForce = none)
    (hv : 0 < s.planner.vRef) :
    (handAbsent .ph s).planner.fwdBlocked = true ∧ (handAbsent .ph s).planner.revBlocked = s.planner.revBlocked ∧
      (handAbsent .ph s).planner.mode = .stopping ∧ (handAbsent .ph s).planner.stopInForce = some .fast ∧
      (handAbsent .ph s).planner.stopCause = some .tapeEnd := by
  have hne : s.planner.vRef ≠ 0 := by omega
  have hd : dirOf s.planner.vRef = some .forward := by simp [dirOf, hv]
  have hmove : s.planner.moving = true := by simp [Planner.moving, hm]
  simp only [handAbsent, tapeEnd, hmove, if_true, if_pos hne, hd]
  rw [stopDemand_wind _ (by simpa using hm) (by simpa using hs) (by decide)]
  simp [beginStopping_planner]

/-- R13, R14, R107: what a channel that stands ABSENT hands on from `u`, which only the Sense Scanner tells from `s`. -/
theorem handAbsent_of_sense {i : PresenceId} {s u : State} (hu : OnlyChanges [.sense] s u) :
    (i = .ph → s.planner.moving = false → OnlyChanges [.sense] s (handAbsent i u)) ∧
      (i = .ph → s.planner.mode = .wind → s.planner.stopInForce = none → 0 < s.planner.vRef →
        (handAbsent i u).planner.fwdBlocked = true ∧ (handAbsent i u).planner.revBlocked = s.planner.revBlocked ∧
          (handAbsent i u).planner.mode = .stopping ∧ (handAbsent i u).planner.stopInForce = some .fast ∧
          (handAbsent i u).planner.stopCause = some .tapeEnd) ∧
      ∀ r, (i = .ps ∧ r = .supply) ∨ (i = .pt ∧ r = .takeup) →
        (s.planner.mode = .idle → OnlyChanges [.sense] s (handAbsent i u)) ∧
        (s.planner.mode ≠ .idle → s.fault.record = none →
          ∃ f, (handAbsent i u).fault.record = some f ∧ f.primary = { kind := .pathLost, reel := some r } ∧
            f.severity = .brake ∧ f.mode = s.planner.mode) := by
  have hplanner : u.planner = s.planner := (hu .planner).resolve_left (by decide)
  have hfault : u.fault = s.fault := (hu .fault).resolve_left (by decide)
  rw [← hplanner, ← hfault]
  refine ⟨?_, ?_, fun r hi => ⟨fun hm => ?_, handAbsent_path_loaded hi⟩⟩
  · rintro rfl hstill
    rwa [handAbsent_ph_still hstill]
  · rintro rfl hm hs hv
    exact handAbsent_ph_wind hm hs hv
  · rwa [handAbsent_path_idle (PresenceId.ne_ph_of_path hi) hm]

end Sys2Proof.Machine

namespace Sys2Proof.Machine

/-! ## A reset that begins (R17, R41, R65, R81, R110, R118, R147, R160, R179, R191) -/

/-- Any reset that begins holds the part, whatever its cause. -/
theorem enterReset_holds (cause : ResetCause) (s : State) : HeldInReset s (enterReset cause s) := by
  refine ⟨?_, by simp, ?_, rfl, rfl, rfl, ?_, rfl, ?_⟩
  · intro b; cases b <;> simp [sameBlock]
  · intro ch; simp [excitation]
  · intro r; simp [Packs.inReset, Servo.disabled, ReelServo.cleared]
  · simp [Planner.inReset, Planner.warm, Planner.cold, Chase.warm, Chase.cold, surveyRuns, Survey.cold, FaultUnit.warm,
      FaultUnit.cold, Lines.atReset]

/-- A reset that RESET_IN begins holds the part as one from the state before the line went low. -/
theorem HeldInReset.of_resetIn {s t : State} (h : HeldInReset (s.onLines fun l => { l with resetIn := true }) t) :
    HeldInReset s t := by
  obtain ⟨hframe, hrest⟩ := h
  refine ⟨fun b => ?_, hrest⟩
  rcases hframe b with hb | hb
  · exact .inl hb
  · cases b
    case lines => exact .inl (by simp)
    all_goals exact .inr hb

/-- R190: RESET_IN is the cause of the reset it begins, or turns cold, unless power-on began it. -/
theorem lineCause_of_ne {held : Option ResetCause} (h : held ≠ some .powerOn) : lineCause held = .resetLine := by
  unfold lineCause
  split
  · exact absurd rfl h
  · rfl

/-- Settles O10: both commands are `enterReset`, RESET_IN after its line has gone low. -/
theorem aResetHoldsTheMachine : Obligations.AResetHoldsTheMachine := by
  intro s c hc
  rcases List.mem_pair.1 hc with rfl | rfl
  · exact ⟨_, rfl, enterReset_holds _ _, fun _ => ⟨rfl, rfl⟩, nofun⟩
  · exact ⟨_, rfl, (enterReset_holds _ _).of_resetIn, nofun, fun _ => ⟨rfl, fun h => by simp [lineCause_of_ne h]⟩⟩

end Sys2Proof.Machine

namespace Sys2Proof.Machine

/-! ## SET_SENSE: checks and the block that answers (R1, R11, R15) -/

theorem Channel.ofCode_reelCode (r : Reel) : Channel.ofCode (reelCode r) = some (.arm r) := by cases r <;> rfl

theorem Channel.ofCode_channelCode (i : PresenceId) : Channel.ofCode i.channelCode = some (.presence i) := by cases i <;> rfl

/-- Table 1-1: a selector names an arm, a presence channel or, beyond 4, none. -/
theorem channelSelector_cases (n : Nat) :
    (∃ r, n = reelCode r) ∨ (∃ i : PresenceId, n = i.channelCode) ∨ (4 < n ∧ Channel.ofCode n = none) := by
  match n with
  | 0 => exact .inl ⟨.supply, rfl⟩
  | 1 => exact .inl ⟨.takeup, rfl⟩
  | 2 => exact .inr (.inl ⟨.ps, rfl⟩)
  | 3 => exact .inr (.inl ⟨.pt, rfl⟩)
  | 4 => exact .inr (.inl ⟨.ph, rfl⟩)
  | n + 5 => exact .inr (.inr ⟨by omega, rfl⟩)

theorem reelCode_le_one (r : Reel) : reelCode r ≤ 1 := by cases r <;> decide

theorem reelCode_of_le {n : Nat} (h : n ≤ 1) : ∃ r, n = reelCode r := by
  match n with
  | 0 => exact ⟨.supply, rfl⟩
  | 1 => exact ⟨.takeup, rfl⟩

theorem PresenceId.channelCode_bounds (i : PresenceId) : 2 ≤ i.channelCode ∧ i.channelCode ≤ 4 := by cases i <;> decide

theorem SenseRange.ofCode_some {n : Nat} (h : n ≤ 3) : ∃ rg, SenseRange.ofCode n = some rg := by
  match n with
  | 0 | 1 | 2 | 3 => exact ⟨_, rfl⟩
  | n + 4 => omega

theorem SenseRange.le_of_ofCode {n : Nat} {rg : SenseRange} (h : SenseRange.ofCode n = some rg) : n ≤ 3 := by
  match n with
  | 0 | 1 | 2 | 3 => decide
  | n + 4 => cases h

/-- A window or a pair of thresholds is refused where a bound is outside 1 to 48 000 or the pair is out of order. -/
theorem countPair_bad_iff (low high : Nat) :
    (!(countValue low && countValue high) || decide (high ≤ low)) = true ↔ low = 0 ∨ 48000 < high ∨ high ≤ low := by
  simp [countValue]
  omega

section
variable (channel apply range cMin cMax tOn tOff suppress : Nat) (s : State)

theorem answerSetSense_report : answerSetSense channel 0 range cMin cMax tOn tOff suppress s =
    accept s false (channelRecord s channel) := rfl

variable {channel apply range cMin cMax tOn tOff suppress s}

/-- With the apply flag set, a channel, a range or a window that is none is refused. -/
theorem answerSetSense_bad (happly : apply ≠ 0)
    (h : 4 < channel ∨ 3 < range ∨ cMin = 0 ∨ 48000 < cMax ∨ cMax ≤ cMin) :
    answerSetSense channel apply range cMin cMax tOn tOff suppress s = refuse s .badValue := by
  unfold answerSetSense
  rw [if_neg (by simpa [flagSet] using happly)]
  split
  next ch rg hch hrg =>
    have hrange := SenseRange.le_of_ofCode hrg
    have hchannel : ¬4 < channel := fun h4 => by
      rcases channelSelector_cases channel with ⟨r, rfl⟩ | ⟨i, rfl⟩ | ⟨-, hnone⟩
      · exact absurd (reelCode_le_one r) (by omega)
      · exact absurd i.channelCode_bounds (by omega)
      · simp [hnone] at hch
    exact if_pos ((countPair_bad_iff _ _).2 (by omega))
  next => rfl

/-- With a legal range and window the arm named takes the request. -/
theorem answerSetSense_arm {r : Reel} {rg : SenseRange} (happly : apply ≠ 0) (hrg : SenseRange.ofCode range = some rg)
    (hlow : 1 ≤ cMin) (horder : cMin < cMax) (hhigh : cMax ≤ 48000) :
    answerSetSense (reelCode r) apply range cMin cMax tOn tOff suppress s = programArm r (reelCode r) rg cMin cMax s := by
  unfold answerSetSense
  rw [if_neg (by simpa [flagSet] using happly), Channel.ofCode_reelCode, hrg]
  exact if_neg fun h => by have := (countPair_bad_iff _ _).1 h; omega

/-- With a legal range and window the presence channel named takes the request. -/
theorem answerSetSense_presence {i : PresenceId} {rg : SenseRange} (happly : apply ≠ 0) (hrg : SenseRange.ofCode range = some rg)
    (hlow : 1 ≤ cMin) (horder : cMin < cMax) (hhigh : cMax ≤ 48000) :
    answerSetSense i.channelCode apply range cMin cMax tOn tOff suppress s =
      programPresence i i.channelCode rg cMin cMax tOn tOff (flagSet suppress) s := by
  unfold answerSetSense
  rw [if_neg (by simpa [flagSet] using happly), Channel.ofCode_channelCode, hrg]
  exact if_neg fun h => by have := (countPair_bad_iff _ _).1 h; omega

end

/-! ## What an arm and a presence channel make of it (R1, R6, R11, R14, R15) -/

section
variable {r : Reel} {i : PresenceId} {selector cMin cMax tOn tOff : Nat} {rg : SenseRange} {suppress : Bool} {s : State}

/-- R15: outside IDLE an arm changes neither range nor window. -/
theorem programArm_locked (hm : s.planner.mode ≠ .idle)
    (hne : ¬(rg = (s.sense.arms.get r).range ∧ cMin = (s.sense.arms.get r).cMin ∧ cMax = (s.sense.arms.get r).cMax)) :
    programArm r selector rg cMin cMax s = refuse s .lockedInMotion :=
  if_pos ⟨hm, hne⟩

theorem programArm_accepted (h : s.planner.mode = .idle ∨
      (rg = (s.sense.arms.get r).range ∧ cMin = (s.sense.arms.get r).cMin ∧ cMax = (s.sense.arms.get r).cMax)) :
    programArm r selector rg cMin cMax s =
      accept (s.onArm r fun x => x.program rg cMin cMax) false
        (channelRecord (s.onArm r fun x => x.program rg cMin cMax) selector) :=
  if_neg (by tauto)

/-- R1, R11, R14 in one record. -/
theorem PresenceChannel.program_eq (q : PresenceChannel) :
    q.program rg cMin cMax tOn tOff suppress =
      { q with
        range := rg, cMin := cMin, cMax := cMax, tOn := tOn, tOff := tOff, suppress := suppress
        outcome := if rg = q.range then q.outcome else if rg = .off then .unused else if q.range = .off then .none else q.outcome
        state := if rg = q.range then q.state else if rg = .off then .unused else .unknown
        candidate := if rg = q.range ∧ tOn = q.tOn ∧ tOff = q.tOff then q.candidate else none
        run := if rg = q.range ∧ tOn = q.tOn ∧ tOff = q.tOff then q.run else 0 } := by
  unfold PresenceChannel.program
  by_cases hrange : rg = q.range
  · by_cases hthr : tOn = q.tOn ∧ tOff = q.tOff <;> simp [hrange, hthr]
  · by_cases hoff : rg = .off
    · rw [hoff] at hrange
      simp [hrange, hoff]
    · by_cases hwas : q.range = .off <;> simp [hrange, hoff, hwas]

/-- Only a channel that keeps its range can stand ABSENT after it is programmed. -/
theorem PresenceChannel.program_absent_iff (q : PresenceChannel) :
    (q.program rg cMin cMax tOn tOff suppress).state = .absent ↔ rg = q.range ∧ q.state = .absent := by
  rw [PresenceChannel.program_eq]
  by_cases hrange : rg = q.range
  · simp [hrange]
  · by_cases hoff : rg = .off
    · rw [hoff] at hrange
      simp [hrange, hoff]
    · simp [hrange, hoff]

/-- The Sense Scanner after a presence channel has taken its fields and the shared counter has followed its range (R6). -/
def presenceProgrammed (i : PresenceId) (rg : SenseRange) (cMin cMax tOn tOff : Nat) (suppress : Bool) (s : State) : State :=
  (s.onPresence i fun x => x.program rg cMin cMax tOn tOff suppress).onSense fun x =>
    x.setTurn (if rg = (s.sense.presence i).range then x.turn else x.turnAfterChange i)

/-- The model follows the range only where it changed. -/
theorem presenceProgrammed_eq :
    (if rg = (s.sense.presence i).range then s.onPresence i fun x => x.program rg cMin cMax tOn tOff suppress
      else (s.onPresence i fun x => x.program rg cMin cMax tOn tOff suppress).onSense fun x =>
        { x with turn := x.turnAfterChange i }) =
      presenceProgrammed i rg cMin cMax tOn tOff suppress s := by
  unfold presenceProgrammed
  split <;> rfl

theorem presenceProgrammed_onlyChanges : OnlyChanges [.sense] s (presenceProgrammed i rg cMin cMax tOn tOff suppress s) :=
  (s.onPresence_onlyChanges i _).trans (State.onSense_onlyChanges _ _)

theorem presenceProgrammed_rest :
    (presenceProgrammed i rg cMin cMax tOn tOff suppress s).sense.arms = s.sense.arms ∧
      (presenceProgrammed i rg cMin cMax tOn tOff suppress s).sense.tensionLost = s.sense.tensionLost := by
  simp [presenceProgrammed]

theorem presenceProgrammed_presence :
    (presenceProgrammed i rg cMin cMax tOn tOff suppress s).sense.presence i =
      (s.sense.presence i).program rg cMin cMax tOn tOff suppress := by
  simp [presenceProgrammed]

theorem presenceProgrammed_other {j : PresenceId} (h : j ≠ i) :
    (presenceProgrammed i rg cMin cMax tOn tOff suppress s).sense.presence j = s.sense.presence j := by
  simp [presenceProgrammed, State.onPresence_other _ _ h]

/-- R6: an idle counter takes up a channel that leaves OFF, and a channel that enters OFF gives it up. -/
theorem presenceProgrammed_turn :
    (presenceProgrammed i rg cMin cMax tOn tOff suppress s).sense.turn =
      (if rg = (s.sense.presence i).range then s.sense.turn
       else if s.sense.turn = none then (if rg = .off then none else some i)
       else if s.sense.turn = some i ∧ rg = .off then
         (if (s.sense.presence i.next).range ≠ .off then some i.next
          else if (s.sense.presence i.next.next).range ≠ .off then some i.next.next else none)
       else s.sense.turn) := by
  have hrange : ((s.sense.presence i).program rg cMin cMax tOn tOff suppress).range = rg := by
    rw [PresenceChannel.program_eq]
  by_cases hkept : rg = (s.sense.presence i).range
  · simp [presenceProgrammed, hkept]
  · cases hturn : s.sense.turn with
    | none => simp [presenceProgrammed, hkept, Sense.turnAfterChange, hturn, Sense.measured, hrange]
    | some j =>
      by_cases hj : j = i
      · subst hj
        simp [presenceProgrammed, hkept, Sense.turnAfterChange, hturn, Sense.turnFrom_eq, hrange,
          State.onPresence_other _ _ j.next_ne, State.onPresence_other _ _ j.next_next_ne]
      · simp [presenceProgrammed, hkept, Sense.turnAfterChange, hturn, hj]

theorem programPresence_badThresholds (h : tOff = 0 ∨ 48000 < tOn ∨ tOn ≤ tOff) :
    programPresence i selector rg cMin cMax tOn tOff suppress s = refuse s .badValue := by
  unfold programPresence
  rw [Bool.and_comm]
  exact if_pos ((countPair_bad_iff _ _).2 h)

/-- With the apply flag set, a presence channel's thresholds that are none are refused, whatever else the request holds. -/
theorem answerSetSense_badThresholds {channel apply range suppress : Nat} (happly : apply ≠ 0) (hch : 2 ≤ channel)
    (h : tOff = 0 ∨ 48000 < tOn ∨ tOn ≤ tOff) :
    answerSetSense channel apply range cMin cMax tOn tOff suppress s = refuse s .badValue := by
  by_cases hbad : 4 < channel ∨ 3 < range ∨ cMin = 0 ∨ 48000 < cMax ∨ cMax ≤ cMin
  · exact answerSetSense_bad happly hbad
  · obtain ⟨rg, hrg⟩ := SenseRange.ofCode_some (n := range) (by omega)
    rcases channelSelector_cases channel with ⟨r, rfl⟩ | ⟨i, rfl⟩ | ⟨hbeyond, -⟩
    · exact absurd (reelCode_le_one r) (by omega)
    · rw [answerSetSense_presence happly hrg (by omega) (by omega) (by omega)]
      exact programPresence_badThresholds h
    · exact absurd (.inl hbeyond) hbad

/-- With legal thresholds a presence channel is refused a change of range outside IDLE (R15). -/
theorem programPresence_locked (hlow : 1 ≤ tOff) (horder : tOff < tOn) (hhigh : tOn ≤ 48000) (hm : s.planner.mode ≠ .idle)
    (hne : rg ≠ (s.sense.presence i).range) :
    programPresence i selector rg cMin cMax tOn tOff suppress s = refuse s .lockedInMotion := by
  unfold programPresence
  rw [Bool.and_comm]
  exact (if_neg fun h => by have := (countPair_bad_iff _ _).1 h; omega).trans (if_pos ⟨hm, hne⟩)

/-- The state that an accepted SET_SENSE of a presence channel leaves: a channel that stands ABSENT with its suppress flag
cleared hands that on (R14). -/
def presenceSet (i : PresenceId) (rg : SenseRange) (cMin cMax tOn tOff : Nat) (suppress : Bool) (s : State) : State :=
  if (s.sense.presence i).suppress = true ∧ suppress = false ∧ rg = (s.sense.presence i).range ∧
      (s.sense.presence i).state = .absent then
    handAbsent i (presenceProgrammed i rg cMin cMax tOn tOff suppress s)
  else presenceProgrammed i rg cMin cMax tOn tOff suppress s

theorem presenceSet_stays (h : ¬((s.sense.presence i).suppress = true ∧ suppress = false ∧ rg = (s.sense.presence i).range ∧
      (s.sense.presence i).state = .absent)) :
    presenceSet i rg cMin cMax tOn tOff suppress s = presenceProgrammed i rg cMin cMax tOn tOff suppress s :=
  if_neg h

theorem presenceSet_hands (hsup : (s.sense.presence i).suppress = true) (hclear : suppress = false)
    (hsame : rg = (s.sense.presence i).range) (habsent : (s.sense.presence i).state = .absent) :
    presenceSet i rg cMin cMax tOn tOff suppress s = handAbsent i (presenceProgrammed i rg cMin cMax tOn tOff suppress s) :=
  if_pos ⟨hsup, hclear, hsame, habsent⟩

@[simp] theorem presenceSet_sense :
    (presenceSet i rg cMin cMax tOn tOff suppress s).sense = (presenceProgrammed i rg cMin cMax tOn tOff suppress s).sense := by
  unfold presenceSet
  split <;> simp

theorem programPresence_accepted (hlow : 1 ≤ tOff) (horder : tOff < tOn) (hhigh : tOn ≤ 48000)
    (h : s.planner.mode = .idle ∨ rg = (s.sense.presence i).range) :
    programPresence i selector rg cMin cMax tOn tOff suppress s =
      accept (presenceSet i rg cMin cMax tOn tOff suppress s) false
        (channelRecord (presenceSet i rg cMin cMax tOn tOff suppress s) selector) := by
  have hlegal : ¬(!(countValue tOff && countValue tOn) || decide (tOn ≤ tOff)) = true := fun hbad => by
    have := (countPair_bad_iff _ _).1 hbad; omega
  have hhands : ((s.sense.presence i).suppress && !suppress &&
        ((presenceProgrammed i rg cMin cMax tOn tOff suppress s).sense.presence i).state == .absent) = true ↔
      (s.sense.presence i).suppress = true ∧ suppress = false ∧ rg = (s.sense.presence i).range ∧
        (s.sense.presence i).state = .absent := by
    simp [presenceProgrammed_presence, PresenceChannel.program_absent_iff, and_assoc]
  unfold programPresence
  rw [Bool.and_comm, if_neg hlegal, if_neg (by tauto)]
  simp only [presenceProgrammed_eq, hhands, presenceSet]

end

/-! ## SET_ARM_CAL (R7) -/

section
variable {channel cCentre cFull : Nat} {s : State}

theorem answerSetArmCal_badPair {r : Reel} (h : cCentre = 0 ∨ cFull = 0 ∨ 48000 < cCentre ∨ 48000 < cFull ∨ cFull = cCentre) :
    answerSetArmCal (reelCode r) cCentre cFull s =
      { state := s, code := .badValue, body := channelRecord s (reelCode r) } := by
  unfold answerSetArmCal
  rw [Channel.ofCode_reelCode]
  refine if_pos ?_
  simp [countValue]
  omega

/-- Two counts of 1 to 48 000 that differ are refused an arm in motion alone. -/
theorem answerSetArmCal_legal {r : Reel} (hc : 1 ≤ cCentre) (hc' : cCentre ≤ 48000) (hf : 1 ≤ cFull) (hf' : cFull ≤ 48000)
    (hne : cFull ≠ cCentre) :
    answerSetArmCal (reelCode r) cCentre cFull s =
      if s.planner.mode ≠ .idle then { state := s, code := .lockedInMotion, body := channelRecord s (reelCode r) }
      else
        accept (s.onArm r fun a => { a with cal := some (cCentre, cFull) }) false
          (channelRecord (s.onArm r fun a => { a with cal := some (cCentre, cFull) }) (reelCode r)) := by
  unfold answerSetArmCal
  rw [Channel.ofCode_reelCode]
  refine if_neg ?_
  simp [countValue]
  omega

/-- No channel beyond 1 is an arm. -/
theorem answerSetArmCal_noArm (h : 1 < channel) :
    answerSetArmCal channel cCentre cFull s = { state := s, code := .badValue, body := channelRecord s channel } := by
  unfold answerSetArmCal
  rcases channelSelector_cases channel with ⟨r, rfl⟩ | ⟨i, rfl⟩ | ⟨-, hnone⟩
  · exact absurd (reelCode_le_one r) (by omega)
  · rw [Channel.ofCode_channelCode]
  · rw [hnone]

end

/-! ## SET_SENSE and SET_ARM_CAL as requests -/

/-- A SET_SENSE that meets a ready part is answered with what the Sense Scanner answers. -/
theorem setSense_answered {tag : Byte} {channel apply range cMin cMax tOn tOff suppress : Nat} {s s1 : State} {code : ResultCode}
    {body : List Byte} (hs : Ready s)
    (h : answerSetSense channel apply range cMin cMax tOn tOff suppress (restartLinkTimer s) =
      { state := s1, code := code, body := body }) :
    Answered (.setSense tag channel apply range cMin cMax tOn tOff suppress) s 0x90 tag code body s1 :=
  answered_of_ready hs rfl rfl rfl rfl h

theorem setArmCal_answered {tag : Byte} {channel cCentre cFull : Nat} {s s1 : State} {code : ResultCode} {body : List Byte}
    (hs : Ready s)
    (h : answerSetArmCal channel cCentre cFull (restartLinkTimer s) = { state := s1, code := code, body := body }) :
    Answered (.setArmCal tag channel cCentre cFull) s 0x91 tag code body s1 :=
  answered_of_ready hs rfl rfl rfl rfl h

/-- Settles O18: the checks, then what an arm and a presence channel make of an accepted request, then SET_ARM_CAL; every answer is the
block's from the state `v` with the link timer restarted, whose Sense Scanner, planner and fault record are those of `s`. -/
theorem senseChannelsAreProgrammed : Obligations.SenseChannelsAreProgrammed := by
  refine ⟨?checks, ?programs, ?calibrates⟩
  case checks =>
    intro tag channel apply range cMin cMax tOn tOff suppress s hs
    obtain ⟨hsense, -, -, -, -, hplanner, -⟩ := restartLinkTimer_frame s
    refine ⟨?report, fun ha hbad => setSense_answered hs (answerSetSense_bad ha hbad), ?thresholds, ?locked⟩
    case report =>
      rintro rfl
      exact setSense_answered hs (by rw [answerSetSense_report, channelRecord_congr hsense]; rfl)
    case thresholds =>
      exact fun ha hch hbad => setSense_answered hs (answerSetSense_badThresholds ha hch hbad)
    case locked =>
      intro ha hrange hlow horder hhigh hm
      obtain ⟨rg, hrg⟩ := SenseRange.ofCode_some hrange
      rw [← hplanner] at hm
      rw [← hsense, hrg]
      refine ⟨fun r hr hne => ?_, fun i hi hlow' horder' hhigh' hne => ?_⟩
      · subst hr
        refine setSense_answered hs ((answerSetSense_arm ha hrg hlow horder hhigh).trans (programArm_locked hm ?_))
        simpa using hne
      · subst hi
        refine setSense_answered hs ((answerSetSense_presence ha hrg hlow horder hhigh).trans
          (programPresence_locked hlow' horder' hhigh' hm ?_))
        simpa using hne
  case programs =>
    intro tag apply range cMin cMax tOn tOff suppress rg s hs ha hrg hlow horder hhigh
    have answered {channel : Nat} {t : State}
        (h : answerSetSense channel apply range cMin cMax tOn tOff suppress (restartLinkTimer s) =
          accept t false (channelRecord t channel)) :=
      setSense_answered (tag := tag) hs h
    obtain ⟨hsense, -, -, -, -, hplanner, -⟩ := restartLinkTimer_frame s
    obtain ⟨hrecord, -⟩ := restartLinkTimer_record s
    rw [← hsense, ← hplanner, ← hrecord]
    generalize restartLinkTimer s = v at *
    refine ⟨?arm, ?presence⟩
    case arm =>
      rintro r _ rfl hok
      exact ⟨_, answered ((answerSetSense_arm ha hrg hlow horder hhigh).trans (programArm_accepted hok)),
        v.onArm_onlyChanges r _, v.onArm_sense r _, fun r' hr' => v.onArm_other _ hr', v.onArm_self r _⟩
    case presence =>
      rintro i _ _ rfl hlow' horder' hhigh' hok rfl
      refine ⟨presenceSet i rg cMin cMax tOn tOff (flagSet suppress) v,
        answered ((answerSetSense_presence ha hrg hlow horder hhigh).trans (programPresence_accepted hlow' horder' hhigh' hok)), ?_⟩
      rw [presenceSet_sense]
      refine ⟨presenceProgrammed_rest.1, presenceProgrammed_rest.2, presenceProgrammed_turn, fun j => presenceProgrammed_other,
        presenceProgrammed_presence.trans (PresenceChannel.program_eq _), fun hquiet => ?_, fun hsup hclear hsame habsent => ?_⟩
      · rw [presenceSet_stays (by simpa [flagSet] using hquiet)]
        exact presenceProgrammed_onlyChanges
      · rw [presenceSet_hands hsup (by simp [flagSet, hclear]) hsame habsent]
        exact handAbsent_of_sense presenceProgrammed_onlyChanges
  case calibrates =>
    intro tag channel cCentre cFull s hs
    obtain ⟨hsense, -, -, -, -, hplanner, -⟩ := restartLinkTimer_frame s
    rw [← hplanner, ← channelRecord_congr hsense]
    refine ⟨fun hbad => setArmCal_answered hs ?_, fun hc hc' hf hf' hne => ⟨fun hch hm => setArmCal_answered hs ?_, ?_⟩⟩
    · rcases Nat.lt_or_ge 1 channel with hch | hch
      · exact answerSetArmCal_noArm hch
      · obtain ⟨r, rfl⟩ := reelCode_of_le hch
        exact answerSetArmCal_badPair (by omega)
    · obtain ⟨r, rfl⟩ := reelCode_of_le hch
      rw [answerSetArmCal_legal hc hc' hf hf' hne, if_pos hm]
    · rintro hm r rfl
      have hbody : ((restartLinkTimer s).onArm r fun a => { a with cal := some (cCentre, cFull) }).sense =
          (s.onArm r fun a => { a with cal := some (cCentre, cFull) }).sense := by simp [State.onArm]
      refine setArmCal_answered hs ?_
      rw [answerSetArmCal_legal hc hc' hf hf' hne, if_neg (not_not.2 hm), channelRecord_congr hbody]
      rfl

end Sys2Proof.Machine

namespace Sys2Proof.Machine

/-! ## Measurements of an arm channel (R2, R3, R9, R10) -/

/-- R9: the position is the rounded quotient, clamped to ±1 000. -/
theorem armPosition_eq (m f c : Nat) :
    armPosition (m, f) c = max (-1000) (min 1000 (divTrunc (((c : Int) - m) * 1000) ((f : Int) - m))) := by
  unfold armPosition clampInt
  dsimp only
  generalize divTrunc _ _ = x
  split
  · omega
  · split <;> omega

theorem ArmChannel.complete_outside {a : ArmChannel} {c : Nat} (h : c < a.cMin ∨ a.cMax < c) :
    a.complete c = { a with last := c, outcome := .outOfRange } :=
  if_neg (by omega)

theorem ArmChannel.complete_inside_uncalibrated {a : ArmChannel} {c : Nat} (hmin : a.cMin ≤ c) (hmax : c ≤ a.cMax)
    (hcal : a.cal = none) : a.complete c = { a with last := c, outcome := .ok } := by
  simp [ArmChannel.complete, hmin, hmax, hcal]

theorem ArmChannel.complete_inside_calibrated {a : ArmChannel} {c m f : Nat} (hmin : a.cMin ≤ c) (hmax : c ≤ a.cMax)
    (hcal : a.cal = some (m, f)) :
    a.complete c =
      { a with
        last := c, outcome := .ok, p := max (-1000) (min 1000 (divTrunc (((c : Int) - m) * 1000) ((f : Int) - m))) } := by
  simp [ArmChannel.complete, hmin, hmax, hcal, armPosition_eq]

/-- An arm in range OFF is not measured: its events change nothing. -/
theorem arm_events_off {s : State} {r : Reel} (h : (s.sense.arms.get r).range = .off) (c : Nat) :
    armMeasured r c s = s ∧ armStalled r s = s :=
  ⟨if_pos h, if_pos h⟩

/-- A measurement whose count makes `x` of the arm's record. -/
theorem armMeasured_on {s : State} {r : Reel} {c : Nat} {x : ArmChannel} (h : (s.sense.arms.get r).range ≠ .off)
    (hx : (s.sense.arms.get r).complete c = x) : armMeasured r c s = armEnded r (s.onArm r fun _ => x) := by
  rw [armMeasured, if_neg h, State.onArm_congr (g := fun _ => x) hx]

theorem armStalled_on {s : State} {r : Reel} (h : (s.sense.arms.get r).range ≠ .off) :
    armStalled r s = armEnded r (s.onArm r fun a => { a with outcome := .stalled }) :=
  if_neg h

/-- R10: a good status, or any status with the drives DISABLED, hands nothing on. -/
theorem armEnded_quiet {s : State} {r : Reel} {f : ArmChannel → ArmChannel}
    (h : armFailed (f (s.sense.arms.get r)) = false ∨ s.servo.enabled = false) : armEnded r (s.onArm r f) = s.onArm r f := by
  rcases h with h | h <;> simp [armEnded, armConditionIf, h]

/-- R10: a status that becomes bad while the drives are ENABLED is the condition ARM_SENSOR of its reel. -/
theorem armEnded_latches {s : State} {r : Reel} {f : ArmChannel → ArmChannel} (hbad : armFailed (f (s.sense.arms.get r)) = true)
    (hen : s.servo.enabled = true) (hrec : s.fault.record = none) :
    ∃ k, (armEnded r (s.onArm r f)).fault.record = some k ∧ k.primary = { kind := .armSensor, reel := some r } ∧
      k.severity = .brake ∧ k.mode = s.planner.mode := by
  have hcond : armEnded r (s.onArm r f) = takeCondition .armSensor (some r) (s.onArm r f) := by
    simp [armEnded, armConditionIf, hbad, hen]
  rw [hcond]
  exact takeCondition_primary .armSensor (some r) hrec

/-! ## Measurements on the shared counter (R2, R3, R6, R11, R12) -/

theorem PresenceChannel.complete_outside {q : PresenceChannel} {c : Nat} (h : c < q.cMin ∨ q.cMax < c) :
    q.complete c = { q with last := c, outcome := .outOfRange } :=
  if_neg (by omega)

theorem PresenceChannel.complete_inside {q : PresenceChannel} {c : Nat} (hmin : q.cMin ≤ c) (hmax : c ≤ q.cMax) :
    q.complete c = { q with last := c, outcome := .ok }.debounce (q.reading c) :=
  if_pos ⟨hmin, hmax⟩

theorem PresenceChannel.reading_band {q : PresenceChannel} {c : Nat} (hoff : q.tOff < c) (hon : c < q.tOn) :
    q.reading c = none := by
  simp [PresenceChannel.reading, Nat.not_le.2 hoff, Nat.not_le.2 hon]

/-- R11: which counts read as PRESENT and ABSENT. -/
theorem PresenceChannel.reading_some {q : PresenceChannel} {c : Nat} {x : Presence}
    (h : (x = .present ∧ q.tOn ≤ c) ∨ (x = .absent ∧ c < q.tOn ∧ c ≤ q.tOff)) : q.reading c = some x := by
  rcases h with ⟨rfl, hon⟩ | ⟨rfl, hon, hoff⟩
  · simp [PresenceChannel.reading, hon]
  · simp [PresenceChannel.reading, hon, hoff]

/-- Table 1-4 in one record: the fourth like reading in a run makes the state. -/
theorem PresenceChannel.debounce_some (q : PresenceChannel) (x : Presence) :
    q.debounce (some x) =
      { q with
        state := if q.candidate = some x ∧ 3 ≤ q.run then x else q.state
        candidate := if q.state = x ∨ (q.candidate = some x ∧ 3 ≤ q.run) then none else some x
        run := if q.state = x ∨ (q.candidate = some x ∧ 3 ≤ q.run) then 0
               else if q.candidate = some x then q.run + 1 else 1 } := by
  by_cases hs : q.state = x
  · simp [PresenceChannel.debounce, hs]
  · by_cases hc : q.candidate = some x
    · by_cases hr : 3 ≤ q.run <;> simp [PresenceChannel.debounce, hs, hc, hr]
    · simp [PresenceChannel.debounce, hs, hc]

/-- A measurement changes neither the range nor the suppress flag of its channel. -/
theorem PresenceChannel.complete_settings (q : PresenceChannel) (c : Nat) :
    (q.complete c).range = q.range ∧ (q.complete c).suppress = q.suppress := by
  by_cases h : q.cMin ≤ c ∧ c ≤ q.cMax
  · rw [PresenceChannel.complete_inside h.1 h.2]
    cases q.reading c with
    | none => exact ⟨rfl, rfl⟩
    | some x => rw [PresenceChannel.debounce_some]; exact ⟨rfl, rfl⟩
  · rw [PresenceChannel.complete_outside (by omega)]; exact ⟨rfl, rfl⟩

/-- What the end of a measurement on the shared counter does to the Sense Scanner: the channel's record, and R6. -/
def endOnCounter (i : PresenceId) (f : PresenceChannel → PresenceChannel) (s : State) : State :=
  (s.onPresence i f).onSense fun x => x.passTurn i

theorem presenceMeasured_eq {s : State} {i : PresenceId} (h : s.sense.turn = some i) (c : Nat) :
    presenceMeasured c s =
      presenceChanged i (s.sense.presence i).state (endOnCounter i (fun q => q.complete c) s) := by
  simp [presenceMeasured, h, endOnCounter]

theorem presenceStalled_eq {s : State} {i : PresenceId} (h : s.sense.turn = some i) :
    presenceStalled s = endOnCounter i (fun q => { q with outcome := .stalled }) s := by
  simp [presenceStalled, h, endOnCounter]

/-- An idle shared counter has no measurement to end. -/
theorem presence_events_idle {s : State} (h : s.sense.turn = none) (c : Nat) :
    presenceMeasured c s = s ∧ presenceStalled s = s := by
  simp [presenceMeasured, presenceStalled, h]

theorem endOnCounter_onlyChanges (i : PresenceId) (f : PresenceChannel → PresenceChannel) (s : State) :
    OnlyChanges [.sense] s (endOnCounter i f s) :=
  (s.onPresence_onlyChanges i f).trans (State.onSense_onlyChanges _ _)

theorem endOnCounter_presence (i : PresenceId) (f : PresenceChannel → PresenceChannel) (s : State) :
    (endOnCounter i f s).sense.presence i = f (s.sense.presence i) := by
  simp [endOnCounter, Sense.passTurn_eq]

theorem endOnCounter_other {i j : PresenceId} (f : PresenceChannel → PresenceChannel) (s : State) (h : j ≠ i) :
    (endOnCounter i f s).sense.presence j = s.sense.presence j := by
  simp [endOnCounter, Sense.passTurn_eq, State.onPresence_other _ _ h]

theorem endOnCounter_rest (i : PresenceId) (f : PresenceChannel → PresenceChannel) (s : State) :
    (endOnCounter i f s).sense.arms = s.sense.arms ∧ (endOnCounter i f s).sense.tensionLost = s.sense.tensionLost := by
  simp [endOnCounter, Sense.passTurn_eq]

/-- R6: the counter passes to the next channel that is not in OFF, the channel just measured the last of them. -/
theorem endOnCounter_turn {i : PresenceId} {f : PresenceChannel → PresenceChannel} {s : State}
    (h : (f (s.sense.presence i)).range = (s.sense.presence i).range) :
    (endOnCounter i f s).sense.turn =
      if (s.sense.presence i.next).range ≠ .off then some i.next
      else if (s.sense.presence i.next.next).range ≠ .off then some i.next.next
      else if (s.sense.presence i).range ≠ .off then some i else none := by
  simp [endOnCounter, Sense.passTurn_eq, Sense.turnFrom_eq, State.onPresence_other _ _ i.next_ne,
    State.onPresence_other _ _ i.next_next_ne, h]

/-! ## What a change of presence hands on (R13, R14, R107) -/

/-- No change, ABSENT on a suppressed channel, and PS or PT PRESENT hand nothing on. -/
theorem presenceChanged_quiet {i : PresenceId} {old : Presence} {s : State}
    (h : (s.sense.presence i).state = old ∨ ((s.sense.presence i).state = .absent ∧ (s.sense.presence i).suppress = true) ∨
      ((s.sense.presence i).state = .present ∧ i ≠ .ph)) : presenceChanged i old s = s := by
  rcases h with h | ⟨h, hs⟩ | ⟨h, hi⟩
  · simp [presenceChanged, h]
  · simp [presenceChanged, h, hs]
  · simp [presenceChanged, h, hi]

theorem presenceChanged_ph_present {old : Presence} {s : State} (hne : (s.sense.presence .ph).state ≠ old)
    (h : (s.sense.presence .ph).state = .present) : presenceChanged .ph old s = clearBlocks s := by
  rw [h] at hne
  simp [presenceChanged, h, hne]

theorem presenceChanged_absent {i : PresenceId} {old : Presence} {s : State} (hne : (s.sense.presence i).state ≠ old)
    (h : (s.sense.presence i).state = .absent) (hs : (s.sense.presence i).suppress = false) :
    presenceChanged i old s = handAbsent i s := by
  rw [h] at hne
  simp [presenceChanged, h, hne, hs]

theorem clearBlocks_onlyChanges (s : State) : OnlyChanges [.planner] s (clearBlocks s) := by
  intro b; cases b <;> simp [sameBlock]

/-! ## The three measurement events while the part runs -/

theorem exec_armMeasurementComplete {s : State} (h : s.held = none) (r : Reel) (c : Nat) :
    exec (.armMeasurementComplete r c) s = .next (armMeasured r c s) :=
  whileRunning_of_running h

theorem exec_armStalled {s : State} (h : s.held = none) (r : Reel) :
    exec (.measurementStalled (.arm r)) s = .next (armStalled r s) :=
  whileRunning_of_running h

theorem exec_presenceMeasurementComplete {s : State} (h : s.held = none) (c : Nat) :
    exec (.presenceMeasurementComplete c) s = .next (presenceMeasured c s) :=
  whileRunning_of_running h

theorem exec_presenceStalled {s : State} (h : s.held = none) :
    exec (.measurementStalled .presence) s = .next (presenceStalled s) :=
  whileRunning_of_running h

/-- Settles O40: an arm's events by its range, count and the drives; an idle counter; and on a running counter the debounced record
`q'` of Table 1-4, with what its change hands on from the state that the end of the measurement leaves. -/
theorem measurementsAreTaken : Obligations.MeasurementsAreTaken := by
  intro s hs
  refine ⟨?arm, ?idle, ?counter⟩
  case arm =>
    rintro r c _ rfl
    rw [exec_armMeasurementComplete hs, exec_armStalled hs]
    refine ⟨fun hoff => ?off, fun hon hmin hmax => ⟨fun hcal => ?uncalibrated, fun m f hcal => ?calibrated⟩,
      fun hon hdis => ⟨fun hout => ?outsideDisabled, ?stalledDisabled⟩, fun hon hen hrec hout => ?outside,
      fun hon hen hrec => ?stalled⟩
    case off =>
      obtain ⟨hm, hst⟩ := arm_events_off hoff c
      exact ⟨congrArg _ hm, congrArg _ hst⟩
    case uncalibrated =>
      rw [armMeasured_on hon (ArmChannel.complete_inside_uncalibrated hmin hmax hcal), armEnded_quiet (.inl rfl)]
      rfl
    case calibrated =>
      rw [armMeasured_on hon (ArmChannel.complete_inside_calibrated hmin hmax hcal), armEnded_quiet (.inl rfl)]
      rfl
    case outsideDisabled =>
      rw [armMeasured_on hon (ArmChannel.complete_outside hout), armEnded_quiet (.inr hdis)]
      rfl
    case stalledDisabled => rw [armStalled_on hon, armEnded_quiet (.inr hdis)]
    case outside =>
      rw [armMeasured_on hon (ArmChannel.complete_outside hout)]
      obtain ⟨k, hk⟩ := armEnded_latches (s := s) (r := r)
        (f := fun _ => { s.sense.arms.get r with last := c, outcome := .outOfRange }) rfl hen hrec
      exact ⟨_, k, rfl, (armEnded_frame r _).1, hk⟩
    case stalled =>
      rw [armStalled_on hon]
      obtain ⟨k, hk⟩ := armEnded_latches (s := s) (r := r) (f := fun x => { x with outcome := .stalled }) rfl hen hrec
      exact ⟨_, k, rfl, (armEnded_frame r _).1, hk⟩
  case idle =>
    intro hidle c
    obtain ⟨hm, hst⟩ := presence_events_idle hidle c
    rw [exec_presenceMeasurementComplete hs, exec_presenceStalled hs]
    exact ⟨congrArg _ hm, congrArg _ hst⟩
  case counter =>
    rintro i _ _ hturn rfl rfl
    rw [exec_presenceStalled hs, presenceStalled_eq hturn]
    refine ⟨⟨_, rfl, endOnCounter_onlyChanges _ _ _, endOnCounter_turn rfl, endOnCounter_presence _ _ _,
      fun j => endOnCounter_other _ s, (endOnCounter_rest _ _ _).1⟩, fun c x q' hq' => ?_⟩
    have hcomplete : (s.sense.presence i).complete c = q' := by
      rcases hq' with ⟨hout, rfl⟩ | ⟨hmin, hmax, hoff, hon, rfl⟩ | ⟨hmin, hmax, hx, rfl⟩
      · exact PresenceChannel.complete_outside hout
      · rw [PresenceChannel.complete_inside hmin hmax, PresenceChannel.reading_band hoff hon]; rfl
      · rw [PresenceChannel.complete_inside hmin hmax, PresenceChannel.reading_some hx, PresenceChannel.debounce_some]
    obtain ⟨hrange, hsuppress⟩ := PresenceChannel.complete_settings (s.sense.presence i) c
    rw [exec_presenceMeasurementComplete hs, presenceMeasured_eq hturn]
    have hu := endOnCounter_onlyChanges i (fun q => q.complete c) s
    have hown := endOnCounter_presence i (fun q => q.complete c) s
    have hother := fun j => endOnCounter_other (i := i) (j := j) (fun q => q.complete c) s
    have hpass := endOnCounter_turn (f := fun q => q.complete c) hrange
    obtain ⟨harms, hlost⟩ := endOnCounter_rest i (fun q => q.complete c) s
    generalize endOnCounter i (fun q => q.complete c) s = u at *
    rw [hcomplete] at hown hsuppress
    subst hown
    have hsense := (presenceChanged_frame i (s.sense.presence i).state u).1
    refine ⟨_, rfl, ?_⟩
    rw [hsense]
    refine ⟨hpass, rfl, hother, harms, hlost, fun hquiet => ?quiet, fun hne hp hi => ?present, fun hne ha hsup => ?absent⟩
    case quiet =>
      rw [← hsuppress] at hquiet
      rw [presenceChanged_quiet hquiet]
      exact hu
    case present =>
      subst hi
      rw [presenceChanged_ph_present hne hp]
      refine ⟨(hu.mono (by simp)).trans ((clearBlocks_onlyChanges u).mono (by simp)), ?_⟩
      rw [← (hu .planner).resolve_left (by decide)]
      rfl
    case absent =>
      rw [presenceChanged_absent hne ha (hsuppress.trans hsup)]
      obtain ⟨-, hwind, hpath⟩ := handAbsent_of_sense (i := i) hu
      refine ⟨hwind, fun r hr hrec => ⟨(hpath r hr).1, fun hm => ?_⟩⟩
      obtain ⟨f, hf, hprimary, hseverity, -⟩ := (hpath r hr).2 hm hrec
      exact ⟨f, hf, hprimary, hseverity⟩

end Sys2Proof.Machine

namespace Sys2Proof.Machine

/-! # Proofs of family 02, position, tachometers and reel packs

First what the shared operations of this chapter do and leave, then the speed sample (O43), SET_REEL and SET_TAPE (O19),
PRESET_POSITION and POSITION_FIX (O28), reel edges (O42) and roller edges (O41). -/

/-! ## Updates of the Tach Unit, the packs, the servo and the planner -/

theorem State.onTach_onlyChanges (s : State) (f : Tach → Tach) : OnlyChanges [.tach] s (s.onTach f) := by
  intro b; cases b <;> simp [sameBlock]

theorem State.onPacks_onlyChanges (s : State) (f : Packs → Packs) : OnlyChanges [.packs] s (s.onPacks f) := by
  intro b; cases b <;> simp [sameBlock]

theorem State.onCues_onlyChanges (s : State) (f : Cues → Cues) : OnlyChanges [.cues] s (s.onCues f) := by
  intro b; cases b <;> simp [sameBlock]

theorem recomputeLimits_onlyChanges (s : State) : OnlyChanges [.planner] s (recomputeLimits s) := by
  intro b; cases b <;> simp [sameBlock]

theorem postNotice_onlyChanges (n : Notice) (s : State) : OnlyChanges [.link] s (postNotice n s) := by
  intro b; cases b <;> simp [sameBlock]

theorem monitorEvent_onlyChanges (ev : MonEvent) (source : EventSource) (s : State) :
    OnlyChanges [.monitor, .link] s (monitorEvent ev source s) := by
  intro b; cases b <;> simp [sameBlock]

/-- Two updates of like frame, one after the other. -/
theorem OnlyChanges.append {l m : List Block} {s t u : State} (h : OnlyChanges l s t) (k : OnlyChanges m t u) :
    OnlyChanges (l ++ m) s u :=
  (h.mono fun _ hb => List.mem_append_left m hb).trans (k.mono fun _ hb => List.mem_append_right l hb)

/-! ## Clamps and the torque-available limits -/

theorem clampNat_eq {a b : Nat} (h : a ≤ b) (x : Nat) : clampNat a b x = max a (min b x) := by
  unfold clampNat
  split
  · omega
  · split <;> omega

theorem clampInt_eq {a b : Int} (h : a ≤ b) (x : Int) : clampInt a b x = max a (min b x) := by
  unfold clampInt
  split
  · omega
  · split <;> omega

/-- R103 reads the packs, the profiles and the drive state alone. -/
theorem torqueLimits_congr {s t : State} (hp : t.packs = s.packs) (hv : t.servo = s.servo) : torqueLimits t = torqueLimits s := by
  simp [torqueLimits, torqueLimit, tauLimEff, hp, hv]

theorem recomputeLimits_planner (s : State) :
    (recomputeLimits s).planner = { s.planner with torque := torqueLimits (recomputeLimits s) } := by
  rw [torqueLimits_congr (s := s) (t := recomputeLimits s) (by simp) (by simp)]
  rfl

end Sys2Proof.Machine

namespace Sys2Proof.Machine

/-! ## Sums over the histories of the speed sample (R23, R25, R26) -/

theorem netCount_eq (h : List (Int × Nat)) : netCount h = ((h.take 32).map (·.1)).sum := by
  rw [netCount, List.sum, List.foldr_map]

theorem rollerEdgesOver_eq (slots : Nat) (x : Tach) : rollerEdgesOver slots x = ((x.rollerHist.take slots).map (·.2)).sum := by
  rw [rollerEdgesOver, List.sum, List.foldr_map]

theorem rollerSilent_iff (s : State) :
    rollerSilent s = true ↔
      s.servo.enabled = true ∧ s.planner.vRef ≠ 0 ∧ (∀ r, 16 ≤ (s.tach.reels.get r).edgeHist.sum) ∧
        ((s.tach.rollerHist.take 400).map (·.2)).sum = 0 := by
  have hreels : (∀ r, 16 ≤ (s.tach.reels.get r).edgeHist.sum) ↔
      16 ≤ s.tach.reels.supply.edgeSum ∧ 16 ≤ s.tach.reels.takeup.edgeSum :=
    ⟨fun h => ⟨h .supply, h .takeup⟩, fun h r => by cases r; exacts [h.1, h.2]⟩
  rw [hreels, ← rollerEdgesOver_eq]
  simp [rollerSilent, and_assoc]

theorem tachSilent_iff (r : Reel) (s : State) :
    tachSilent r s = true ↔
      (s.tach.reels.get r).driveRun = 2000 ∧ (s.tach.reels.get r).quietRun = 2000 ∧
        800 ≤ ((s.tach.rollerHist.take 2000).map (·.2)).sum := by
  rw [← rollerEdgesOver_eq]
  simp [tachSilent, and_assoc]

/-! ## Conditions that a speed sample gives (R25, R26, R149, R150) -/

theorem Severity.eq_brake_of_code_le {x : Severity} (h : Severity.brake.code ≤ x.code) : x = .brake := by
  cases x <;> revert h <;> decide

/-- A condition that is not given, or meets a latched fault, keeps the primary and never lowers the severity. -/
theorem conditionIf_keeps (given : Bool) (kind : FaultKind) (reel : Option Reel) {s : State} {r : FaultRecord}
    (h : s.fault.record = some r) :
    ∃ f, (conditionIf given kind reel s).fault.record = some f ∧ f.primary = r.primary ∧ r.severity.code ≤ f.severity.code := by
  cases given with
  | false => exact ⟨r, h, rfl, le_rfl⟩
  | true =>
    obtain ⟨f, hf, hprimary, -, -, -, -, hseverity⟩ :=
      takeConditionAt_keeps (c := { kind := kind, reel := reel }) (sev := kind.severity) h
    refine ⟨f, hf, hprimary, ?_⟩
    rw [hseverity]
    split <;> omega

/-- The three conditions judged on a sampled state and given in the order of their rules. -/
def takeSilences (s : State) : State :=
  conditionIf (tachSilent .takeup s) .tachSilent (some .takeup)
    (conditionIf (tachSilent .supply s) .tachSilent (some .supply) (conditionIf (rollerSilent s) .rollerSilent none s))

theorem speedSample_eq (s : State) :
    speedSample s = takeSilences (s.onTach fun x => x.sample s.servo.reels.supply.code s.servo.reels.takeup.code) := rfl

theorem takeSilences_tachUnit (s : State) : (takeSilences s).tach = s.tach := by simp [takeSilences]

theorem takeSilences_none {s : State} (hr : rollerSilent s = false) (ht : ∀ r, tachSilent r s = false) : takeSilences s = s := by
  simp [takeSilences, conditionIf, hr, ht]

/-- ROLLER_SILENT is given first, and no TACH_SILENT of the same sample takes its place or lowers its severity. -/
theorem takeSilences_roller {s : State} (hrec : s.fault.record = none) (hr : rollerSilent s = true) :
    ∃ f, (takeSilences s).fault.record = some f ∧ f.primary = { kind := .rollerSilent, reel := none } ∧ f.severity.code ≥ 2 := by
  obtain ⟨f, hf, hfp, hfs, -⟩ := takeCondition_primary .rollerSilent none hrec
  obtain ⟨g, hg, hgp, hgs⟩ := conditionIf_keeps (tachSilent .supply s) .tachSilent (some .supply) hf
  obtain ⟨k, hk, hkp, hks⟩ := conditionIf_keeps (tachSilent .takeup s) .tachSilent (some .takeup) hg
  refine ⟨k, by simpa [takeSilences, conditionIf, hr] using hk, by rw [hkp, hgp, hfp], ?_⟩
  have hfast : f.severity.code = 2 := by rw [hfs]; rfl
  omega

/-- TACH_SILENT of the supply reel is given before that of the take-up reel (log entry 35). -/
theorem takeSilences_tach {s : State} {r : Reel} (hrec : s.fault.record = none) (hr : rollerSilent s = false)
    (ht : tachSilent r s = true) (hfirst : r = .takeup → tachSilent .supply s = false) :
    ∃ f, (takeSilences s).fault.record = some f ∧ f.primary = { kind := .tachSilent, reel := some r } ∧ f.severity = .brake := by
  obtain ⟨f, hf, hfp, hfs, -⟩ := takeCondition_primary .tachSilent (some r) hrec
  cases r with
  | supply =>
    obtain ⟨g, hg, hgp, hgs⟩ := conditionIf_keeps (tachSilent .takeup s) .tachSilent (some .takeup) hf
    refine ⟨g, by simpa [takeSilences, conditionIf, hr, ht] using hg, hgp.trans hfp, Severity.eq_brake_of_code_le ?_⟩
    rwa [hfs] at hgs
  | takeup => exact ⟨f, by simpa [takeSilences, conditionIf, hr, ht, hfirst rfl] using hf, hfp, hfs⟩

/-- A reel's record after the sample (R24, R26). -/
theorem Tach.sample_get (x : Tach) (v : Servo) (r : Reel) :
    (x.sample v.reels.supply.code v.reels.takeup.code).reels.get r = (x.reels.get r).sample (v.reels.get r).code := by
  cases r <;> rfl

/-- Settles O43: the sample closes the slots; which of the three conditions it gives is read off the sampled state `u`. -/
theorem speedIsSampled : Obligations.SpeedIsSampled := by
  intro s hist n x hs hhist hn hx
  obtain ⟨u, hu⟩ : ∃ u, u = s.onTach fun x => x.sample s.servo.reels.supply.code s.servo.reels.takeup.code := ⟨_, rfl⟩
  have hframe : OnlyChanges [.tach] s u := by rw [hu]; exact s.onTach_onlyChanges _
  have hservo : u.servo = s.servo := by simp [hu]
  have hplanner : u.planner = s.planner := by simp [hu]
  have hfault : u.fault = s.fault := by simp [hu]
  have hroller : u.tach.rollerHist = hist := by rw [hu, hhist]; rfl
  have hreel (r : Reel) : u.tach.reels.get r = x r := by
    rw [hx r, hu, State.onTach_tach, Tach.sample_get]
    rfl
  have hfull : hist.take 2000 = hist := by rw [hhist, List.take_take, min_self]
  have hsilent := rollerSilent_iff u
  have htach (r : Reel) := tachSilent_iff r u
  simp only [hroller, hreel, hservo, hplanner, hfull] at hsilent htach
  have hexec : exec .speedSample s = .next (takeSilences u) := by
    rw [hu, ← speedSample_eq]
    exact whileRunning_of_running hs
  refine ⟨_, hexec, ?_, fun hmoving hheard => ?_, fun hrec hen hv hnone hreels => ?_, fun hrec hsome hmany r hq hd hfirst => ?_⟩
  · rw [takeSilences_tachUnit, hu, State.onTach_tach, hn, ← netCount_eq, hhist, hx .supply, hx .takeup]
    rfl
  · rw [takeSilences_none]
    · exact hframe
    · rw [← Bool.not_eq_true, hsilent]
      rintro ⟨hen, hv, -, hnone⟩
      rcases hmoving with h | h | h
      · simp [h] at hen
      · exact hv h
      · omega
    · intro r
      rw [← Bool.not_eq_true, htach]
      have := hheard r
      omega
  · exact takeSilences_roller (by rwa [hfault]) (hsilent.2 ⟨hen, hv, hreels, hnone⟩)
  · refine takeSilences_tach (by rwa [hfault]) ?_ ((htach r).2 ⟨hd, hq, hmany⟩) fun hr => ?_
    · rw [← Bool.not_eq_true, hsilent]
      rintro ⟨-, -, -, hnone⟩
      omega
    · rw [← Bool.not_eq_true, htach]
      have := hfirst hr
      omega

end Sys2Proof.Machine

namespace Sys2Proof.Machine

/-! ## SET_REEL: checks and the profile that is stored (R27) -/

theorem reelOfCode_reelCode (r : Reel) : reelOfCode (reelCode r) = some r := by cases r <;> rfl

theorem flagSet_of_ne {n : Nat} (h : n ≠ 0) : flagSet n = true := by simpa [flagSet] using h

/-- The reply is made of the Pack Estimator's items alone (Table 11-4). -/
theorem reelReply_congr {s t : State} (h : t.packs = s.packs) (r : Reel) : reelReply r t = reelReply r s := by
  unfold reelReply; rw [h]

/-- The profile that a legal SET_REEL stores: F, τ_fs and τ_lim clamped, τ_lim to at most τ_fs. -/
def ReelProfile.clamped (hub flange jf f tauLim tauFs : Nat) : ReelProfile :=
  { hub := hub, flange := flange, jf := jf, f := min 2000 f, tauFs := max 1000 (min 40000 tauFs),
    tauLim := min (max 1000 (min 40000 tauFs)) (max 500 (min 40000 tauLim)) }

section
variable {r : Reel} {apply hub flange jf f tauLim tauFs : Nat} {s : State}

theorem answerSetReel_report : answerSetReel (reelCode r) 0 hub flange jf f tauLim tauFs s = accept s false (reelReply r s) := by
  unfold answerSetReel
  rw [reelOfCode_reelCode]
  rfl

theorem answerSetReel_bad (happly : apply ≠ 0)
    (h : hub < 20000 ∨ 100000 < hub ∨ flange < 60000 ∨ 185000 < flange ∨ 20000 < jf ∨ flange ≤ hub + 10000) :
    answerSetReel (reelCode r) apply hub flange jf f tauLim tauFs s = refuse s .badValue := by
  unfold answerSetReel
  rw [reelOfCode_reelCode, flagSet_of_ne happly]
  exact if_pos (by simp; omega)

section
variable (happly : apply ≠ 0) (hhub : 20000 ≤ hub) (hhub' : hub ≤ 100000) (hfl : 60000 ≤ flange) (hfl' : flange ≤ 185000)
  (hjf : jf ≤ 20000) (hroom : hub + 10000 < flange)
include happly hhub hhub' hfl hfl' hjf hroom

/-- Outside IDLE hub, flange and J_f stay. -/
theorem answerSetReel_locked (hm : s.planner.mode ≠ .idle)
    (hne : ¬(hub = (s.packs.profile.get r).hub ∧ flange = (s.packs.profile.get r).flange ∧ jf = (s.packs.profile.get r).jf)) :
    answerSetReel (reelCode r) apply hub flange jf f tauLim tauFs s = refuse s .lockedInMotion := by
  unfold answerSetReel
  rw [reelOfCode_reelCode, flagSet_of_ne happly]
  dsimp only
  rw [if_neg (by simp; omega), if_pos ⟨hm, hne⟩]

theorem answerSetReel_stored {q : ReelProfile} (hq : q = .clamped hub flange jf f tauLim tauFs)
    (h : s.planner.mode = .idle ∨
      (hub = (s.packs.profile.get r).hub ∧ flange = (s.packs.profile.get r).flange ∧ jf = (s.packs.profile.get r).jf)) :
    answerSetReel (reelCode r) apply hub flange jf f tauLim tauFs s =
      accept (storeReel r q s) (q.f != f || q.tauLim != tauLim || q.tauFs != tauFs) (reelReply r (storeReel r q s)) := by
  unfold answerSetReel
  rw [reelOfCode_reelCode, flagSet_of_ne happly]
  dsimp only
  rw [if_neg (by simp; omega), if_neg (by tauto), clampNat_eq (by decide), clampNat_eq (by decide), clampNat_eq (by decide), hq,
    Nat.zero_max]
  rfl

end

/-! ## What a stored reel profile acts on (R58, R102) -/

/-- A drive code of a torque that is not negative is not negative (R58). -/
theorem codeOf_nonneg (tau tauFs : Nat) : 0 ≤ codeOf tau tauFs := by
  have hquot : 0 ≤ divHalfAway ((tau : Int) * 32767) tauFs := by
    rw [divHalfAway, if_pos (by omega)]
    exact Int.ediv_nonneg (by omega) (by omega)
  rw [codeOf, clampInt_eq (by decide)]
  omega

/-- R58: the standing code of a reel is clamped to the code of its τ_lim_eff. -/
theorem reclampReel_servo (r : Reel) (s : State) {bound : Int}
    (hb : bound = codeOf (tauLimEff s r) (s.packs.profile.get r).tauFs) :
    (reclampReel r s).servo =
      { s.servo with
        reels := s.servo.reels.set r { s.servo.reels.get r with code := max (-bound) (min bound (s.servo.reels.get r).code) } } := by
  have hpos : 0 ≤ bound := by rw [hb]; exact codeOf_nonneg _ _
  rw [← clampInt_eq (by omega), hb]
  rfl

variable {q : ReelProfile}

theorem storeReel_packs : (storeReel r q s).packs = { s.packs with profile := s.packs.profile.set r q } := by
  unfold storeReel
  dsimp only
  split <;> split <;> simp

theorem storeReel_servo {bound : Int} (hb : bound = codeOf (if s.servo.reduced then q.tauLim / 2 else q.tauLim : Nat) q.tauFs) :
    (storeReel r q s).servo =
      (if s.servo.enabled = true ∧ (q.tauLim < (s.packs.profile.get r).tauLim ∨ q.tauFs ≠ (s.packs.profile.get r).tauFs) then
        { s.servo with
          reels := s.servo.reels.set r { s.servo.reels.get r with code := max (-bound) (min bound (s.servo.reels.get r).code) } }
      else s.servo) := by
  unfold storeReel
  dsimp only
  have hclamp := reclampReel_servo r (s.onPacks fun x => { x with profile := x.profile.set r q }) (bound := bound)
    (by simp [hb, tauLimEff])
  split <;> split <;> simp [hclamp]

theorem storeReel_planner :
    (storeReel r q s).planner =
      (if s.planner.mode ≠ .idle ∧ ¬(q.f = (s.packs.profile.get r).f ∧ q.tauLim = (s.packs.profile.get r).tauLim ∧
          q.tauFs = (s.packs.profile.get r).tauFs) then
        { s.planner with torque := torqueLimits (storeReel r q s) }
      else s.planner) := by
  unfold storeReel
  dsimp only
  split
  · rw [recomputeLimits_planner]
    split <;> simp
  · split <;> simp

theorem storeReel_onlyChanges : OnlyChanges [.packs, .servo, .planner] s (storeReel r q s) := by
  intro b; cases b <;> simp [sameBlock]

end

/-! ## SET_TAPE (R28) -/

theorem tapeReply_congr {s t : State} (h : t.packs = s.packs) : tapeReply t = tapeReply s := by
  unfold tapeReply; rw [h]

/-- The profile that a legal SET_TAPE stores: T_thr and T_span clamped. -/
def TapeProfile.clamped (t kj tMin tNom tMax tThr tSpan : Nat) : TapeProfile :=
  { t := t, kj := kj, tMin := tMin, tNom := tNom, tMax := tMax, tThr := max 20 (min tMax tThr), tSpan := max 10 (min 600 tSpan) }

section
variable {apply t kj tMin tNom tMax tThr tSpan : Nat} {s : State} {x : TapeProfile}

theorem answerSetTape_report : answerSetTape 0 t kj tMin tNom tMax tThr tSpan s = accept s false (tapeReply s) := rfl

theorem answerSetTape_bad (happly : apply ≠ 0)
    (h : t < 10 ∨ 60 < t ∨ kj < 1000 ∨ 200000 < kj ∨ tMin < 20 ∨ tNom < tMin ∨ tMax < tNom ∨ 600 < tMax) :
    answerSetTape apply t kj tMin tNom tMax tThr tSpan s = refuse s .badValue := by
  rw [answerSetTape, flagSet_of_ne happly, if_neg (by simp), if_pos (by simp; omega)]

section
variable (happly : apply ≠ 0) (ht : 10 ≤ t) (ht' : t ≤ 60) (hkj : 1000 ≤ kj) (hkj' : kj ≤ 200000) (hmin : 20 ≤ tMin)
  (hnom : tMin ≤ tNom) (hmax : tNom ≤ tMax) (hmax' : tMax ≤ 600)
include happly ht ht' hkj hkj' hmin hnom hmax hmax'

/-- Outside IDLE t and k_J stay. -/
theorem answerSetTape_locked (hm : s.planner.mode ≠ .idle) (hne : ¬(t = s.packs.tape.t ∧ kj = s.packs.tape.kj)) :
    answerSetTape apply t kj tMin tNom tMax tThr tSpan s = refuse s .lockedInMotion := by
  rw [answerSetTape, flagSet_of_ne happly, if_neg (by simp), if_neg (by simp; omega), if_pos ⟨hm, hne⟩]

theorem answerSetTape_stored (hx : x = .clamped t kj tMin tNom tMax tThr tSpan)
    (h : s.planner.mode = .idle ∨ (t = s.packs.tape.t ∧ kj = s.packs.tape.kj)) :
    answerSetTape apply t kj tMin tNom tMax tThr tSpan s =
      accept (storeTape x s) (x.tThr != tThr || x.tSpan != tSpan) (tapeReply (storeTape x s)) := by
  rw [answerSetTape, flagSet_of_ne happly, if_neg (by simp), if_neg (by simp; omega), if_neg (by tauto),
    clampNat_eq (by omega), clampNat_eq (by decide), hx]
  rfl

end

theorem storeTape_packs : (storeTape x s).packs = { s.packs with tape := x } := by
  unfold storeTape; dsimp only; split <;> simp

theorem storeTape_servo :
    (storeTape x s).servo =
      { s.servo with
        tEff16 := if s.servo.enabled = true ∧ x.tMax < s.servo.tEff16 / 16 then 16 * x.tMax else s.servo.tEff16 } := by
  have hcut : (storeTape x s).servo =
      if s.servo.enabled ∧ x.tMax < s.servo.tEff then { s.servo with tEff16 := x.tMax * 16 } else s.servo := by
    unfold storeTape
    dsimp only
    split <;> rfl
  rw [hcut, Servo.tEff, Nat.mul_comm 16]
  split <;> rfl

theorem storeTape_planner :
    (storeTape x s).planner =
      (if x.tNom = s.packs.tape.tNom then s.planner else { s.planner with torque := torqueLimits (storeTape x s) }) := by
  unfold storeTape
  dsimp only
  split
  · simp
  · rw [recomputeLimits_planner]
    simp

theorem storeTape_onlyChanges : OnlyChanges [.packs, .servo, .planner] s (storeTape x s) := by
  intro b; cases b <;> simp [sameBlock]

end

/-! ## SET_REEL and SET_TAPE as requests -/

theorem okOr_eq (b : Bool) : okOr b = if b = false then .ok else .okClamped := by cases b <;> rfl

/-- A SET_REEL that meets a ready part is answered with what the Pack Estimator answers. -/
theorem setReel_answered {tag : Byte} {side apply hub flange jf f tauLim tauFs : Nat} {s s1 : State} {code : ResultCode}
    {body : List Byte} (hs : Ready s)
    (h : answerSetReel side apply hub flange jf f tauLim tauFs (restartLinkTimer s) =
      { state := s1, code := code, body := body }) :
    Answered (.setReel tag side apply hub flange jf f tauLim tauFs) s 0x94 tag code body s1 :=
  answered_of_ready hs rfl rfl rfl rfl h

theorem setTape_answered {tag : Byte} {apply t kj tMin tNom tMax tThr tSpan : Nat} {s s1 : State} {code : ResultCode}
    {body : List Byte} (hs : Ready s)
    (h : answerSetTape apply t kj tMin tNom tMax tThr tSpan (restartLinkTimer s) = { state := s1, code := code, body := body }) :
    Answered (.setTape tag apply t kj tMin tNom tMax tThr tSpan) s 0x95 tag code body s1 :=
  answered_of_ready hs rfl rfl rfl rfl h

/-- Settles O19: report, checks and the stored profile of each request; the answers are the block's from the state `v` with the link
timer restarted, whose packs, servo and planner are those of `s`. -/
theorem reelAndTapeProfilesAreStored : Obligations.ReelAndTapeProfilesAreStored := by
  refine ⟨?reel, ?tape⟩
  case reel =>
    intro tag r apply hub flange jf f tauLim tauFs s hs
    have answered {code : ResultCode} {body : List Byte} {t : State}
        (h : answerSetReel (reelCode r) apply hub flange jf f tauLim tauFs (restartLinkTimer s) =
          { state := t, code := code, body := body }) :=
      setReel_answered (tag := tag) hs h
    obtain ⟨-, -, hpacks, hservo, -, hplanner, -⟩ := restartLinkTimer_frame s
    rw [← hpacks, ← hservo, ← hplanner, ← reelReply_congr hpacks]
    unfold Refuses
    generalize restartLinkTimer s = v at *
    refine ⟨?report, fun ha hbad => answered (answerSetReel_bad ha hbad), fun ha hh hh' hf hf' hj hroom =>
      ⟨fun hm hne => answered (answerSetReel_locked ha hh hh' hf hf' hj hroom hm hne), ?stored⟩⟩
    case report =>
      rintro rfl
      exact answered answerSetReel_report
    case stored =>
      rintro _ q bound rfl hok hq hb
      have hstored := answerSetReel_stored ha hh hh' hf hf' hj hroom hq hok
      refine ⟨storeReel r q v, answered (hstored.trans ?_), storeReel_onlyChanges, storeReel_packs, storeReel_servo hb,
        storeReel_planner⟩
      rw [accept, okOr_eq]
      simp [and_assoc]
  case tape =>
    intro tag apply t kj tMin tNom tMax tThr tSpan s hs
    have answered {code : ResultCode} {body : List Byte} {u : State}
        (h : answerSetTape apply t kj tMin tNom tMax tThr tSpan (restartLinkTimer s) =
          { state := u, code := code, body := body }) :=
      setTape_answered (tag := tag) hs h
    obtain ⟨-, -, hpacks, hservo, -, hplanner, -⟩ := restartLinkTimer_frame s
    rw [← hpacks, ← hservo, ← hplanner, ← tapeReply_congr hpacks]
    unfold Refuses
    generalize restartLinkTimer s = v at *
    refine ⟨?reportTape, fun ha hbad => answered (answerSetTape_bad ha hbad), fun ha h1 h2 h3 h4 h5 h6 h7 h8 =>
      ⟨fun hm hne => answered (answerSetTape_locked ha h1 h2 h3 h4 h5 h6 h7 h8 hm hne), fun hok x hx => ?storedTape⟩⟩
    case reportTape =>
      rintro rfl
      exact answered answerSetTape_report
    case storedTape =>
      have hstored := answerSetTape_stored ha h1 h2 h3 h4 h5 h6 h7 h8 hx hok
      have hmax : x.tMax = tMax := by rw [hx]
      have hnom : x.tNom = tNom := by rw [hx]
      refine ⟨storeTape x v, answered (hstored.trans ?_), storeTape_onlyChanges, storeTape_packs, ?_, ?_⟩
      · rw [accept, okOr_eq]
        simp
      · rw [← hmax]
        exact storeTape_servo
      · rw [← hnom]
        exact storeTape_planner

end Sys2Proof.Machine

namespace Sys2Proof.Machine

/-! ## The zone in force after a change of position (R114) -/

theorem rezonePosition_same {s : State} {dir : Option Dir} (h : zoneAt s.zones s.tach.position = s.zones.index) :
    rezonePosition dir s = s :=
  if_pos h

theorem rezonePosition_zones (dir : Option Dir) (s : State) :
    (rezonePosition dir s).zones = { s.zones with index := zoneAt s.zones s.tach.position } := by
  by_cases h : zoneAt s.zones s.tach.position = s.zones.index
  · rw [rezonePosition_same h, h]
  · simp [rezonePosition, h]

theorem rezonePosition_onlyChanges (dir : Option Dir) (s : State) :
    OnlyChanges [.zones, .lines, .monitor, .link] s (rezonePosition dir s) := by
  intro b; cases b <;> simp [sameBlock]

/-! ## PRESET_POSITION (R20) -/

theorem positionOk_iff (x : Int) : positionOk x = true ↔ -1000000000 ≤ x ∧ x ≤ 1000000000 := by simp [positionOk]

section
variable {value : Int} {s : State}

theorem answerPresetPosition_wrongMode (h : s.planner.mode ∉ [Mode.idle, .hold, .braked]) :
    answerPresetPosition value s = refuse s .wrongMode := by
  rw [answerPresetPosition, if_pos (by simpa using h)]

theorem answerPresetPosition_bad (h : s.planner.mode ∈ [Mode.idle, .hold, .braked])
    (hbad : value < -1000000000 ∨ 1000000000 < value) : answerPresetPosition value s = refuse s .badValue := by
  have hrange : positionOk value = false := by rw [← Bool.not_eq_true, positionOk_iff]; omega
  simp only [List.mem_cons, List.not_mem_nil, or_false] at h
  rw [answerPresetPosition, if_neg (by tauto), hrange]
  rfl

theorem presetTo_tach : (presetTo value s).tach = { s.tach with position := value, referenced := true } := by
  simp [presetTo]

theorem answerPresetPosition_taken (h : s.planner.mode ∈ [Mode.idle, .hold, .braked]) (hlow : -1000000000 ≤ value)
    (hhigh : value ≤ 1000000000) : answerPresetPosition value s = accept (presetTo value s) false (outS32 value) := by
  simp only [List.mem_cons, List.not_mem_nil, or_false] at h
  rw [answerPresetPosition, if_neg (by tauto), (positionOk_iff value).2 ⟨hlow, hhigh⟩]
  dsimp only
  rw [presetTo_tach]
  rfl

theorem presetTo_onlyChanges : OnlyChanges [.tach, .zones, .cues, .lines, .monitor, .link] s (presetTo value s) := by
  intro b; cases b <;> simp [sameBlock]

theorem presetTo_zones : (presetTo value s).zones = { s.zones with index := zoneAt s.zones value } := by
  simp [presetTo, rezonePosition_zones]

/-- A preset reaches no cue: of the Cue List only the last-reached memory follows it. -/
theorem presetTo_cues : (presetTo value s).cues = { s.cues with lastReached := memoryAt value s.cues.list } := by
  simp [presetTo]

theorem presetTo_sameZone (h : zoneAt s.zones value = s.zones.index) :
    (presetTo value s).lines = s.lines ∧ (presetTo value s).monitor = s.monitor ∧ (presetTo value s).link = s.link := by
  rw [presetTo, rezonePosition_same (by simpa using h)]
  simp

/-! ## POSITION_FIX (R21) -/

theorem fixTaken_iff : fixTaken s = true ↔
    s.planner.mode = .play ∨ (s.planner.mode = .chase ∧ (s.chase.state = .matching ∨ s.chase.state = .locked)) := by
  simp [fixTaken]

variable {window w : Nat}

theorem answerPositionFix_wrongMode (h : ¬fixTaken s = true) :
    answerPositionFix value window s = { state := s, code := .wrongMode, body := outS32 0 } := by
  rw [answerPositionFix, if_pos (by simpa using h)]

theorem answerPositionFix_bad (h : fixTaken s = true) (hbad : value < -1000000000 ∨ 1000000000 < value) :
    answerPositionFix value window s = { state := s, code := .badValue, body := outS32 0 } := by
  have hrange : positionOk value = false := by rw [← Bool.not_eq_true, positionOk_iff]; omega
  rw [answerPositionFix, h, hrange]
  rfl

/-- A legal fix is judged by the window `w` that it brings, or that stands. -/
theorem answerPositionFix_inRange (h : fixTaken s = true) (hlow : -1000000000 ≤ value) (hhigh : value ≤ 1000000000)
    (hw : w = if window = 0 then s.tach.fixWindow else max 8 (min 8000 window)) :
    answerPositionFix value window s =
      if w < mag (value - s.tach.position) then
        { state := s, code := .fixTooLarge, body := outS32 (value - s.tach.position) }
      else
        accept (fixTo value (s.onTach fun x => { x with fixWindow := w })) (window != 0 && w != window)
          (outS32 (value - s.tach.position)) := by
  rw [answerPositionFix, h, (positionOk_iff value).2 ⟨hlow, hhigh⟩, clampNat_eq (by decide), ← hw]
  rfl

theorem fixTo_tach : (fixTo value s).tach = { s.tach with position := value } := by
  unfold fixTo
  dsimp only
  split <;> simp

end

/-- A fix is beyond the window where its distance is, in either direction. -/
theorem lt_mag_sub_iff (w : Nat) (x y : Int) : w < mag (x - y) ↔ (w : Int) < x - y ∨ (w : Int) < y - x := by
  unfold mag; omega

/-! ## PRESET_POSITION and POSITION_FIX as requests -/

/-- A PRESET_POSITION that meets a ready part is answered with what the Position and Tach Unit answers. -/
theorem presetPosition_answered {tag : Byte} {value : Int} {s s1 : State} {code : ResultCode} {body : List Byte} (hs : Ready s)
    (h : answerPresetPosition value (restartLinkTimer s) = { state := s1, code := code, body := body }) :
    Answered (.presetPosition tag value) s 0xB0 tag code body s1 :=
  answered_of_ready hs rfl rfl rfl rfl h

theorem positionFix_answered {tag : Byte} {value : Int} {window : Nat} {s s1 : State} {code : ResultCode} {body : List Byte}
    (hs : Ready s) (h : answerPositionFix value window (restartLinkTimer s) = { state := s1, code := code, body := body }) :
    Answered (.positionFix tag value window) s 0xB1 tag code body s1 :=
  answered_of_ready hs rfl rfl rfl rfl h

/-- Settles O28: the checks of both requests in their order, and the state that a taken one leaves from `v`, where the link timer has
restarted. -/
theorem positionIsSetByTheHost : Obligations.PositionIsSetByTheHost := by
  refine ⟨?preset, ?fix⟩
  case preset =>
    intro tag value s hs
    have answered {code : ResultCode} {body : List Byte} {t : State}
        (h : answerPresetPosition value (restartLinkTimer s) = { state := t, code := code, body := body }) :=
      presetPosition_answered (tag := tag) hs h
    obtain ⟨-, htach, -, -, -, hplanner, hzones, hcues, -, -, -, hmonitor, -, hlink, hlines, -⟩ := restartLinkTimer_frame s
    rw [← hplanner, ← htach, ← hzones, ← hcues, ← hmonitor, ← hlink, ← hlines]
    unfold Refuses
    generalize restartLinkTimer s = v at *
    refine ⟨fun hm => answered (answerPresetPosition_wrongMode hm), fun hm =>
      ⟨fun hbad => answered (answerPresetPosition_bad hm hbad), fun hlow hhigh => ?_⟩⟩
    refine ⟨_, answered (answerPresetPosition_taken hm hlow hhigh), presetTo_onlyChanges, presetTo_tach, ?_, ?_, ?_, ?_,
      presetTo_sameZone⟩
    · rw [presetTo_zones]
    · rw [presetTo_zones]
    · rw [presetTo_cues]
    · rw [presetTo_cues]
  case fix =>
    intro tag value window w s hs hw
    have answered {code : ResultCode} {body : List Byte} {t : State}
        (h : answerPositionFix value window (restartLinkTimer s) = { state := t, code := code, body := body }) :=
      positionFix_answered (tag := tag) hs h
    have hheld : (restartLinkTimer s).held = none := by simp [hs.1]
    obtain ⟨hsense, htach, -, -, -, hplanner, -, -, hparams, -, hchase, -, -, -, -, -, hfree, hpending⟩ :=
      restartLinkTimer_frame s
    rw [← htach] at hw
    rw [← hplanner, ← hchase, ← htach, ← hsense, ← hparams, ← hfree, ← hpending]
    generalize restartLinkTimer s = v at *
    rw [← fixTaken_iff]
    refine ⟨fun hno => answered (answerPositionFix_wrongMode hno), fun htaken =>
      ⟨fun hbad => answered (answerPositionFix_bad htaken hbad), fun hlow hhigh => ?_⟩⟩
    have hjudge := answerPositionFix_inRange htaken hlow hhigh hw
    refine ⟨fun hfar => answered (hjudge.trans (if_pos ((lt_mag_sub_iff _ _ _).2 hfar))), fun hnear hnear' => ?_⟩
    rw [if_neg (by rw [lt_mag_sub_iff]; omega)] at hjudge
    refine ⟨fixTo value (v.onTach fun x => { x with fixWindow := w }), answered (hjudge.trans ?_), ?_, ?_⟩
    · rw [accept, okOr_eq]
      simp [or_iff_not_imp_left]
    · rw [fixTo_tach]
      rfl
    · simp [hheld]

end Sys2Proof.Machine

namespace Sys2Proof.Machine

/-! ## One record of two (R24) -/

theorem PerReel.set_get {α : Type} (x : PerReel α) (r : Reel) : x.set r (x.get r) = x := by cases r <;> rfl

theorem PerReel.set_set {α : Type} (x : PerReel α) (r : Reel) (a b : α) : (x.set r a).set r b = x.set r b := by cases r <;> rfl

theorem State.onPack_onPack (s : State) (r : Reel) (f g : Pack → Pack) :
    (s.onPack r f).onPack r g = s.onPack r fun k => g (f k) := by
  simp [State.onPack, State.onPacks, PerReel.set_set]

theorem State.onPack_same (s : State) (r : Reel) : (s.onPack r fun _ => s.packs.pack.get r) = s := by
  simp [State.onPack, State.onPacks, PerReel.set_get]

/-! ## Prediction and windows of one record (R31, R32, R34, R35) -/

theorem reelEdgeDir_eq (r : Reel) (winding : Bool) :
    reelEdgeDir r winding = if (r = .takeup ↔ winding = true) then .forward else .reverse := by
  cases r <;> cases winding <;> rfl

theorem Pack.agrees_iff (k : Pack) (d : Dir) : k.agrees d = true ↔ k.winDir = none ∨ k.winDir = some d := by
  unfold Pack.agrees
  cases h : k.winDir <;> simp

/-- R34: a TRACKING record is predicted to `n`, and its J recomputed at every 256th edge; another is left alone. -/
theorem Packs.predict_eq {x : Packs} {r : Reel} {q : ReelProfile} {winding : Bool} {k : Pack} {n : Nat} (hq : q = x.profile.get r)
    (hle : q.hub ≤ q.flange)
    (hn : n = max (256 * q.hub) (min (256 * q.flange) (if winding then k.rq + x.tape.t else k.rq - x.tape.t))) :
    x.predict r winding k =
      if k.status = .tracking then
        { k with
          rq := n, predCount := if k.predCount = 255 then 0 else k.predCount + 1
          j := if k.predCount = 255 then inertiaAt q x.tape.kj (n / 256) else k.j }
      else k := by
  have hpred : (x.profile.get r).predicted x.tape.t winding k.rq = n := by
    rw [ReelProfile.predicted, ← hq, clampNat_eq (by omega), hn, Nat.mul_comm q.hub, Nat.mul_comm q.flange]
  unfold Packs.predict
  split
  · by_cases hfull : k.predCount = 255
    · simp [hfull, hpred, Packs.inertiaOf, hq]
    · simp [hfull, hpred]
  · rfl

/-- A prediction leaves the status, the window and the rejection run. -/
@[simp] theorem Packs.predict_rest (x : Packs) (r : Reel) (winding : Bool) (k : Pack) :
    (x.predict r winding k).status = k.status ∧ (x.predict r winding k).winDir = k.winDir ∧
      (x.predict r winding k).wAcc = k.wAcc ∧ (x.predict r winding k).lAcc = k.lAcc ∧
      (x.predict r winding k).rejectRun = k.rejectRun := by
  unfold Packs.predict
  split
  · dsimp only
    split <;> simp
  · simp

theorem windowFits_iff (m p : Nat) : windowFits m p = true ↔ 100 * mag ((m : Int) - p) ≤ 3 * p := by
  simp [windowFits, Nat.mul_comm]

/-! ## The edge of a reel tachometer (R24, R31) -/

/-- The reel's speed slot takes the edge (R24). -/
def reelSlotEdge (r : Reel) (s : State) : State := s.onReelTach r fun x => { x with edges := x.edges + 1 }

@[simp] theorem reelSlotEdge_packs (r : Reel) (s : State) : (reelSlotEdge r s).packs = s.packs := rfl

theorem reelTachEdge_eq (r : Reel) (winding : Bool) (s : State) :
    reelTachEdge r winding s =
      packReelEdge r (reelEdgeDir r winding)
        ((reelSlotEdge r s).onPack r fun _ => s.packs.predict r winding (s.packs.pack.get r)) := rfl

section
variable {r : Reel} {winding : Bool} {s : State} {k : Pack}

/-- An UNKNOWN record takes no edge. -/
theorem reelTachEdge_unknown (h : (s.packs.pack.get r).status = .unknown) : reelTachEdge r winding s = reelSlotEdge r s := by
  have hkeep : s.packs.predict r winding (s.packs.pack.get r) = s.packs.pack.get r := by simp [Packs.predict, h]
  rw [reelTachEdge_eq, hkeep, packReelEdge, State.onPack_self, if_pos h]
  exact (reelSlotEdge r s).onPack_same r

variable (hk : k = s.packs.predict r winding (s.packs.pack.get r))
include hk

/-- R31: an edge against the window direction restarts the window. -/
theorem reelTachEdge_against (hu : k.status ≠ .unknown) (ha : k.agrees (reelEdgeDir r winding) = false) :
    reelTachEdge r winding s =
      (reelSlotEdge r s).onPack r fun _ => { k with winDir := some (reelEdgeDir r winding), wAcc := 0, lAcc := 0 } := by
  rw [reelTachEdge_eq, ← hk, packReelEdge, State.onPack_self, if_neg hu, ha, if_neg Bool.false_ne_true,
    State.onPack_onPack]
  rfl

theorem reelTachEdge_counts (hu : k.status ≠ .unknown) (ha : k.agrees (reelEdgeDir r winding) = true)
    (hw : k.wAcc + 1 < k.status.windowLen) :
    reelTachEdge r winding s =
      (reelSlotEdge r s).onPack r fun _ => { k with winDir := some (reelEdgeDir r winding), wAcc := k.wAcc + 1 } := by
  rw [reelTachEdge_eq, ← hk, packReelEdge, State.onPack_self, if_neg hu, ha, if_pos rfl, State.onPack_onPack]
  exact if_neg (Nat.not_le.2 hw)

/-- R32: a window is complete. It restarts with its direction kept, and PACK_WINDOWS fires. -/
def windowClosed (r : Reel) (d : Dir) (k : Pack) (s : State) : State :=
  monitorEvent .packWindows (.reel r) ((reelSlotEdge r s).onPack r fun _ => { k with winDir := some d, wAcc := 0, lAcc := 0 })

theorem reelTachEdge_fills (hu : k.status ≠ .unknown) (ha : k.agrees (reelEdgeDir r winding) = true)
    (hw : k.wAcc + 1 = k.status.windowLen) :
    reelTachEdge r winding s =
      if k.status = .probe then
        acceptProbe r (measuredRadius k.lAcc k.status.windowLen) (windowClosed r (reelEdgeDir r winding) k s)
      else
        judgeWindow r (measuredRadius k.lAcc k.status.windowLen) (k.rq / 256) (windowClosed r (reelEdgeDir r winding) k s) := by
  rw [reelTachEdge_eq, ← hk, packReelEdge, State.onPack_self, if_neg hu, ha, State.onPack_onPack, if_pos rfl]
  dsimp only
  rw [if_pos (by omega), completeWindow, State.onPack_self, State.onPack_onPack]
  rfl

end

/-! ## The rows named for a threshold (log entry 3) -/

theorem predictionFills_iff (r : Reel) (s : State) :
    predictionFills r s = true ↔ (s.packs.pack.get r).status = .tracking ∧ (s.packs.pack.get r).predCount = 255 := by
  simp [predictionFills]

theorem windowFills_iff (r : Reel) (winding : Bool) (s : State) :
    windowFills r winding s = true ↔
      (s.packs.pack.get r).status ≠ .unknown ∧ (s.packs.pack.get r).agrees (reelEdgeDir r winding) = true ∧
        (s.packs.pack.get r).status.windowLen = (s.packs.pack.get r).wAcc + 1 := by
  simp [windowFills, and_assoc]

theorem resyncFalls_iff {r : Reel} {winding : Bool} {s : State} {k : Pack}
    (hk : k = s.packs.predict r winding (s.packs.pack.get r)) :
    resyncFalls r winding s = true ↔
      windowFills r winding s = true ∧ k.status = .tracking ∧ k.rejectRun = 2 ∧
        windowFits (measuredRadius k.lAcc k.status.windowLen) (k.rq / 256) = false := by
  rw [hk]
  simp [resyncFalls, and_assoc]

section
variable {s : State} (hs : s.held = none) (r : Reel) (winding : Bool)
include hs

theorem exec_reelTachEdge : exec (.reelTachEdge r winding) s = .next (reelTachEdge r winding s) := whileRunning_of_running hs

theorem exec_predictionCountFull :
    exec (.predictionCountFull r winding) s = .next (if predictionFills r s = true then reelTachEdge r winding s else s) :=
  whileRunning_of_running hs

theorem exec_packWindowComplete :
    exec (.packWindowComplete r winding) s = .next (if windowFills r winding s = true then reelTachEdge r winding s else s) :=
  whileRunning_of_running hs

theorem exec_packResync :
    exec (.packResync r winding) s = .next (if resyncFalls r winding s = true then reelTachEdge r winding s else s) :=
  whileRunning_of_running hs

/-- Where the edge does not complete a window, the two rows of a complete window change nothing. -/
theorem exec_windowRows_quiet (h : ¬windowFills r winding s = true) :
    exec (.packWindowComplete r winding) s = .next s ∧ exec (.packResync r winding) s = .next s := by
  rw [exec_packWindowComplete hs, exec_packResync hs, if_neg h, if_neg fun hr => h ((resyncFalls_iff rfl).1 hr).1]
  exact ⟨rfl, rfl⟩

end

/-! ## A radius that is stored (R33, R35 to R38, R40) -/

/-- The record with a radius of `kept` µm. -/
def Pack.stored (k : Pack) (q : ReelProfile) (kj kept : Nat) : Pack :=
  { k with status := .tracking, rq := 256 * kept, rejectRun := 0, predCount := 0, j := inertiaAt q kj kept }

/-- From s to t reel r's record has taken a radius of `kept` µm, and the planner's limits follow the packs of t. -/
def RadiusStored (r : Reel) (kept : Nat) (s t : State) : Prop :=
  OnlyChanges [.packs, .planner, .monitor, .link] s t ∧
    t.packs =
      { s.packs with
        pack := s.packs.pack.set r ((s.packs.pack.get r).stored (s.packs.profile.get r) s.packs.tape.kj kept)
        mismatch := t.packs.mismatch } ∧
    t.planner = { s.planner with torque := torqueLimits t }

section
variable {r : Reel} {m kept : Nat} {s : State}

theorem acceptRadius_onlyChanges (r : Reel) (m : Nat) (s : State) : OnlyChanges [.packs, .link] s (acceptRadius r m s) := by
  intro b; cases b <;> simp [sameBlock]

/-- R37: the measured radius is clamped to the profile. -/
theorem acceptRadius_packs (hkept : kept = clampNat (s.packs.profile.get r).hub (s.packs.profile.get r).flange m) :
    (acceptRadius r m s).packs =
      { s.packs with
        pack := s.packs.pack.set r ((s.packs.pack.get r).stored (s.packs.profile.get r) s.packs.tape.kj kept) } := by
  have hradius : (acceptRadius r m s).packs =
      { s.packs with
        pack := s.packs.pack.set r
          { s.packs.pack.get r with
            status := .tracking, rq := kept * 256, rejectRun := 0, predCount := 0
            j := inertiaAt (s.packs.profile.get r) s.packs.tape.kj (kept * 256 / 256) } } := by
    unfold acceptRadius
    rw [hkept]
    dsimp only
    split <;> rfl
  rw [hradius, Nat.mul_div_cancel _ (by decide), Nat.mul_comm]
  rfl

theorem areaTest_onlyChanges (s : State) : OnlyChanges [.packs, .link] s (areaTest s) := by
  intro b; cases b <;> simp [sameBlock]

/-- R40: the area test writes MISMATCH alone. -/
theorem areaTest_packs (s : State) : (areaTest s).packs = { s.packs with mismatch := (areaTest s).packs.mismatch } := by
  unfold areaTest
  split
  · rfl
  · dsimp only
    split <;> rfl

theorem acceptWindow_stores (hkept : kept = clampNat (s.packs.profile.get r).hub (s.packs.profile.get r).flange m) :
    RadiusStored r kept s (acceptWindow r m s) := by
  refine ⟨?_, ?_, ?_⟩
  · exact (((acceptRadius_onlyChanges r m s).append (areaTest_onlyChanges _)).append (recomputeLimits_onlyChanges _)).mono (by simp)
  · have harea := areaTest_packs (acceptRadius r m s)
    rw [acceptRadius_packs hkept] at harea
    simpa [acceptWindow] using harea
  · rw [acceptWindow, recomputeLimits_planner]
    simp

/-- A notice after the radius changes nothing of it. -/
theorem RadiusStored.postNotice {t : State} (h : RadiusStored r kept s t) (n : Notice) : RadiusStored r kept s (postNotice n t) := by
  obtain ⟨hframe, hpacks, hplanner⟩ := h
  refine ⟨(hframe.append (postNotice_onlyChanges n t)).mono (by simp), by simpa using hpacks, ?_⟩
  rw [torqueLimits_congr (s := t) (by simp) (by simp)]
  simpa using hplanner

theorem resyncWindow_stores (hkept : kept = clampNat (s.packs.profile.get r).hub (s.packs.profile.get r).flange m) (p : Nat) :
    RadiusStored r kept s (resyncWindow r m p s) :=
  (acceptWindow_stores hkept).postNotice _

/-- R36: the state in which a window has been rejected. -/
def windowRejected (r : Reel) (s : State) : State :=
  monitorEvent .packRejects (.reel r) (s.onPack r fun k => { k with rejectRun := k.rejectRun + 1 })

theorem windowRejected_packs (r : Reel) (s : State) :
    (windowRejected r s).packs =
      { s.packs with
        pack := s.packs.pack.set r { s.packs.pack.get r with rejectRun := (s.packs.pack.get r).rejectRun + 1 } } := by
  simp [windowRejected, State.onPack]

theorem windowRejected_onlyChanges (r : Reel) (s : State) : OnlyChanges [.packs, .monitor, .link] s (windowRejected r s) :=
  (s.onPacks_onlyChanges _).append (monitorEvent_onlyChanges _ _ _)

/-- A record that takes a radius forgets its rejections: it is the same whether the last window was rejected or not. -/
theorem RadiusStored.of_rejected {t : State} (h : RadiusStored r kept (windowRejected r s) t) : RadiusStored r kept s t := by
  obtain ⟨hframe, hpacks, hplanner⟩ := h
  refine ⟨((windowRejected_onlyChanges r s).append hframe).mono (by simp), ?_, ?_⟩
  · rw [windowRejected_packs] at hpacks
    simpa [PerReel.set_set, Pack.stored] using hpacks
  · simpa [windowRejected] using hplanner

theorem judgeWindow_rejects {p : Nat} (hfits : windowFits m p = false) :
    judgeWindow r m p s =
      if (s.packs.pack.get r).rejectRun = 2 then resyncWindow r m p (windowRejected r s) else windowRejected r s := by
  have hrun : ((windowRejected r s).packs.pack.get r).rejectRun = (s.packs.pack.get r).rejectRun + 1 := by
    rw [windowRejected_packs, PerReel.get_set_same]
  rw [judgeWindow, hfits]
  show (if ((windowRejected r s).packs.pack.get r).rejectRun = 3 then _ else _) = _
  rw [hrun]
  simp [windowRejected]

/-- R35, R36: a window that fits the prediction is accepted, and so is the third in a row that does not. -/
theorem judgeWindow_accepts {p : Nat} (hkept : kept = clampNat (s.packs.profile.get r).hub (s.packs.profile.get r).flange m)
    (h : windowFits m p = true ∨ (s.packs.pack.get r).rejectRun = 2) : RadiusStored r kept s (judgeWindow r m p s) := by
  cases hfits : windowFits m p with
  | true =>
    rw [judgeWindow, if_pos hfits]
    exact acceptWindow_stores hkept
  | false =>
    rw [judgeWindow_rejects hfits, if_pos (h.resolve_left (by simp [hfits]))]
    refine (resyncWindow_stores ?_ p).of_rejected
    rw [windowRejected_packs]
    exact hkept

end

end Sys2Proof.Machine

namespace Sys2Proof.Machine

/-! ## A complete window (R32) -/

theorem measuredRadius_tracking (l : Nat) : measuredRadius l PackStatus.tracking.windowLen = (l * 3200000 + 804224) / 1608448 := rfl

theorem measuredRadius_probe (l : Nat) : measuredRadius l PackStatus.probe.windowLen = (l * 3200000 + 100528) / 201056 := rfl

theorem PackStatus.windowLen_eq {x : PackStatus} (h : x ≠ .unknown) : x.windowLen = if x = .probe then 32 else 256 := by
  cases x
  case unknown => exact absurd rfl h
  all_goals rfl

section
variable {r : Reel} {d : Dir} {k : Pack} {m kept : Nat} {s t : State}

theorem windowClosed_onlyChanges : OnlyChanges [.tach, .packs, .monitor, .link] s (windowClosed r d k s) :=
  ((s.onTach_onlyChanges _).append (State.onPacks_onlyChanges _ _)).append (monitorEvent_onlyChanges _ _ _)

theorem windowClosed_tach : (windowClosed r d k s).tach = (reelSlotEdge r s).tach := by simp [windowClosed]

theorem windowClosed_packs :
    (windowClosed r d k s).packs =
      { s.packs with pack := s.packs.pack.set r { k with winDir := some d, wAcc := 0, lAcc := 0 } } := by
  simp [windowClosed, State.onPack]

/-- From s to t the last edge of a window of reel r has left the record k in its place: the tape, the profiles, A0 and the other
reel's record stay. -/
def WindowEnds (r : Reel) (k : Pack) (s t : State) : Prop :=
  OnlyChanges [.tach, .packs, .planner, .monitor, .link] s t ∧ t.tach = (reelSlotEdge r s).tach ∧
    t.packs.profile = s.packs.profile ∧ t.packs.tape = s.packs.tape ∧ t.packs.a0 = s.packs.a0 ∧
    (∀ r', r' ≠ r → t.packs.pack.get r' = s.packs.pack.get r') ∧ t.packs.pack.get r = k

theorem WindowEnds.of_packs {b : Bool} (hframe : OnlyChanges [.tach, .packs, .planner, .monitor, .link] s t)
    (htach : t.tach = (reelSlotEdge r s).tach)
    (hpacks : t.packs = { s.packs with pack := s.packs.pack.set r k, mismatch := b }) : WindowEnds r k s t := by
  refine ⟨hframe, htach, ?_⟩
  rw [hpacks]
  exact ⟨rfl, rfl, rfl, fun r' hr' => PerReel.get_set_other _ _ _ _ hr', PerReel.get_set_same _ _ _⟩

/-- The radius of a complete window, seen from the state before its last edge. -/
theorem RadiusStored.of_closed (h : RadiusStored r kept (windowClosed r d k s) t) :
    WindowEnds r
        (({ k with winDir := some d, wAcc := 0, lAcc := 0 } : Pack).stored (s.packs.profile.get r) s.packs.tape.kj kept) s t ∧
      t.planner = { s.planner with torque := torqueLimits t } := by
  obtain ⟨hframe, hpacks, hplanner⟩ := h
  have htach : t.tach = (windowClosed r d k s).tach := (hframe .tach).resolve_left (by decide)
  have hsame : (windowClosed r d k s).planner = s.planner := (windowClosed_onlyChanges .planner).resolve_left (by decide)
  refine ⟨.of_packs ((windowClosed_onlyChanges.append hframe).mono (by simp)) (htach.trans windowClosed_tach)
    (b := t.packs.mismatch) ?_, by rwa [hsame] at hplanner⟩
  rw [windowClosed_packs] at hpacks
  simpa [PerReel.set_set] using hpacks

/-- What a window that is neither accepted nor the third rejected in a row leaves. -/
theorem windowRejected_closed :
    WindowEnds r { k with winDir := some d, wAcc := 0, lAcc := 0, rejectRun := k.rejectRun + 1 } s
        (windowRejected r (windowClosed r d k s)) ∧
      (windowRejected r (windowClosed r d k s)).planner = s.planner := by
  have hframe := windowClosed_onlyChanges.append (windowRejected_onlyChanges r (windowClosed r d k s))
  have htach : (windowRejected r (windowClosed r d k s)).tach = (windowClosed r d k s).tach :=
    (windowRejected_onlyChanges r _ .tach).resolve_left (by decide)
  refine ⟨.of_packs (hframe.mono (by simp)) (htach.trans windowClosed_tach) (b := s.packs.mismatch) ?_,
    (hframe .planner).resolve_left (by decide)⟩
  rw [windowRejected_packs, windowClosed_packs]
  simp [PerReel.set_set]

end

/-! ## A complete window of a TRACKING record (R35, R36) -/

/-- R36: PACK_RESYNC is the edge of the third rejected window in a row. -/
theorem resyncFalls_rejected {r : Reel} {winding : Bool} {k : Pack} {m : Nat} {s : State}
    (hk : k = s.packs.predict r winding (s.packs.pack.get r)) (htr : k.status = .tracking)
    (hm : m = (k.lAcc * 3200000 + 804224) / 1608448) (hfill : windowFills r winding s = true) :
    resyncFalls r winding s = true ↔ k.rejectRun = 2 ∧ windowFits m (k.rq / 256) = false := by
  rw [resyncFalls_iff hk, htr, measuredRadius_tracking, ← hm]
  simp [hfill]

section
variable {r : Reel} {winding : Bool} {k : Pack} {m kept : Nat} {s : State}
  (hk : k = s.packs.predict r winding (s.packs.pack.get r)) (htr : k.status = .tracking)
  (ha : k.agrees (reelEdgeDir r winding) = true) (hw : k.wAcc = 255) (hm : m = (k.lAcc * 3200000 + 804224) / 1608448)
include hk htr ha hw hm

theorem reelTachEdge_judges :
    reelTachEdge r winding s = judgeWindow r m (k.rq / 256) (windowClosed r (reelEdgeDir r winding) k s) := by
  rw [reelTachEdge_fills hk (by simp [htr]) ha (by rw [hw, htr]; rfl), if_neg (by simp [htr]), htr, measuredRadius_tracking, ← hm]

theorem reelTachEdge_accepts (hkept : kept = clampNat (s.packs.profile.get r).hub (s.packs.profile.get r).flange m)
    (h : windowFits m (k.rq / 256) = true ∨ k.rejectRun = 2) :
    WindowEnds r
        (({ k with winDir := some (reelEdgeDir r winding), wAcc := 0, lAcc := 0 } : Pack).stored (s.packs.profile.get r)
          s.packs.tape.kj kept) s (reelTachEdge r winding s) ∧
      (reelTachEdge r winding s).planner = { s.planner with torque := torqueLimits (reelTachEdge r winding s) } := by
  rw [reelTachEdge_judges hk htr ha hw hm]
  exact (judgeWindow_accepts (by rwa [windowClosed_packs]) (by simpa [windowClosed_packs] using h)).of_closed

theorem reelTachEdge_rejects (hno : windowFits m (k.rq / 256) = false) (h2 : k.rejectRun ≠ 2) :
    WindowEnds r
        { k with winDir := some (reelEdgeDir r winding), wAcc := 0, lAcc := 0, rejectRun := k.rejectRun + 1 } s
        (reelTachEdge r winding s) ∧
      (reelTachEdge r winding s).planner = s.planner := by
  rw [reelTachEdge_judges hk htr ha hw hm, judgeWindow_rejects hno, windowClosed_packs, PerReel.get_set_same, if_neg h2]
  exact windowRejected_closed

end

section
variable {r : Reel} {m kept : Nat} {s : State}

/-! ## The first window of a PROBE record (R33, R89) -/

/-- The state with a PROBE record's first radius, before the planner counts the probe complete. -/
def probeStored (r : Reel) (m : Nat) (s : State) : State := recomputeLimits (acceptRadius r m s)

theorem acceptProbe_eq (r : Reel) (m : Nat) (s : State) : acceptProbe r m s = probeCounted (probeStored r m s) := rfl

theorem probeStored_stores (hkept : kept = clampNat (s.packs.profile.get r).hub (s.packs.profile.get r).flange m) :
    RadiusStored r kept s (probeStored r m s) := by
  refine ⟨((acceptRadius_onlyChanges r m s).append (recomputeLimits_onlyChanges _)).mono (by simp), ?_, ?_⟩
  · simp [probeStored, acceptRadius_packs hkept]
  · rw [probeStored, recomputeLimits_planner]
    simp

/-- The completion of a load captures A0 and leaves both records. -/
theorem completeLoad_packs (s : State) : (completeLoad s).packs = { s.packs with a0 := some (packArea s.packs) } := by
  simp [completeLoad]

/-- R89: LOAD completes with the capstan started and a CONTROLLED stop. -/
theorem completeLoad_stops (s : State) :
    (completeLoad s).planner.mode = .stopping ∧ (completeLoad s).planner.stopInForce = some .controlled ∧
      (completeLoad s).planner.stopCause = some .complete := by
  simp [completeLoad, beginStopping_planner]

theorem completeLoad_lock (s : State) :
    (completeLoad s).capstan.lock = if s.capstan.lock = .off then .spinup else s.capstan.lock := by
  by_cases h : s.capstan.lock = .off <;> simp [completeLoad, startCapstan, Capstan.started, h]

theorem probeCounted_pack (s : State) : (probeCounted s).packs.pack = s.packs.pack := by
  unfold probeCounted
  split
  · rw [completeLoad_packs]
  · rfl

/-- With the other reel's record not TRACKING the load goes on. -/
theorem probeCounted_alone (h : ∃ r, (s.packs.pack.get r).status ≠ .tracking) : probeCounted s = s := by
  rw [probeCounted, if_neg]
  rintro ⟨-, -, hsupply, htakeup⟩
  obtain ⟨r, hr⟩ := h
  cases r
  · exact hr hsupply
  · exact hr htakeup

theorem exists_reel_ne (r : Reel) : ∃ r', r' ≠ r := by
  cases r
  · exact ⟨.takeup, by decide⟩
  · exact ⟨.supply, by decide⟩

theorem probeCounted_both (hm : s.planner.mode = .loading) (hsub : s.planner.sub = some .probeCreep)
    (h : ∀ r, (s.packs.pack.get r).status = .tracking) : probeCounted s = completeLoad s :=
  if_pos ⟨hm, hsub, h .supply, h .takeup⟩

end

/-! ## Reel edges as commands -/

/-- Settles O42: an UNKNOWN record, the prediction row, an edge against the window, one that counts, and the two windows. Every
clause is one of the edge's cases from the predicted record `k1`; the rows named for a threshold follow it. -/
theorem reelEdgesFillTheWindow : Obligations.ReelEdgesFillTheWindow := by
  intro r winding s s' q d k k1 n m kept hs hq hle hk hd hs' hn hk1
  change s' = reelSlotEdge r s at hs'
  rw [← reelEdgeDir_eq] at hd
  subst hs' hd hk
  rw [← Packs.predict_eq hq hle hn] at hk1
  have hpredicted := hk1.trans (Packs.predict_eq hq hle hn)
  obtain ⟨hst, hdir, hw, hl, hrun⟩ := Packs.predict_rest s.packs r winding (s.packs.pack.get r)
  rw [← hk1] at hst hdir hw hl hrun
  have hfills := windowFills_iff r winding s
  rw [exec_reelTachEdge hs]
  refine ⟨fun hu => ?unknown, fun htr => ?prediction, fun hu w hwd hne => ?against, fun hu hagree =>
    ⟨fun hlt => ?counts, ?tracking, ?probe⟩⟩
  case unknown =>
    have hquiet : ¬windowFills r winding s = true := fun h => (hfills.1 h).1 hu
    have hfew : ¬predictionFills r s = true := fun h => by simp [predictionFills_iff, hu] at h
    rw [reelTachEdge_unknown hu, exec_predictionCountFull hs, if_neg hfew]
    exact ⟨rfl, rfl, exec_windowRows_quiet hs r winding hquiet⟩
  case prediction =>
    rw [exec_predictionCountFull hs]
    simp only [predictionFills_iff, htr, true_and]
    split <;> rfl
  case against =>
    have hagrees (x : Pack) (hx : x.winDir = some w) : x.agrees (reelEdgeDir r winding) = false := by
      rw [← Bool.not_eq_true, Pack.agrees_iff]
      simp [hx, hne]
    have hquiet : ¬windowFills r winding s = true := fun h => by simpa [hagrees _ hwd] using (hfills.1 h).2.1
    rw [reelTachEdge_against hk1 (by rwa [hst]) (hagrees k1 (hdir.trans hwd))]
    exact ⟨rfl, exec_windowRows_quiet hs r winding hquiet⟩
  all_goals
    have hagrees : (s.packs.pack.get r).agrees (reelEdgeDir r winding) = true := (Pack.agrees_iff _ _).2 hagree
    have hagrees1 : k1.agrees (reelEdgeDir r winding) = true := by rwa [Pack.agrees_iff, hdir]
    have hlen := PackStatus.windowLen_eq hu
  case counts =>
    rw [← hlen] at hlt
    have hquiet : ¬windowFills r winding s = true := fun h => by have := (hfills.1 h).2.2; omega
    rw [reelTachEdge_counts hk1 (by rwa [hst]) hagrees1 (by rwa [hst, hw]), hw]
    exact ⟨rfl, exec_windowRows_quiet hs r winding hquiet⟩
  case tracking =>
    intro htr hfull hm hkept
    rw [if_pos htr] at hpredicted
    have hrq : k1.rq = n := by rw [hpredicted]
    have hfill : windowFills r winding s = true := hfills.2 ⟨hu, hagrees, by rw [htr, hfull]; rfl⟩
    rw [hq, ← clampNat_eq (hq ▸ hle)] at hkept
    rw [← hst] at htr
    rw [← hw] at hfull
    rw [← hl] at hm
    have hresync := resyncFalls_rejected hk1 htr hm hfill
    have haccepts := reelTachEdge_accepts hk1 htr hagrees1 hfull hm hkept
    have hrejects := reelTachEdge_rejects hk1 htr hagrees1 hfull hm
    rw [exec_packWindowComplete hs, if_pos hfill, exec_packResync hs, ← windowFits_iff, ← hrun, ← hrq]
    by_cases haccept : windowFits m (k1.rq / 256) = true ∨ k1.rejectRun = 2
    · obtain ⟨⟨hframe, htach, hprofile, htape, ha0, hother, hown⟩, hplanner⟩ := haccepts haccept
      refine ⟨_, rfl, rfl, hframe, htach, hprofile, htape, ha0, hother, fun _ => ⟨?_, hplanner⟩, fun hno =>
        ⟨fun h2 => ?_, fun h2 => absurd haccept (not_or.2 ⟨hno, h2⟩)⟩⟩
      · rw [hown, hq, Pack.stored, htr]
      · rw [if_pos (hresync.2 ⟨h2, Bool.not_eq_true _ ▸ hno⟩)]
    · obtain ⟨hno, h2⟩ := not_or.1 haccept
      obtain ⟨⟨hframe, htach, hprofile, htape, ha0, hother, hown⟩, hplanner⟩ := hrejects (Bool.not_eq_true _ ▸ hno) h2
      refine ⟨_, rfl, rfl, hframe, htach, hprofile, htape, ha0, hother, fun h => absurd h haccept, fun _ =>
        ⟨fun h => absurd h h2, fun _ => ⟨hown, hplanner, ?_⟩⟩⟩
      rw [if_neg fun h => h2 (hresync.1 h).1]
  case probe =>
    intro hpr hfull hm hkept
    rw [if_neg (by simp [hpr])] at hpredicted
    have hfill : windowFills r winding s = true := hfills.2 ⟨hu, hagrees, by rw [hpr, hfull]; rfl⟩
    have hmeas : measuredRadius k1.lAcc k1.status.windowLen = m := by rw [hst, hpr, hl, measuredRadius_probe, hm]
    have hedge := reelTachEdge_fills hk1 (by rwa [hst]) hagrees1 (by rw [hst, hw, hpr, hfull]; rfl)
    rw [if_pos (by rw [hst, hpr]), hmeas, acceptProbe_eq] at hedge
    rw [exec_packWindowComplete hs, if_pos hfill, hedge]
    rw [hq, ← clampNat_eq (hq ▸ hle)] at hkept
    have hclosed := (probeStored_stores (s := windowClosed r (reelEdgeDir r winding) k1 s) (m := m) (kept := kept)
      (by rwa [windowClosed_packs])).of_closed
    generalize probeStored r m (windowClosed r (reelEdgeDir r winding) k1 s) = u at *
    obtain ⟨⟨hframe, htach, -, -, -, hother, hown⟩, hplanner⟩ := hclosed
    refine ⟨_, rfl, rfl, ?_, ?_, ?_, fun hnone => ?alone, fun hall hloading hsub => ?both⟩
    · rw [← htach]
      simp
    · rw [probeCounted_pack, hown, hq, Pack.stored, hpredicted]
    · rw [probeCounted_pack]
      exact hother
    case alone =>
      obtain ⟨r', hr'⟩ := exists_reel_ne r
      rw [probeCounted_alone ⟨r', by rw [hother r' hr']; exact hnone r' hr'⟩]
      exact ⟨hframe, hplanner⟩
    case both =>
      have htracking (r' : Reel) : (u.packs.pack.get r').status = .tracking := by
        by_cases hr' : r' = r
        · rw [hr', hown]
          rfl
        · rw [hother r' hr']
          exact hall r' hr'
      have hcapstan : u.capstan = s.capstan := (hframe .capstan).resolve_left (by decide)
      obtain ⟨hmode, hstop, hcause⟩ := completeLoad_stops u
      rw [probeCounted_both (by rw [hplanner]; exact hloading) (by rw [hplanner]; exact hsub) htracking]
      refine ⟨?_, hmode, hstop, hcause, ?_⟩
      · rw [completeLoad_packs]
        rfl
      · rw [completeLoad_lock, hcapstan]

end Sys2Proof.Machine

namespace Sys2Proof.Machine

/-! ## What stops leave of the zone, the cues and the profiles (R98, R117, R126) -/

/-- Publishing a stop cause writes the two pending records alone. -/
@[simp] theorem publishStopCause_tables (cause : StopCause) (s : State) :
    (publishStopCause cause s).zones.index = s.zones.index ∧ (publishStopCause cause s).cues.list = s.cues.list := by
  simp [publishStopCause]

@[simp] theorem beginStopping_tables (sev : Severity) (cause : StopCause) (s : State) :
    (beginStopping sev cause s).zones.index = s.zones.index ∧ (beginStopping sev cause s).cues.list = s.cues.list := by
  simp [beginStopping]

@[simp] theorem enterBraking_tables (cause : StopCause) (s : State) :
    (enterBraking cause s).zones.index = s.zones.index ∧ (enterBraking cause s).cues.list = s.cues.list := by
  simp [enterBraking]

@[simp] theorem failLoad_profile (cause : ModeCause) (s : State) : (failLoad cause s).packs.profile = s.packs.profile := by
  simp [failLoad]

/-- No stop demand writes the current zone, the cues or the reel profiles. -/
@[simp] theorem stopDemand_tables (sev : Severity) (cause : StopCause) (s : State) :
    (stopDemand sev cause s).zones.index = s.zones.index ∧ (stopDemand sev cause s).cues.list = s.cues.list ∧
      (stopDemand sev cause s).packs.profile = s.packs.profile := by
  rcases stopDemand_cases sev cause s with ⟨h, -⟩ | ⟨-, h⟩ | ⟨-, h⟩ | ⟨-, -, h⟩ | ⟨-, -, h⟩ | ⟨-, -, h⟩ <;> rw [h] <;> simp

@[simp] theorem restOrStop_tables (cause : StopCause) (s : State) :
    (restOrStop cause s).zones.index = s.zones.index ∧ (restOrStop cause s).cues.list = s.cues.list ∧
      (restOrStop cause s).packs.profile = s.packs.profile := by
  rcases restOrStop_cases cause s with ⟨-, h⟩ | ⟨-, h⟩ <;> rw [h] <;> simp

@[simp] theorem zoneDirectionRule_tables (s : State) :
    (zoneDirectionRule s).zones.index = s.zones.index ∧ (zoneDirectionRule s).cues.list = s.cues.list ∧
      (zoneDirectionRule s).packs.profile = s.packs.profile := by
  unfold zoneDirectionRule
  split
  · simp
  · split <;> simp

@[simp] theorem loadDistance_profile (s : State) : (loadDistance s).packs.profile = s.packs.profile := by
  unfold loadDistance
  split <;> simp

@[simp] theorem surveyRange_tables (s : State) :
    (surveyRange s).zones.index = s.zones.index ∧ (surveyRange s).cues.list = s.cues.list ∧
      (surveyRange s).packs.profile = s.packs.profile := by
  unfold surveyRange
  split
  · split <;> simp [surveyOwnEnd]
  · simp

/-! ## Stops of a tape that is not being loaded -/

/-- Outside LOADING a CONTROLLED or FAST stop demand leaves the packs, and leads into no load. -/
theorem stopDemand_notLoading {sev : Severity} {s : State} (cause : StopCause) (hm : s.planner.mode ≠ .loading) (hb : sev ≠ .brake) :
    (stopDemand sev cause s).packs = s.packs ∧ (stopDemand sev cause s).planner.mode ≠ .loading := by
  rcases stopDemand_cases sev cause s with ⟨h, -⟩ | ⟨hl, -⟩ | ⟨hsev, -⟩ | ⟨hsev, -⟩ | ⟨-, -, h⟩ | ⟨-, -, h⟩
  · rw [h]; exact ⟨rfl, hm⟩
  · exact absurd hl hm
  · exact absurd hsev hb
  · exact absurd hsev hb
  · rw [h]; simp [beginStopping_planner]
  · rw [h]; simp [hm]

/-- In PLAY and WIND, which no unit owns, such a stop demand leaves the monitor and the survey too. -/
theorem stopDemand_unowned {sev : Severity} {s : State} (cause : StopCause) (hm : s.planner.mode = .play ∨ s.planner.mode = .wind)
    (hb : sev ≠ .brake) : (stopDemand sev cause s).monitor = s.monitor ∧ (stopDemand sev cause s).survey = s.survey := by
  have hunit : endUnit cause s = s := by rcases hm with hm | hm <;> simp [endUnit, hm]
  rcases stopDemand_cases sev cause s with ⟨h, -⟩ | ⟨hl, -⟩ | ⟨hsev, -⟩ | ⟨hsev, -⟩ | ⟨-, -, h⟩ | ⟨-, -, h⟩
  · rw [h]; exact ⟨rfl, rfl⟩
  · rcases hm with hm | hm <;> rw [hm] at hl <;> cases hl
  · exact absurd hsev hb
  · exact absurd hsev hb
  · rw [h, hunit]; simp
  · rw [h]; simp

theorem zoneDirectionRule_notLoading {s : State} (hm : s.planner.mode ≠ .loading) :
    (zoneDirectionRule s).packs = s.packs ∧ (zoneDirectionRule s).planner.mode ≠ .loading := by
  unfold zoneDirectionRule
  split
  · exact ⟨rfl, hm⟩
  · split
    · exact stopDemand_notLoading .zone hm (by decide)
    · exact ⟨rfl, hm⟩

theorem zoneDirectionRule_unowned {s : State} (hm : s.planner.mode = .play ∨ s.planner.mode = .wind) :
    (zoneDirectionRule s).monitor = s.monitor ∧ (zoneDirectionRule s).survey = s.survey := by
  unfold zoneDirectionRule
  split
  · exact ⟨rfl, rfl⟩
  · split
    · exact stopDemand_unowned .zone hm (by decide)
    · exact ⟨rfl, rfl⟩

/-- R108: in a zone that allows the heading nothing stops. -/
theorem zoneDirectionRule_allowed {s : State} (h : ∀ d, s.planner.heading = some d → s.zones.current.dirs.allows d = true) :
    zoneDirectionRule s = s := by
  unfold zoneDirectionRule
  split
  · rfl
  · rw [if_neg]
    simp [h _ (by assumption)]

theorem ZoneDirs.allows_both {x : ZoneDirs} (h : x = .both) (d : Dir) : x.allows d = true := by rw [h]; cases d <;> rfl

theorem loadDistance_notLoading {s : State} (hm : s.planner.mode ≠ .loading) : loadDistance s = s :=
  if_neg fun h => hm h.1

theorem surveyRange_notRunning {s : State} (h : s.survey.state ≠ .running) : surveyRange s = s := by
  unfold surveyRange
  split
  · exact if_neg fun hr => h hr.1
  · rfl

/-- The end of a survey at its range leaves the packs. -/
theorem surveyRange_packs {s : State} (hm : s.planner.mode ≠ .loading) : (surveyRange s).packs = s.packs := by
  unfold surveyRange
  split
  · split
    · have hmode : (endSurvey .rangeEnd none .range s).planner.mode = s.planner.mode := by unfold endSurvey; split <;> simp
      rw [surveyOwnEnd]
      rcases restOrStop_cases .survey (endSurvey .rangeEnd none .range s) with ⟨-, h⟩ | ⟨-, h⟩ <;> rw [h]
      · simp
      · rw [(stopDemand_notLoading .survey (by rwa [hmode]) (by decide)).1]
        simp
    · rfl
  · rfl

/-! ## Counting one occurrence (R164, R167) -/

theorem Four.get_zip {α β γ : Type} (x : Four α) (y : Four β) (f : α → β → γ) (n : Nat) :
    (x.zip y f).get n = f (x.get n) (y.get n) := by
  match n with
  | 0 | 1 | 2 | _ + 3 => rfl

theorem Four.get_map {α β : Type} (x : Four α) (f : α → β) (n : Nat) : (x.map f).get n = f (x.get n) := by
  match n with
  | 0 | 1 | 2 | _ + 3 => rfl

/-- An event counts one in each enabled counter that selects it and whose qualifier admits its source. -/
theorem monitorEvent_counts (ev : MonEvent) (source : EventSource) (s : State) :
    CountsWhere (·.admits source) ev s (monitorEvent ev source s) := by
  rcases addCounts_cases
      (s.monitor.counters.map fun c => if c.enable && c.event == ev && c.qualifier.admits source then 1 else 0) s with
    ⟨hfrozen, h⟩ | ⟨hfrozen, h, -⟩
  · exact ⟨fun _ => by rw [monitorEvent, h], fun hno => by simp [hfrozen] at hno⟩
  · refine ⟨fun hyes => by simp [hfrozen] at hyes, fun _ n _ => ?_⟩
    rw [monitorEvent, h, Four.get_zip, Four.get_map]
    generalize s.monitor.counters.get n = c
    by_cases hsel : c.enable = true ∧ c.event = ev ∧ c.qualifier.admits source = true
    · simp [hsel, Counter.add]
    · rw [if_neg hsel, if_neg (by simpa [and_assoc] using hsel)]
      rfl

theorem CountsWhere.of_monitor {admits : Qualifier → Bool} {ev : MonEvent} {s s' t t' : State} (h : CountsWhere admits ev s' t')
    (hs : s'.monitor = s.monitor) (ht : t.monitor = t'.monitor) : CountsWhere admits ev s t := by
  unfold CountsWhere at *
  rwa [ht, ← hs]

/-- R114: the entry into another zone is counted once. -/
theorem rezonePosition_counts {s : State} (dir : Option Dir) (h : zoneAt s.zones s.tach.position ≠ s.zones.index) :
    CountsOnce .zoneEntries s (rezonePosition dir s) := by
  refine (monitorEvent_counts .zoneEntries .whole
    (refreshInhibit (s.onZones fun z => { z with index := zoneAt s.zones s.tach.position }))).of_monitor (by simp) ?_
  simp [rezonePosition, h]

/-- R114, R118: RECORD_INHIBIT in PLAY is that of the zone entered. -/
theorem rezonePosition_inhibit {s : State} (dir : Option Dir) (hm : s.planner.mode = .play)
    (h : zoneAt s.zones s.tach.position ≠ s.zones.index) :
    (rezonePosition dir s).lines.recordInhibit = (attrsAt s.zones s.tach.position).inhibit := by
  simp [rezonePosition, h, refreshInhibit, inhibitLevel, hm, Zones.current, attrsAt, attrsOf]

end Sys2Proof.Machine

namespace Sys2Proof.Machine

/-! ## Cues reached by one roller edge (R18, R123) -/

/-- The position one edge on from x0, where x0 is a signed 32-bit count. -/
def edgeFrom (d : Dir) (x0 : Int) : Int :=
  match d with
  | .forward => if x0 = 2147483647 then -2147483648 else x0 + 1
  | .reverse => if x0 = -2147483648 then 2147483647 else x0 - 1

theorem wrapS32_edge {d : Dir} {x0 : Int} (hlow : -2147483648 ≤ x0) (hhigh : x0 ≤ 2147483647) :
    wrapS32 (x0 + signedBy d 1) = edgeFrom d x0 := by
  cases d <;> simp only [wrapS32, signedBy, edgeFrom] <;> split <;> omega

/-- An edge passes no position but the one it leads to, and at a wrap none. -/
theorem mem_cuesReached_edge {d : Dir} {x0 : Int} {l : List Cue} {c : Cue} (h : c ∈ cuesReached d x0 (edgeFrom d x0) l) :
    c ∈ l ∧ c.position = edgeFrom d x0 := by
  cases d with
  | forward =>
    simp only [cuesReached, List.mem_filter, Bool.and_eq_true, decide_eq_true_eq] at h
    obtain ⟨hc, hlow, hhigh⟩ := h
    refine ⟨hc, ?_⟩
    simp only [edgeFrom] at hlow hhigh ⊢
    omega
  | reverse =>
    simp only [cuesReached, List.mem_reverse, List.mem_filter, Bool.and_eq_true, decide_eq_true_eq] at h
    obtain ⟨hc, hlow, hhigh⟩ := h
    refine ⟨hc, ?_⟩
    simp only [edgeFrom] at hlow hhigh ⊢
    omega

theorem cuesReached_edge_none {d : Dir} {x0 : Int} {l : List Cue} (h : ∀ c ∈ l, c.position ≠ edgeFrom d x0) :
    cuesReached d x0 (edgeFrom d x0) l = [] :=
  List.eq_nil_iff_forall_not_mem.2 fun c hc => h c (mem_cuesReached_edge hc).1 (mem_cuesReached_edge hc).2

/-- The one cue at the position that an edge leads to is reached; cues stand far from the wrap. -/
theorem cuesReached_edge_one {d : Dir} {x0 : Int} {before after : List Cue} {c : Cue}
    (hother : ∀ x ∈ before ++ after, x.position ≠ edgeFrom d x0) (hc : c.position = edgeFrom d x0)
    (hfar : mag (edgeFrom d x0) ≤ 1000000000) :
    cuesReached d x0 (edgeFrom d x0) (before ++ c :: after) = [c] := by
  have hbefore := cuesReached_edge_none (l := before) fun x hx => hother x (List.mem_append_left _ hx)
  have hafter := cuesReached_edge_none (l := after) fun x hx => hother x (List.mem_append_right _ hx)
  cases d with
  | forward =>
    have hpass : x0 < c.position ∧ c.position ≤ edgeFrom .forward x0 := by
      unfold mag edgeFrom at *; dsimp only at *; split at hc <;> simp_all
    simp only [cuesReached] at hbefore hafter ⊢
    rw [List.filter_append, List.filter_cons_of_pos (by simpa using hpass), hbefore, hafter]
    rfl
  | reverse =>
    have hpass : edgeFrom .reverse x0 ≤ c.position ∧ c.position < x0 := by
      unfold mag edgeFrom at *; dsimp only at *; split at hc <;> simp_all
    simp only [cuesReached, List.reverse_eq_nil_iff] at hbefore hafter ⊢
    rw [List.filter_append, List.filter_cons_of_pos (by simpa using hpass), hbefore, hafter]
    rfl

/-! ## What a reached cue does (R123, R105) -/

theorem State.onCues_same {s : State} {f : Cues → Cues} (h : f s.cues = s.cues) : s.onCues f = s := by
  simp [State.onCues, h]

/-- The planner but for the cap of a reached AUTO_STOP cue. -/
def Planner.uncapped (p : Planner) : Planner := { p with autoStopCap := false }

theorem Planner.eq_of_uncapped {p q : Planner} (h : p.uncapped = q.uncapped) :
    p.mode = q.mode ∧ p.heading = q.heading ∧ p.stopInForce = q.stopInForce := by
  have hmode := congrArg Planner.mode h
  have hheading := congrArg Planner.heading h
  have hstop := congrArg Planner.stopInForce h
  exact ⟨hmode, hheading, hstop⟩

/-- A cue reached by the roller is announced and remembered. -/
def cuePassed (d : Dir) (c : Cue) (s : State) : State :=
  (postNotice (.cuePassed c.id c.position c.kind d s.planner.mode (c.mark == .missed) c.label) s).onCues fun q =>
    { q with lastReached := some c.id }

section
variable {d : Dir} {c : Cue} {s : State}

theorem reachCue_edge (h : s.cues.lastReached ≠ some c.id) :
    reachCue false d c s = if windDropPoint s d c = true then capWind c (cuePassed d c s) else cuePassed d c s := by
  rw [reachCue, if_neg h]
  simp [cuePassed]

@[simp] theorem cuePassed_cues : (cuePassed d c s).cues = { s.cues with lastReached := some c.id } := by simp [cuePassed]

@[simp] theorem cuePassed_planner : (cuePassed d c s).planner = s.planner := by simp [cuePassed]

@[simp] theorem capWind_planner : (capWind c s).planner = { s.planner with autoStopCap := true } := rfl

@[simp] theorem capWind_cues :
    (capWind c s).cues =
      { s.cues with
        pendingStop := some (s.cues.pendingStop.getD { id := c.id, position := c.position, label := c.label }) } := rfl

theorem windDropPoint_iff :
    windDropPoint s d c = true ↔
      s.planner.mode = .wind ∧ (c.kind = .autoStop ∧ c.id ∉ s.planner.missed) ∧ (c.id, c.position) ∈ s.planner.inForce ∧
        s.planner.travel = some d := by
  simp [windDropPoint, stopCueLive, cueInForce, Cue.key, and_assoc]

/-- Of the cues, a cue that the roller reaches leaves the list. -/
theorem reachCue_edge_list (d : Dir) (c : Cue) (s : State) : (reachCue false d c s).cues.list = s.cues.list := by
  by_cases h : s.cues.lastReached = some c.id
  · rw [reachCue, if_pos h]
  · rw [reachCue_edge h]
    split <;> simp

/-- Of the planner, a cue that the roller reaches writes the cap alone. -/
theorem reachCue_edge_planner (d : Dir) (c : Cue) (s : State) :
    (reachCue false d c s).planner.uncapped = s.planner.uncapped := by
  by_cases h : s.cues.lastReached = some c.id
  · rw [reachCue, if_pos h]
  · rw [reachCue_edge h]
    split <;> simp [Planner.uncapped]

theorem reachCues_edge_list (d : Dir) (x0 : Int) (s : State) : (reachCues false d x0 s).cues.list = s.cues.list := by
  unfold reachCues
  rw [State.onCues_cues]
  split <;> exact foldl_keeps (fun t => t.cues.list) _ (fun t c => reachCue_edge_list d c t) _ _

/-- Of the planner, the cues that the roller reaches write the cap alone. -/
theorem reachCues_edge_planner (d : Dir) (x0 : Int) (s : State) :
    (reachCues false d x0 s).planner.uncapped = s.planner.uncapped :=
  foldl_keeps (fun t => t.planner.uncapped) _ (fun t c => reachCue_edge_planner d c t) _ _

theorem reachCues_onlyChanges (d : Dir) (x0 : Int) (s : State) :
    OnlyChanges [.cues, .planner, .link] s (reachCues false d x0 s) := by
  intro b; cases b <;> simp [sameBlock]

/-- With no cue on the way only the last-reached memory can be emptied. -/
theorem reachCues_none {x0 : Int} (h : cuesReached d x0 s.tach.position s.cues.list = []) :
    OnlyChanges [.cues] s (reachCues false d x0 s) ∧ (reachCues false d x0 s).cues.pendingStop = s.cues.pendingStop := by
  rw [reachCues, h]
  refine ⟨s.onCues_onlyChanges _, ?_⟩
  simp only [List.foldl_nil, State.onCues_cues]
  split <;> rfl

/-- A cue that stands at the new position, and is not the one remembered, is the one reaching, and it is remembered. -/
theorem reachCues_one {x0 : Int} (h : cuesReached d x0 s.tach.position s.cues.list = [c]) (hc : c ∈ s.cues.list)
    (hpos : c.position = s.tach.position) (hlast : s.cues.lastReached ≠ some c.id) :
    reachCues false d x0 s = if windDropPoint s d c = true then capWind c (cuePassed d c s) else cuePassed d c s := by
  have hlist : (reachCue false d c s).cues.list = s.cues.list := reachCue_edge_list d c s
  have hmem : (reachCue false d c s).cues.lastReached = some c.id := by
    rw [reachCue_edge hlast]
    split <;> simp
  have hremembers : (reachCue false d c s).cues.remembers s.tach.position = true := by
    rw [Cues.remembers, hmem, hlist]
    exact List.any_eq_true.2 ⟨c, hc, by simp [hpos, mag]⟩
  rw [← reachCue_edge hlast, reachCues, h]
  exact State.onCues_same (by simp [hremembers])

end

/-! ## A roller edge while the part runs (R18, R22, R31) -/

/-- The edge in the Position and Tach Unit and in the windows of both records. -/
def edgeTaken (d : Dir) (s : State) : State :=
  packRollerEdge d
    ((countEdge d s).onTach fun x => { x with rollerNet := x.rollerNet + signedBy d 1, rollerEdges := x.rollerEdges + 1 })

/-- The state when the zone has been re-evaluated and the cues have been reached: what the stops are judged on. -/
def edgeReached (d : Dir) (s : State) : State := reachCues false d s.tach.position (rezonePosition (some d) (edgeTaken d s))

theorem rollerEdge_eq (d : Dir) (s : State) :
    rollerEdge d s = surveyRange (loadDistance (zoneDirectionRule (edgeReached d s))) := rfl

section
variable {d : Dir} {s : State}

theorem edgeTaken_onlyChanges : OnlyChanges [.tach, .packs] s (edgeTaken d s) := by
  intro b; cases b <;> simp [sameBlock, edgeTaken]

theorem edgeTaken_pack (r : Reel) : (edgeTaken d s).packs.pack.get r = (s.packs.pack.get r).rollerEdge d := by
  simp [edgeTaken, packRollerEdge]

/-- The position after the edge, for the records and the tables. -/
theorem edgeTaken_tach (hlow : -2147483648 ≤ s.tach.position) (hhigh : s.tach.position ≤ 2147483647) :
    (edgeTaken d s).tach =
      { s.tach with
        position := edgeFrom d s.tach.position, rollerNet := s.tach.rollerNet + (if d = .forward then 1 else -1)
        rollerEdges := s.tach.rollerEdges + 1 } := by
  rw [← wrapS32_edge hlow hhigh]
  cases d <;> rfl

/-- The records, the profiles and the tape are written by the edge alone, the cues' list by nothing of it. -/
theorem edgeReached_keeps :
    (edgeReached d s).tach = (edgeTaken d s).tach ∧ (edgeReached d s).packs = (edgeTaken d s).packs ∧
      (edgeReached d s).cues.list = s.cues.list ∧ (edgeReached d s).survey = s.survey ∧
      (edgeReached d s).planner.mode = s.planner.mode ∧ (edgeReached d s).planner.heading = s.planner.heading ∧
      (edgeReached d s).planner.stopInForce = s.planner.stopInForce := by
  refine ⟨by simp [edgeReached], by simp [edgeReached], ?_, ?_, ?_⟩
  · rw [edgeReached, reachCues_edge_list]; simp [edgeTaken]
  · simp [edgeReached, edgeTaken]
  · have htaken : (rezonePosition (some d) (edgeTaken d s)).planner = s.planner := by simp [edgeTaken]
    rw [← htaken]
    exact Planner.eq_of_uncapped (reachCues_edge_planner _ _ _)

theorem edgeReached_zones :
    (edgeReached d s).zones = { s.zones with index := zoneAt s.zones (edgeTaken d s).tach.position } := by
  have hzones : (edgeTaken d s).zones = s.zones := by simp [edgeTaken]
  simp [edgeReached, rezonePosition_zones, hzones]

/-- In PLAY and WIND the stops that the edge brings leave the records. -/
theorem rollerEdge_packs (hm : s.planner.mode ≠ .loading) : (rollerEdge d s).packs = (edgeTaken d s).packs := by
  obtain ⟨-, hpacks, -, -, hmode, -⟩ := edgeReached_keeps (d := d) (s := s)
  obtain ⟨hstop, hmode'⟩ := zoneDirectionRule_notLoading (s := edgeReached d s) (by rwa [hmode])
  rw [rollerEdge_eq, loadDistance_notLoading hmode', surveyRange_packs hmode', hstop, hpacks]

/-- In PLAY and WIND, with no survey RUNNING, of the checks after the cues only the zone direction rule acts. -/
theorem rollerEdge_unowned (hm : s.planner.mode = .play ∨ s.planner.mode = .wind) (hs : s.survey.state ≠ .running) :
    rollerEdge d s = zoneDirectionRule (edgeReached d s) := by
  obtain ⟨-, -, -, hsurvey, hmode, -⟩ := edgeReached_keeps (d := d) (s := s)
  have hnot : s.planner.mode ≠ .loading := by rcases hm with hm | hm <;> simp [hm]
  rw [rollerEdge_eq, loadDistance_notLoading (zoneDirectionRule_notLoading (by rwa [hmode])).2, surveyRange_notRunning]
  rwa [(zoneDirectionRule_unowned (by rwa [hmode])).2, hsurvey]

end

end Sys2Proof.Machine

namespace Sys2Proof.Machine

/-! ## The window of a record at a roller edge (R31) -/

section
variable {k : Pack} {d : Dir}

theorem Pack.rollerEdge_unknown (h : k.status = .unknown) : k.rollerEdge d = k := if_pos h

theorem Pack.rollerEdge_counts (hu : k.status ≠ .unknown) (ha : k.winDir = none ∨ k.winDir = some d) :
    k.rollerEdge d = { k with winDir := some d, lAcc := min 16777215 (k.lAcc + 1) } := by
  rw [Pack.rollerEdge, if_neg hu, if_pos ((k.agrees_iff d).2 ha)]

theorem Pack.rollerEdge_against {w : Dir} (hu : k.status ≠ .unknown) (hw : k.winDir = some w) (hne : w ≠ d) :
    k.rollerEdge d = { k with winDir := some d, wAcc := 0, lAcc := 0 } := by
  rw [Pack.rollerEdge, if_neg hu, if_neg (by rw [Pack.agrees_iff]; simp [hw, hne])]
  rfl

end

/-! ## A zone that forbids the direction of a PLAY (R98, R108, R117, R118) -/

section
variable {s : State}

/-- R98: in a PLAY with no stop in force a zone that forbids the heading stops the tape. -/
theorem zoneDirectionRule_play {d : Dir} (hm : s.planner.mode = .play) (hs : s.planner.stopInForce = none)
    (hd : s.planner.heading = some d) (hforbid : s.zones.current.dirs.allows d = false) :
    zoneDirectionRule s = beginStopping .controlled .zone s := by
  rw [zoneDirectionRule, hd]
  simp [Planner.moving, stopDemand, endUnit, hm, hs, hforbid]

/-- Outside PLAY and a locked chase recording is inhibited. -/
theorem beginStopping_inhibit (sev : Severity) (cause : StopCause) (hm : s.planner.mode ≠ .stopping) :
    (beginStopping sev cause s).lines.recordInhibit = true := by
  simp [beginStopping, setMode, hm, openPinch, refreshInhibit, inhibitLevel]

/-- R117: a stop with cause ZONE in a zone that forbids the heading names that zone. -/
theorem beginStopping_block (sev : Severity) {d : Dir} (hd : s.planner.heading = some d)
    (hforbid : s.zones.current.dirs.allows d = false) :
    (beginStopping sev .zone s).zones.pendingBlock = some (s.zones.index, d) := by
  have hblock : (beginStopping sev .zone s).zones.pendingBlock = blockingZone s := by simp [beginStopping, publishStopCause]; rfl
  simp [hblock, blockingZone, hd, hforbid]

end

/-! ## The parts of a roller edge in PLAY and WIND -/

section
variable {d : Dir} {s : State}

theorem edgeTaken_zones : (edgeTaken d s).zones = s.zones := by simp [edgeTaken]

theorem edgeTaken_position (hlow : -2147483648 ≤ s.tach.position) (hhigh : s.tach.position ≤ 2147483647) :
    (edgeTaken d s).tach.position = edgeFrom d s.tach.position := by
  rw [edgeTaken_tach hlow hhigh]

variable (hm : s.planner.mode = .play ∨ s.planner.mode = .wind) (hsurvey : s.survey.state ≠ .running)
include hm

theorem rollerEdge_record (r : Reel) : (rollerEdge d s).packs.pack.get r = (s.packs.pack.get r).rollerEdge d := by
  rw [rollerEdge_packs (by rcases hm with hm | hm <;> simp [hm]), edgeTaken_pack]

include hsurvey

/-- Of the monitor an edge acts on ZONE_ENTRIES alone. -/
theorem rollerEdge_monitor : (rollerEdge d s).monitor = (rezonePosition (some d) (edgeTaken d s)).monitor := by
  obtain ⟨-, -, -, -, hmode, -⟩ := edgeReached_keeps (d := d) (s := s)
  rw [rollerEdge_unowned hm hsurvey, (zoneDirectionRule_unowned (by rwa [hmode])).1, edgeReached]
  simp

/-- Inside a zone that allows both directions an edge reaches cues and nothing else. -/
theorem rollerEdge_inZone (hboth : s.zones.current.dirs = .both)
    (hzone : zoneAt s.zones (edgeTaken d s).tach.position = s.zones.index) :
    rollerEdge d s = reachCues false d s.tach.position (edgeTaken d s) := by
  have hsame : rezonePosition (some d) (edgeTaken d s) = edgeTaken d s := rezonePosition_same (by rwa [edgeTaken_zones])
  have hzones : (edgeReached d s).zones = s.zones := by rw [edgeReached_zones, hzone]
  rw [rollerEdge_unowned hm hsurvey, zoneDirectionRule_allowed, edgeReached, hsame]
  rw [hzones]
  exact fun e _ => ZoneDirs.allows_both hboth e

end

section
variable {d : Dir} {s : State} {before after : List Cue} {c : Cue}
  (hlow : -2147483648 ≤ s.tach.position) (hhigh : s.tach.position ≤ 2147483647)
include hlow hhigh

/-- With no cue at the new position the edge reaches none. -/
theorem reachCues_edge_none {u : State} (hu : u.tach = (edgeTaken d s).tach) (hlist : u.cues.list = s.cues.list)
    (h : ∀ c ∈ s.cues.list, c.position ≠ edgeFrom d s.tach.position) :
    OnlyChanges [.cues] u (reachCues false d s.tach.position u) ∧
      (reachCues false d s.tach.position u).cues.pendingStop = u.cues.pendingStop := by
  refine reachCues_none ?_
  rw [hu, edgeTaken_position hlow hhigh, hlist]
  exact cuesReached_edge_none h

/-- A cue alone at the new position is reached, and caps a WIND whose drop point it is. -/
theorem reachCues_edge_one (hlist : s.cues.list = before ++ c :: after)
    (hother : ∀ x ∈ before ++ after, x.position ≠ edgeFrom d s.tach.position) (hc : c.position = edgeFrom d s.tach.position)
    (hfar : mag (edgeFrom d s.tach.position) ≤ 1000000000) (hlast : s.cues.lastReached ≠ some c.id) :
    reachCues false d s.tach.position (edgeTaken d s) =
      if windDropPoint s d c = true then capWind c (cuePassed d c (edgeTaken d s)) else cuePassed d c (edgeTaken d s) := by
  have hcues : (edgeTaken d s).cues = s.cues := (edgeTaken_onlyChanges .cues).resolve_left (by decide)
  have hdrop : windDropPoint (edgeTaken d s) d c = windDropPoint s d c := by simp [windDropPoint, edgeTaken]
  rw [← hdrop]
  refine reachCues_one ?_ (by simp [hcues, hlist]) (by rw [edgeTaken_position hlow hhigh, hc]) (by rwa [hcues])
  rw [edgeTaken_position hlow hhigh, hcues, hlist]
  exact cuesReached_edge_one hother hc hfar

end

theorem exec_rollerEdge_held {s : State} {d : Dir} (h : s.held ≠ none) : exec (.rollerEdge d) s = .next (countEdge d s) := by
  show Host.Outcome.next (if s.held.isSome = true then countEdge d s else rollerEdge d s) = _
  rw [if_pos (Option.isSome_iff_ne_none.2 h)]

theorem exec_rollerEdge_running {s : State} {d : Dir} (h : s.held = none) : exec (.rollerEdge d) s = .next (rollerEdge d s) := by
  show Host.Outcome.next (if s.held.isSome = true then countEdge d s else rollerEdge d s) = _
  rw [if_neg (by simp [h])]

/-- Settles O41: the count alone while the part is held; and while it runs the windows, the monitor, the cues inside a zone and the
entry into another, each from its part of the edge above. -/
theorem rollerEdgesCountPosition : Obligations.RollerEdgesCountPosition := by
  intro d s x0 x1 hx0 hlow hhigh hx1
  have hedge : x1 = edgeFrom d x0 := by rw [hx1]; cases d <;> rfl
  subst hx0
  clear hx1
  subst hedge
  have hpos := edgeTaken_position (d := d) hlow hhigh
  refine ⟨fun hheld => ?held, fun hheld => ⟨_, exec_rollerEdge_running hheld, ?tach, ?zone, ?ids, ?sense, ?profile, fun hm =>
    ⟨fun r k hk => ?records, fun hsurvey => ⟨fun hzone => ?uncounted, fun hzone => ?counted⟩, fun hboth hzone hsurvey =>
      ⟨fun hnone => ?noCue, fun before c after hlist hother hc hfar hlast => ?oneCue⟩,
      fun hplay hnone hsurvey hzone hheading => ⟨fun hallow => ?allowed, fun hforbid hstop => ?forbidden⟩⟩⟩⟩
  case held =>
    rw [exec_rollerEdge_held hheld, countEdge, State.onTach, State.onTach, wrapS32_edge hlow hhigh]
  case tach =>
    rw [← edgeTaken_tach hlow hhigh, rollerEdge_eq]
    simpa using edgeReached_keeps.1
  case zone =>
    rw [rollerEdge_eq, ← hpos]
    simp [edgeReached_zones]
  case ids =>
    rw [rollerEdge_eq]
    simp [edgeReached_keeps.2.2.1]
  case sense => simp
  case profile =>
    rw [rollerEdge_eq]
    simp [edgeReached_keeps.2.1, edgeTaken, packRollerEdge]
  case records =>
    rw [rollerEdge_record hm, ← hk]
    exact ⟨Pack.rollerEdge_unknown, Pack.rollerEdge_counts, fun hu w => Pack.rollerEdge_against hu⟩
  case uncounted =>
    rw [rollerEdge_monitor hm hsurvey, rezonePosition_same (by rwa [edgeTaken_zones, hpos])]
    simp [edgeTaken]
  case counted =>
    have hnew : zoneAt (edgeTaken d s).zones (edgeTaken d s).tach.position ≠ (edgeTaken d s).zones.index := by
      rwa [edgeTaken_zones, hpos]
    exact (rezonePosition_counts (some d) hnew).of_monitor (by simp [edgeTaken]) (rollerEdge_monitor hm hsurvey)
  case noCue =>
    have hcues : (edgeTaken d s).cues = s.cues := (edgeTaken_onlyChanges .cues).resolve_left (by decide)
    obtain ⟨hframe, hpending⟩ := reachCues_edge_none hlow hhigh rfl (by rw [hcues]) hnone
    rw [rollerEdge_inZone hm hsurvey hboth (by rwa [hpos]), reachCues_edge_list, hpending, hcues]
    exact ⟨(edgeTaken_onlyChanges.append hframe).mono (by simp), rfl, rfl⟩
  case oneCue =>
    have hcues : (edgeTaken d s).cues = s.cues := (edgeTaken_onlyChanges .cues).resolve_left (by decide)
    have hplanner : (edgeTaken d s).planner = s.planner := (edgeTaken_onlyChanges .planner).resolve_left (by decide)
    have hlink : (edgeTaken d s).link = s.link := (edgeTaken_onlyChanges .link).resolve_left (by decide)
    have hframe := edgeTaken_onlyChanges.append (reachCues_onlyChanges d s.tach.position (edgeTaken d s))
    have hquiet (h : ¬windDropPoint s d c = true) :
        (if windDropPoint s d c = true then capWind c (cuePassed d c (edgeTaken d s)) else cuePassed d c (edgeTaken d s)) =
          cuePassed d c (edgeTaken d s) := if_neg h
    rw [rollerEdge_inZone hm hsurvey hboth (by rwa [hpos])]
    refine ⟨hframe.mono (by simp), ?_⟩
    rw [reachCues_edge_one hlow hhigh hlist hother hc hfar hlast]
    refine ⟨?_, ?_, ?_, fun hplay => ?_, fun hnot => ?_, fun hwind hkind hmissed hforce htravel => ?_⟩
    · split <;> simp
    · split <;> simp [hcues]
    · split <;> simp [cuePassed, hplanner, hlink]
    · rw [hquiet (by rw [windDropPoint_iff]; simp [hplay])]
      simp [hcues, hplanner]
    · rw [hquiet (by rw [windDropPoint_iff]; simp [hnot])]
      simp [hcues, hplanner]
    · rw [if_pos (windDropPoint_iff.2 ⟨hwind, ⟨hkind, hmissed⟩, hforce, htravel⟩)]
      simp +contextual [hcues, hplanner]
  all_goals
    have hnew : zoneAt (edgeTaken d s).zones (edgeTaken d s).tach.position ≠ (edgeTaken d s).zones.index := by
      rwa [edgeTaken_zones, hpos]
    obtain ⟨-, -, -, -, hmode, hhead, hinForce⟩ := edgeReached_keeps (d := d) (s := s)
    have hcurrent : (edgeReached d s).zones.current = attrsAt s.zones (edgeFrom d s.tach.position) := by
      rw [edgeReached_zones, hpos]
      rfl
    rw [rollerEdge_unowned hm hsurvey]
  case allowed =>
    have hcues : (rezonePosition (some d) (edgeTaken d s)).cues = s.cues := by simp [edgeTaken]
    obtain ⟨hframe, -⟩ := reachCues_edge_none hlow hhigh (u := rezonePosition (some d) (edgeTaken d s)) (by simp)
      (by rw [hcues]) hnone
    rw [← hcurrent] at hallow
    rw [zoneDirectionRule_allowed fun e he => by rw [hhead, hheading] at he; cases he; exact hallow]
    refine ⟨((edgeTaken_onlyChanges.append (rezonePosition_onlyChanges _ _)).append hframe).mono (by simp), ?_⟩
    have hinhibit := rezonePosition_inhibit (some d) (by simpa [edgeTaken] using hplay) hnew
    rw [edgeTaken_zones, hpos] at hinhibit
    simpa [edgeReached] using hinhibit
  case forbidden =>
    rw [← hmode] at hplay
    rw [← hhead] at hheading
    rw [← hinForce] at hstop
    rw [← hcurrent] at hforbid
    have hindex : (edgeReached d s).zones.index = zoneAt s.zones (edgeFrom d s.tach.position) := by rw [edgeReached_zones, hpos]
    obtain ⟨hstopping, hcontrolled, hcause, -⟩ := beginStopping_planner .controlled .zone (edgeReached d s)
    rw [zoneDirectionRule_play hplay hstop hheading hforbid, ← hindex]
    exact ⟨hstopping, hcontrolled, hcause, beginStopping_inhibit _ _ (by simp [hplay]), beginStopping_block _ hheading hforbid⟩

end Sys2Proof.Machine

namespace Sys2Proof.Machine

/-! # Proofs of family 03, the tension servo

First the outputs invariant (O55): the mechanics, drives and capstan that a state shows, what each operation makes of them, and what
every command does. Then the step itself (O1), SET_TENSION, SET_GAINS and SET_LIMITS (O20), SET_SLEW (O21), SUPPLY_LOW (O45) and the
servo sample (O44). -/

/-! ## What the invariant of the outputs reads (R42, R69, R70, R72, R83 to R85, R143) -/

/-- The items of a state that the three invariants of O55 speak of. -/
structure Outputs where
  brakeS : Bool
  brakeT : Bool
  pinchLine : Bool
  brake : BrakeState
  pinch : PinchState
  mode : Mode
  enabled : Bool
  codeS : Int
  codeT : Int
  vsHost : Int
  trim : Int
  vs : Int
  lock : LockState
  driveCode : Int

def State.outputs (s : State) : Outputs :=
  { brakeS := s.lines.brakeS, brakeT := s.lines.brakeT, pinchLine := s.lines.pinch, brake := s.planner.brake,
    pinch := s.planner.pinch, mode := s.planner.mode, enabled := s.servo.enabled, codeS := s.servo.reels.supply.code,
    codeT := s.servo.reels.takeup.code, vsHost := s.capstan.vsHost, trim := s.capstan.trim, vs := s.capstan.vs,
    lock := s.capstan.lock, driveCode := s.capstan.driveCode }

/-- `LinesFollow`, whether the part is held or not. -/
def Outputs.LinesFollow (o : Outputs) : Prop :=
  o.brakeS = o.brake.commandedApplied ∧ o.brakeT = o.brake.commandedApplied ∧ o.pinchLine = o.pinch.commandedClosed

/-- The modes in which the brakes hold the reels (R85). -/
@[simp] def Mode.atRest : Mode → Bool
  | .idle | .braking | .braked => true
  | _ => false

/-- The drives are DISABLED, the brakes commanded applied and the pinch commanded open. -/
def Outputs.Secured (o : Outputs) : Prop :=
  o.enabled = false ∧ o.brake.commandedApplied = true ∧ o.pinch.commandedClosed = false

def Outputs.DrivesSafe (o : Outputs) : Prop :=
  (o.enabled = false → o.codeS = 0 ∧ o.codeT = 0) ∧ (o.mode.atRest = true → o.Secured)

def Outputs.CapstanInRange (o : Outputs) : Prop :=
  -1000 ≤ o.vsHost ∧ o.vsHost ≤ 1000 ∧ -200 ≤ o.trim ∧ o.trim ≤ 200 ∧ -1000 ≤ o.vs ∧ o.vs ≤ 1000 ∧
    (o.lock = .off → o.driveCode = 0)

theorem Mode.atRest_iff (m : Mode) : m.atRest = true ↔ m = .idle ∨ m = .braking ∨ m = .braked := by cases m <;> simp

theorem linesFollow_iff (s : State) : LinesFollow s ↔ (s.held = none → s.outputs.LinesFollow) := Iff.rfl

theorem drivesSafe_iff (s : State) : DrivesSafe s ↔ s.outputs.DrivesSafe := by
  simp only [DrivesSafe, Outputs.DrivesSafe, Outputs.Secured, Mode.atRest_iff, State.outputs]

theorem capstanInRange_iff (s : State) : CapstanInRange s ↔ s.outputs.CapstanInRange := Iff.rfl

/-- A change of the outputs keeps each of the three invariants. -/
structure Keeps (o p : Outputs) : Prop where
  lines : o.LinesFollow → p.LinesFollow
  drives : o.DrivesSafe → p.DrivesSafe
  capstan : o.CapstanInRange → p.CapstanInRange

namespace Keeps

variable {o p : Outputs}

@[simp] theorem refl (o : Outputs) : Keeps o o := ⟨id, id, id⟩

theorem trans {q : Outputs} (h : Keeps o p) (k : Keeps p q) : Keeps o q :=
  ⟨k.lines ∘ h.lines, k.drives ∘ h.drives, k.capstan ∘ h.capstan⟩

end Keeps

/-! ## The commands to the mechanics, the drives and the capstan, as changes of the outputs -/

namespace Outputs

def brakesApplied (o : Outputs) : Outputs :=
  { o with brakeS := true, brakeT := true, brake := if o.brake = .applied then .applied else .applying }

def brakesReleased (o : Outputs) : Outputs :=
  { o with brakeS := false, brakeT := false, brake := if o.brake = .released then .released else .releasing }

def pinchOpened (o : Outputs) : Outputs :=
  { o with pinchLine := false, pinch := if o.pinch = .opened then .opened else .opening }

def pinchClosed (o : Outputs) : Outputs :=
  { o with pinchLine := true, pinch := if o.pinch = .closed then .closed else .closing }

def drivesOff (o : Outputs) : Outputs := if o.enabled then { o with enabled := false, codeS := 0, codeT := 0 } else o

def capstanOff (o : Outputs) : Outputs := if o.lock = .off then o else { o with lock := .off, driveCode := 0 }

def inMode (m : Mode) (o : Outputs) : Outputs := { o with mode := m }

end Outputs

namespace Keeps

variable {o p : Outputs}

@[simp] theorem pinchOpened (h : Keeps o p) : Keeps o p.pinchOpened where
  lines ho := by
    obtain ⟨hs, ht, -⟩ := h.lines ho
    refine ⟨hs, ht, ?_⟩
    cases hp : p.pinch <;> simp [Outputs.pinchOpened, hp, PinchState.commandedClosed]
  drives ho := by
    obtain ⟨hcode, hrest⟩ := h.drives ho
    refine ⟨hcode, fun hm => ?_⟩
    obtain ⟨hen, hbrake, -⟩ := hrest hm
    refine ⟨hen, hbrake, ?_⟩
    cases hp : p.pinch <;> simp [Outputs.pinchOpened, hp, PinchState.commandedClosed]
  capstan ho := h.capstan ho

@[simp] theorem brakesApplied (h : Keeps o p) : Keeps o p.brakesApplied where
  lines ho := by
    obtain ⟨-, -, hpinch⟩ := h.lines ho
    cases hb : p.brake <;> simp [Outputs.LinesFollow, Outputs.brakesApplied, hb, hpinch, BrakeState.commandedApplied]
  drives ho := by
    obtain ⟨hcode, hrest⟩ := h.drives ho
    refine ⟨hcode, fun hm => ?_⟩
    obtain ⟨hen, -, hpinch⟩ := hrest hm
    refine ⟨hen, ?_, hpinch⟩
    cases hb : p.brake <;> simp [Outputs.brakesApplied, hb, BrakeState.commandedApplied]
  capstan ho := h.capstan ho

@[simp] theorem drivesOff (h : Keeps o p) : Keeps o p.drivesOff := by
  unfold Outputs.drivesOff
  split
  · refine ⟨h.lines, fun ho => ⟨fun _ => ⟨rfl, rfl⟩, fun hm => ?_⟩, h.capstan⟩
    obtain ⟨-, hbrake, hpinch⟩ := (h.drives ho).2 hm
    exact ⟨rfl, hbrake, hpinch⟩
  · exact h

@[simp] theorem capstanOff (h : Keeps o p) : Keeps o p.capstanOff := by
  unfold Outputs.capstanOff
  split
  · exact h
  · refine ⟨h.lines, h.drives, fun ho => ?_⟩
    obtain ⟨h1, h2, h3, h4, h5, h6, -⟩ := h.capstan ho
    exact ⟨h1, h2, h3, h4, h5, h6, fun _ => rfl⟩

/-- A mode that asks nothing of the drives may be entered at any time. -/
@[simp] theorem inMode {m : Mode} (h : Keeps o p) (hm : ¬m.atRest = true) : Keeps o (p.inMode m) where
  lines := h.lines
  drives ho := ⟨(h.drives ho).1, fun hr => absurd hr hm⟩
  capstan := h.capstan

/-- A mode at rest may be entered where the reels and the pinch are secured. -/
theorem inMode_secured {m : Mode} (h : Keeps o p) (hsec : o.DrivesSafe → p.Secured) : Keeps o (p.inMode m) where
  lines := h.lines
  drives ho := ⟨(h.drives ho).1, fun _ => hsec ho⟩
  capstan := h.capstan

end Keeps

/-- Disabling the drives, applying the brakes and opening the pinch secures the transport. -/
theorem Outputs.secured_of_commands (o : Outputs) : o.drivesOff.brakesApplied.pinchOpened.Secured := by
  refine ⟨?_, ?_, ?_⟩
  · cases he : o.enabled <;> simp [Outputs.drivesOff, Outputs.brakesApplied, Outputs.pinchOpened, he]
  · cases hb : o.drivesOff.brake <;> simp [Outputs.brakesApplied, Outputs.pinchOpened, hb, BrakeState.commandedApplied]
  · cases hp : o.drivesOff.pinch <;> simp [Outputs.brakesApplied, Outputs.pinchOpened, hp, PinchState.commandedClosed]

theorem Outputs.Secured.capstanOff {o : Outputs} (h : o.Secured) : o.capstanOff.Secured := by
  unfold Outputs.capstanOff; split <;> exact h

/-! ## Updates of one block

`(rfl)` in brackets, here and below, keeps a lemma out of `dsimp`: where a rewrite by it stands in a side condition, `simp` then has
a proof of it. -/

section Updates

variable (s : State)

@[simp] theorem State.outputs_pending (l : List Instr) : ({ s with pending := l } : State).outputs = s.outputs := (rfl)
@[simp] theorem State.onSense_outputs (f : Sense → Sense) : (s.onSense f).outputs = s.outputs := (rfl)
@[simp] theorem State.onTach_outputs (f : Tach → Tach) : (s.onTach f).outputs = s.outputs := (rfl)
@[simp] theorem State.onPacks_outputs (f : Packs → Packs) : (s.onPacks f).outputs = s.outputs := (rfl)
@[simp] theorem State.onZones_outputs (f : Zones → Zones) : (s.onZones f).outputs = s.outputs := (rfl)
@[simp] theorem State.onCues_outputs (f : Cues → Cues) : (s.onCues f).outputs = s.outputs := (rfl)
@[simp] theorem State.onParams_outputs (f : LocateParams → LocateParams) : (s.onParams f).outputs = s.outputs := (rfl)
@[simp] theorem State.onLocate_outputs (f : Option LocateRec → Option LocateRec) : (s.onLocate f).outputs = s.outputs := (rfl)
@[simp] theorem State.onChase_outputs (f : Chase → Chase) : (s.onChase f).outputs = s.outputs := (rfl)
@[simp] theorem State.onFault_outputs (f : FaultUnit → FaultUnit) : (s.onFault f).outputs = s.outputs := (rfl)
@[simp] theorem State.onMonitor_outputs (f : Monitor → Monitor) : (s.onMonitor f).outputs = s.outputs := (rfl)
@[simp] theorem State.onSurvey_outputs (f : Survey → Survey) : (s.onSurvey f).outputs = s.outputs := (rfl)
@[simp] theorem State.onLink_outputs (f : Link → Link) : (s.onLink f).outputs = s.outputs := (rfl)
@[simp] theorem State.takeFree_outputs : s.takeFree.outputs = s.outputs := (rfl)
@[simp] theorem State.onArm_outputs (r : Reel) (f : ArmChannel → ArmChannel) : (s.onArm r f).outputs = s.outputs := (rfl)
@[simp] theorem State.onPresence_outputs (i : PresenceId) (f : PresenceChannel → PresenceChannel) :
    (s.onPresence i f).outputs = s.outputs := (rfl)
@[simp] theorem State.onReelTach_outputs (r : Reel) (f : ReelTach → ReelTach) : (s.onReelTach r f).outputs = s.outputs := (rfl)
@[simp] theorem State.onPack_outputs (r : Reel) (f : Pack → Pack) : (s.onPack r f).outputs = s.outputs := (rfl)

/-- An update of the planner that leaves the brakes, the pinch and the mode. -/
@[simp] theorem State.onPlanner_outputs {f : Planner → Planner} (hb : ∀ p, (f p).brake = p.brake)
    (hp : ∀ p, (f p).pinch = p.pinch) (hm : ∀ p, (f p).mode = p.mode) : (s.onPlanner f).outputs = s.outputs := by
  simp [State.outputs, hb, hp, hm]

/-- An update of the servo that leaves whether the drives are enabled, and their codes. -/
@[simp] theorem State.onServo_outputs {f : Servo → Servo} (he : ∀ v, (f v).enabled = v.enabled)
    (hs : ∀ v, (f v).reels.supply.code = v.reels.supply.code) (ht : ∀ v, (f v).reels.takeup.code = v.reels.takeup.code) :
    (s.onServo f).outputs = s.outputs := by
  simp [State.outputs, he, hs, ht]

/-- An update of the lines that leaves the brakes and the pinch. -/
@[simp] theorem State.onLines_outputs {f : Lines → Lines} (hs : ∀ l, (f l).brakeS = l.brakeS)
    (ht : ∀ l, (f l).brakeT = l.brakeT) (hp : ∀ l, (f l).pinch = l.pinch) : (s.onLines f).outputs = s.outputs := by
  simp [State.outputs, hs, ht, hp]

end Updates

/-- An update of the capstan that keeps its ranges, and no drive while it is OFF. -/
theorem State.onCapstan_keeps {o : Outputs} {s : State} {f : Capstan → Capstan} (h : Keeps o s.outputs)
    (hf : s.outputs.CapstanInRange → (s.onCapstan f).outputs.CapstanInRange) : Keeps o (s.onCapstan f).outputs :=
  h.trans ⟨id, id, hf⟩

/-- Two records of the capstan with the same varispeed values and drive code, the second OFF only where the first is. -/
structure Capstan.Steady (c d : Capstan) : Prop where
  vsHost : d.vsHost = c.vsHost
  trim : d.trim = c.trim
  vs : d.vs = c.vs
  driveCode : d.driveCode = c.driveCode
  off : d.lock = .off → c.lock = .off

@[simp] theorem Capstan.steady_iff (c d : Capstan) :
    c.Steady d ↔ d.vsHost = c.vsHost ∧ d.trim = c.trim ∧ d.vs = c.vs ∧ d.driveCode = c.driveCode ∧
      (d.lock = .off → c.lock = .off) :=
  ⟨fun ⟨h1, h2, h3, h4, h5⟩ => ⟨h1, h2, h3, h4, h5⟩, fun ⟨h1, h2, h3, h4, h5⟩ => ⟨h1, h2, h3, h4, h5⟩⟩

theorem Capstan.Steady.refl (c : Capstan) : c.Steady c := ⟨rfl, rfl, rfl, rfl, id⟩

theorem Capstan.Steady.trans {c d e : Capstan} (h : c.Steady d) (k : d.Steady e) : c.Steady e :=
  ⟨k.vsHost.trans h.vsHost, k.trim.trans h.trim, k.vs.trans h.vs, k.driveCode.trans h.driveCode, h.off ∘ k.off⟩

theorem State.onCapstan_steady {o : Outputs} {s : State} {f : Capstan → Capstan} (h : Keeps o s.outputs)
    (hf : s.capstan.Steady (f s.capstan)) : Keeps o (s.onCapstan f).outputs := by
  refine onCapstan_keeps h fun ⟨h1, h2, h3, h4, h5, h6, h7⟩ => ?_
  simp only [Outputs.CapstanInRange, State.outputs, State.onCapstan_capstan, hf.vsHost, hf.trim, hf.vs, hf.driveCode]
  exact ⟨h1, h2, h3, h4, h5, h6, fun ho => h7 (hf.off ho)⟩

/-- `State.onCapstan_steady` for an update that is written out. -/
@[simp] theorem State.onCapstan_keeps_steady {o : Outputs} {s : State} {f : Capstan → Capstan} (h : Keeps o s.outputs)
    (hf : ∀ c : Capstan, c.Steady (f c)) : Keeps o (s.onCapstan f).outputs :=
  onCapstan_steady h (hf s.capstan)

/-- A trim in its range is stored (R143). -/
@[simp] theorem State.setTrim_keeps {o : Outputs} {s : State} {x : Int} (h : Keeps o s.outputs) (hlow : -200 ≤ x)
    (hhigh : x ≤ 200) : Keeps o (s.onCapstan fun c => { c with trim := x }).outputs :=
  onCapstan_keeps h fun ⟨h1, h2, _, _, h5, h6, h7⟩ => ⟨h1, h2, hlow, hhigh, h5, h6, h7⟩

@[simp] theorem State.clearTrim_keeps {o : Outputs} {s : State} (h : Keeps o s.outputs) :
    Keeps o (s.onCapstan fun c => { c with trim := 0 }).outputs :=
  setTrim_keeps h (by decide) (by decide)

/-! ## What the shared operations make of the outputs -/

section Operations

variable (s : State)

@[simp] theorem postNotice_outputs (n : Notice) : (postNotice n s).outputs = s.outputs := (rfl)

@[simp] theorem addCounts_outputs (adds : Four Nat) : (addCounts adds s).outputs = s.outputs := by
  simp [State.outputs]

@[simp] theorem monitorEvent_outputs (ev : MonEvent) (source : EventSource) :
    (monitorEvent ev source s).outputs = s.outputs := addCounts_outputs s _

@[simp] theorem refreshInhibit_outputs : (refreshInhibit s).outputs = s.outputs := (rfl)

@[simp] theorem setMode_outputs (m : Mode) (sub : Option SubStage) (cause : ModeCause) :
    (setMode m sub cause s).outputs = s.outputs.inMode m := by
  simp [State.outputs, Outputs.inMode]

@[simp] theorem applyBrakes_outputs : (applyBrakes s).outputs = s.outputs.brakesApplied := (rfl)
@[simp] theorem releaseBrakes_outputs : (releaseBrakes s).outputs = s.outputs.brakesReleased := (rfl)
@[simp] theorem openPinch_outputs : (openPinch s).outputs = s.outputs.pinchOpened := (rfl)
@[simp] theorem closePinch_outputs : (closePinch s).outputs = s.outputs.pinchClosed := (rfl)

@[simp] theorem disableDrives_outputs : (disableDrives s).outputs = s.outputs.drivesOff := by
  unfold Outputs.drivesOff
  cases he : s.servo.enabled <;>
    simp [State.outputs, disableDrives, he, Servo.disabled, PerReel.map, ReelServo.cleared]

@[simp] theorem stopCapstan_outputs : (stopCapstan s).outputs = s.outputs.capstanOff := by
  unfold Outputs.capstanOff
  cases hl : s.capstan.lock <;> simp [State.outputs, stopCapstan, hl, Capstan.stopped]

@[simp] theorem recomputeLimits_outputs : (recomputeLimits s).outputs = s.outputs := (rfl)

end Operations

section Stops

variable {o : Outputs} {s : State}

@[simp] theorem startCapstan_keeps (h : Keeps o s.outputs) : Keeps o (startCapstan s).outputs := by
  refine State.onCapstan_steady h ?_
  split
  · exact ⟨rfl, rfl, rfl, rfl, by simp [Capstan.started]⟩
  · exact .refl _

/-! ## The endings of the units' operations -/

@[simp] theorem finishLocate_outputs (outcome : LocateOutcome) (playStarted : Bool) :
    (finishLocate outcome playStarted s).outputs = s.outputs := by
  unfold finishLocate; split <;> rfl

@[simp] theorem dropLocateOf_outputs (owner : LocateOwner) : (dropLocateOf owner s).outputs = s.outputs := (rfl)

@[simp] theorem setChaseState_outputs (st : ChaseState) (cause : ChaseCause) :
    (setChaseState st cause s).outputs = s.outputs := (rfl)

@[simp] theorem endChase_keeps (cause : ChaseCause) (h : Keeps o s.outputs) : Keeps o (endChase cause s).outputs := by
  unfold endChase; split <;> simp [h]

@[simp] theorem endSurvey_outputs (outcome : SurveyOutcome) (reason : Option AbortReason) (by_ : EndedBy) :
    (endSurvey outcome reason by_ s).outputs = s.outputs := by
  unfold endSurvey; split <;> rfl

@[simp] theorem endSurveyBy_outputs (cause : StopCause) : (endSurveyBy cause s).outputs = s.outputs := by
  unfold endSurveyBy; split <;> simp

@[simp] theorem endUnit_keeps (cause : StopCause) (h : Keeps o s.outputs) : Keeps o (endUnit cause s).outputs := by
  unfold endUnit; split <;> simp [h]

/-! ## Entries to modes -/

@[simp] theorem publishStopCause_outputs (cause : StopCause) : (publishStopCause cause s).outputs = s.outputs := (rfl)

@[simp] theorem beginStopping_keeps (sev : Severity) (cause : StopCause) (h : Keeps o s.outputs) :
    Keeps o (beginStopping sev cause s).outputs := by
  simp [beginStopping, h]

/-- A mode at rest is entered with the drives disabled, the brakes applied and the pinch open (R89, R100). -/
theorem Keeps.rest {m : Mode} (h : Keeps o s.outputs) : Keeps o (s.outputs.drivesOff.brakesApplied.pinchOpened.inMode m) :=
  h.drivesOff.brakesApplied.pinchOpened.inMode_secured fun _ => s.outputs.secured_of_commands

/-- The same with the capstan stopped (R90, R100). -/
theorem Keeps.rest_capstanOff {m : Mode} (h : Keeps o s.outputs) :
    Keeps o (s.outputs.drivesOff.brakesApplied.pinchOpened.capstanOff.inMode m) :=
  h.drivesOff.brakesApplied.pinchOpened.capstanOff.inMode_secured fun _ => s.outputs.secured_of_commands.capstanOff

@[simp] theorem enterBraking_keeps (cause : StopCause) (h : Keeps o s.outputs) : Keeps o (enterBraking cause s).outputs := by
  simp [enterBraking, h.rest_capstanOff]

@[simp] theorem failLoad_keeps (cause : ModeCause) (h : Keeps o s.outputs) : Keeps o (failLoad cause s).outputs := by
  simp [failLoad, h.rest]

@[simp] theorem enterHold_keeps (cause : ModeCause) (h : Keeps o s.outputs) : Keeps o (enterHold cause s).outputs := by
  simp [enterHold, h]

@[simp] theorem clearMismatch_outputs : (clearMismatch s).outputs = s.outputs := by
  unfold clearMismatch; split <;> rfl

@[simp] theorem clearMarks_outputs : (clearMarks s).outputs = s.outputs := (rfl)

@[simp] theorem enterIdle_keeps (cause : ModeCause) (h : Keeps o s.outputs) : Keeps o (enterIdle cause s).outputs := by
  simp [enterIdle, h.rest_capstanOff]

@[simp] theorem startMotion_outputs : (startMotion s).outputs = s.outputs := (rfl)

@[simp] theorem abandonStop_outputs : (abandonStop s).outputs = s.outputs := (rfl)

@[simp] theorem enterEngaging_keeps (cause : ModeCause) (h : Keeps o s.outputs) : Keeps o (enterEngaging cause s).outputs := by
  unfold enterEngaging; dsimp only; split <;> simp [h]

@[simp] theorem completeLoad_keeps (h : Keeps o s.outputs) : Keeps o (completeLoad s).outputs := by
  simp [completeLoad, h]

/-! ## Stop demands, conditions and the enabling of the drives -/

@[simp] theorem stopDemand_keeps (sev : Severity) (cause : StopCause) (h : Keeps o s.outputs) :
    Keeps o (stopDemand sev cause s).outputs := by
  rcases stopDemand_cases sev cause s with ⟨e, -⟩ | ⟨-, e⟩ | ⟨-, e⟩ | ⟨-, -, e⟩ | ⟨-, -, e⟩ | ⟨-, -, e⟩ <;> rw [e] <;> simp [h]

@[simp] theorem restOrStop_keeps (cause : StopCause) (h : Keeps o s.outputs) : Keeps o (restOrStop cause s).outputs := by
  rcases restOrStop_cases cause s with ⟨-, e⟩ | ⟨-, e⟩ <;> rw [e] <;> simp [h]

@[simp] theorem latchPrimary_keeps (c : Condition) (sev : Severity) (h : Keeps o s.outputs) :
    Keeps o (latchPrimary c sev s).outputs := by
  simp [latchPrimary, h]

@[simp] theorem takeSecondary_keeps (r : FaultRecord) (c : Condition) (sev : Severity) (h : Keeps o s.outputs) :
    Keeps o (takeSecondary r c sev s).outputs := by
  unfold takeSecondary; dsimp only; split <;> split <;> simp [h]

@[simp] theorem takeConditionAt_keepsOutputs (c : Condition) (sev : Severity) (h : Keeps o s.outputs) :
    Keeps o (takeConditionAt c sev s).outputs := by
  rcases takeConditionAt_cases c sev s with ⟨-, e⟩ | ⟨r, -, e⟩ <;> rw [e] <;> simp [h]

@[simp] theorem takeCondition_keeps (kind : FaultKind) (reel : Option Reel) (h : Keeps o s.outputs) :
    Keeps o (takeCondition kind reel s).outputs :=
  takeConditionAt_keepsOutputs _ _ h

@[simp] theorem takePowerFail_keeps (h : Keeps o s.outputs) : Keeps o (takePowerFail s).outputs :=
  takeConditionAt_keepsOutputs _ _ h

@[simp] theorem armConditionIf_keeps (bad : Bool) (r : Reel) (h : Keeps o s.outputs) :
    Keeps o (armConditionIf bad r s).outputs := by
  unfold armConditionIf; split <;> simp [h]

/-- The drives go from DISABLED to ENABLED in a mode that is not at rest (R42). -/
theorem enable_keeps (h : Keeps o s.outputs) (hm : ¬s.planner.mode.atRest = true) :
    Keeps o (s.onServo Servo.enable).outputs where
  lines := h.lines
  drives _ := ⟨fun he => absurd he (by simp [State.outputs, Servo.enable]),
    fun hr => absurd hr hm⟩
  capstan := h.capstan

theorem enableDrives_keeps (h : Keeps o s.outputs) (hm : ¬s.planner.mode.atRest = true) :
    Keeps o (enableDrives s).outputs := by
  unfold enableDrives
  dsimp only
  split
  · simp [h]
  · exact armConditionIf_keeps _ _ (armConditionIf_keeps _ _ (enable_keeps (by simp [h]) (by simpa using hm)))

@[simp] theorem zoneDirectionRule_keeps (h : Keeps o s.outputs) : Keeps o (zoneDirectionRule s).outputs := by
  unfold zoneDirectionRule; (repeat' split) <;> simp [h]

end Stops

/-! ## The Capstan Controller -/

section CapstanLoop

variable {o : Outputs} {s : State}

@[simp] theorem lockNotice_outputs (t : LockChange) : (lockNotice t s).outputs = s.outputs := by
  unfold lockNotice; split <;> simp

/-- The parts of an encoder edge, a capstan step, a reference edge and a change of the reference leave the varispeed values and the
drive code, and stop no capstan. -/
theorem Capstan.encoderEdge_steady (c : Capstan) (d : Dir) : c.Steady (c.encoderEdge d) := by
  unfold Capstan.encoderEdge
  cases hl : c.lock with
  | off => exact .refl c
  | unlocked =>
    unfold Capstan.pulled
    dsimp only
    split <;> exact ⟨rfl, rfl, rfl, rfl, by simp⟩
  | spinup | locked | holdover => exact ⟨rfl, rfl, rfl, rfl, by simp⟩

theorem Capstan.closeStep_steady (c : Capstan) : c.Steady c.closeStep := by
  unfold Capstan.closeStep; split <;> exact ⟨rfl, rfl, rfl, rfl, id⟩

theorem Capstan.spinUp_steady (c : Capstan) : c.Steady c.spinUp := by
  unfold Capstan.spinUp Capstan.aligned
  split
  · split <;> exact ⟨rfl, rfl, rfl, rfl, by simp⟩
  · exact .refl c

theorem Capstan.advanceHold_steady (c : Capstan) : c.Steady c.advanceHold := by
  unfold Capstan.advanceHold; split <;> exact ⟨rfl, rfl, rfl, rfl, id⟩

theorem Capstan.quietStep_steady (c : Capstan) : c.Steady c.quietStep := by
  unfold Capstan.quietStep; split <;> exact ⟨rfl, rfl, rfl, rfl, id⟩

theorem Capstan.step_steady (c : Capstan) : c.slew.Steady c.step :=
  (closeStep_steady _).trans ((spinUp_steady _).trans ((advanceHold_steady _).trans (quietStep_steady _)))

theorem Capstan.takePeriod_steady (c : Capstan) (p : Nat) : c.Steady (c.takePeriod p) := by
  unfold Capstan.takePeriod
  split
  · dsimp only; split <;> exact ⟨rfl, rfl, rfl, rfl, id⟩
  · exact .refl c

theorem Capstan.advanceRef_steady (c : Capstan) : c.Steady c.advanceRef := by
  unfold Capstan.advanceRef; split <;> exact ⟨rfl, rfl, rfl, rfl, id⟩

theorem Capstan.holdoverReturn_steady (c : Capstan) : c.Steady c.holdoverReturn := by
  unfold Capstan.holdoverReturn Capstan.started Capstan.aligned
  dsimp only; split <;> exact ⟨rfl, rfl, rfl, rfl, by simp⟩

theorem Capstan.holdoverEntry_steady (c : Capstan) (b : Nat) : c.Steady (c.holdoverEntry b) :=
  ⟨rfl, rfl, rfl, rfl, by simp [holdoverEntry]⟩

theorem Capstan.restart_steady (c : Capstan) : c.Steady c.restart := by
  unfold Capstan.restart; split <;> exact ⟨rfl, rfl, rfl, rfl, id⟩

theorem Capstan.afterSelect_steady (c old : Capstan) : c.Steady (c.afterSelect old) := by
  unfold Capstan.afterSelect
  cases hl : c.lock with
  | off | spinup =>
    dsimp only
    split
    · exact .refl c
    · exact restart_steady c
  | holdover => exact ⟨rfl, rfl, rfl, rfl, by simp⟩
  | unlocked | locked => exact (holdoverEntry_steady c old.base).trans ⟨rfl, rfl, rfl, rfl, id⟩

@[simp] theorem lockGained_keeps (h : Keeps o s.outputs) : Keeps o (lockGained s).outputs := by
  simp [lockGained, h]

@[simp] theorem lockLost_keeps (h : Keeps o s.outputs) : Keeps o (lockLost s).outputs := by
  simp [lockLost, h]

@[simp] theorem encoderEdge_keeps (d : Dir) (h : Keeps o s.outputs) : Keeps o (encoderEdge d s).outputs := by
  have hedge : Keeps o (s.onCapstan fun c => c.encoderEdge d).outputs :=
    State.onCapstan_steady h (Capstan.encoderEdge_steady _ d)
  unfold encoderEdge
  dsimp only
  split
  · exact lockGained_keeps hedge
  · split
    · exact lockLost_keeps hedge
    · exact hedge

/-- The target of the slew lies in the range of vs (R69). -/
theorem Capstan.vsTarget_range (c : Capstan) : -1000 ≤ c.vsTarget ∧ c.vsTarget ≤ 1000 := by
  unfold Capstan.vsTarget
  rw [clampInt_eq (by decide)]
  omega

/-- A slew step moves vs toward its target, which it does not pass (R69). -/
theorem Capstan.slew_range (c : Capstan) (hlow : -1000 ≤ c.vs) (hhigh : c.vs ≤ 1000) : -1000 ≤ c.slew.vs ∧ c.slew.vs ≤ 1000 := by
  have ht := c.vsTarget_range
  unfold Capstan.slew mag
  dsimp only
  split
  · exact ht
  · split <;> omega

/-- The step of the controller itself. -/
theorem Capstan.step_keeps (h : Keeps o s.outputs) : Keeps o (s.onCapstan Capstan.step).outputs := by
  have hslew : Keeps o (s.onCapstan Capstan.slew).outputs :=
    State.onCapstan_keeps h fun ⟨h1, h2, h3, h4, h5, h6, h7⟩ =>
      have ⟨hlow, hhigh⟩ := s.capstan.slew_range h5 h6
      ⟨h1, h2, h3, h4, hlow, hhigh, h7⟩
  exact (State.onCapstan_steady (f := fun x => x.closeStep.spinUp.advanceHold.quietStep) hslew s.capstan.step_steady)

@[simp] theorem capstanStalls_keeps (h : Keeps o s.outputs) : Keeps o (capstanStalls s).outputs := by
  simp [capstanStalls, h]

/-- The loop sends its code to a capstan that is not OFF (R71). -/
@[simp] theorem driveCapstan_keeps (h : Keeps o s.outputs) : Keeps o (driveCapstan s).outputs := by
  unfold driveCapstan
  split
  · exact h
  next hon =>
    rw [State.takeFree_outputs]
    exact State.onCapstan_keeps h fun ⟨h1, h2, h3, h4, h5, h6, _⟩ => ⟨h1, h2, h3, h4, h5, h6, fun hoff => absurd hoff hon⟩

@[simp] theorem capstanStep_keeps (h : Keeps o s.outputs) : Keeps o (capstanStep s).outputs := by
  unfold capstanStep
  dsimp only
  split
  · exact capstanStalls_keeps (Capstan.step_keeps h)
  · exact driveCapstan_keeps (Capstan.step_keeps h)

@[simp] theorem refNotice_outputs (cause : RefCause) : (refNotice cause s).outputs = s.outputs := (rfl)

@[simp] theorem referenceReturns_keeps (h : Keeps o s.outputs) : Keeps o (referenceReturns s).outputs := by
  unfold referenceReturns
  refine State.onCapstan_steady (by simp [h]) ?_
  split
  · exact Capstan.holdoverReturn_steady _
  · exact .refl _

@[simp] theorem referenceEdge_keeps (period : Nat) (h : Keeps o s.outputs) : Keeps o (referenceEdge period s).outputs := by
  have hedge : Keeps o (s.onCapstan fun c => (c.takePeriod period).advanceRef).outputs :=
    State.onCapstan_steady h ((Capstan.takePeriod_steady _ period).trans (Capstan.advanceRef_steady _))
  have hreturn (u : State) (hu : Keeps o u.outputs) :
      Keeps o (if 64 ≤ u.capstan.presentRun then referenceReturns u else u).outputs := by
    split
    · exact referenceReturns_keeps hu
    · exact hu
  have hrun : Keeps o ((s.onCapstan fun c => (c.takePeriod period).advanceRef).onCapstan fun c =>
      { c with presentRun := if periodInRange period then c.presentRun + 1 else 0 }).outputs :=
    State.onCapstan_steady hedge ⟨rfl, rfl, rfl, rfl, id⟩
  unfold referenceEdge
  dsimp only
  split
  · exact h
  · split
    · exact hedge
    · exact hreturn _ hrun

@[simp] theorem referenceLost_keeps (h : Keeps o s.outputs) : Keeps o (referenceLost s).outputs := by
  unfold referenceLost
  refine State.onCapstan_steady (by simp [h]) ?_
  split
  · exact Capstan.holdoverEntry_steady _ _
  · exact .refl _

@[simp] theorem selectReference_keeps (source : RefSource) (m d : Nat) (h : Keeps o s.outputs) :
    Keeps o (selectReference source m d s).outputs :=
  State.onCapstan_steady (by simp [h]) (Capstan.afterSelect_steady _ s.capstan)

@[simp] theorem answerSetReference_keeps (source m d : Nat) (h : Keeps o s.outputs) :
    Keeps o (answerSetReference source m d s).state.outputs := by
  unfold answerSetReference
  split
  · exact h
  · (repeat' split) <;> simp [refuse, accept, h]

@[simp] theorem answerSetCapstan_keeps (apply ell w rho : Nat) (h : Keeps o s.outputs) :
    Keeps o (answerSetCapstan apply ell w rho s).state.outputs := by
  unfold answerSetCapstan
  (repeat' split) <;> simp [refuse, accept, h]

/-- vs_h is clamped as it is stored (R70). -/
@[simp] theorem answerSetVarispeed_keeps (vsHost : Int) (h : Keeps o s.outputs) :
    Keeps o (answerSetVarispeed vsHost s).state.outputs := by
  refine State.onCapstan_keeps h fun ⟨_, _, h3, h4, h5, h6, h7⟩ => ⟨?_, ?_, h3, h4, h5, h6, h7⟩ <;>
    simp only [State.outputs, State.onCapstan_capstan, clampInt_eq (show (-1000 : Int) ≤ 1000 by decide)] <;> omega

@[simp] theorem answerSetLockNotice_keeps (choice : Nat) (h : Keeps o s.outputs) :
    Keeps o (answerSetLockNotice choice s).state.outputs := by
  unfold answerSetLockNotice
  split <;> simp [refuse, accept, h]

end CapstanLoop

/-! ## The Pack Estimator -/

section Blocks

variable {o : Outputs} {s : State}

@[simp] theorem packRollerEdge_outputs (d : Dir) : (packRollerEdge d s).outputs = s.outputs := (rfl)

@[simp] theorem areaTest_outputs : (areaTest s).outputs = s.outputs := by simp [State.outputs]

@[simp] theorem acceptRadius_outputs (r : Reel) (m : Nat) : (acceptRadius r m s).outputs = s.outputs := by simp [State.outputs]

@[simp] theorem probeCounted_keeps (h : Keeps o s.outputs) : Keeps o (probeCounted s).outputs := by
  unfold probeCounted; split <;> simp [h]

@[simp] theorem acceptProbe_keeps (r : Reel) (m : Nat) (h : Keeps o s.outputs) : Keeps o (acceptProbe r m s).outputs := by
  simp [acceptProbe, h]

@[simp] theorem acceptWindow_outputs (r : Reel) (m : Nat) : (acceptWindow r m s).outputs = s.outputs := by simp [acceptWindow]

@[simp] theorem judgeWindow_outputs (r : Reel) (m p : Nat) : (judgeWindow r m p s).outputs = s.outputs := by
  unfold judgeWindow; dsimp only; split
  · simp
  · split <;> simp [resyncWindow]

@[simp] theorem completeWindow_keeps (r : Reel) (h : Keeps o s.outputs) : Keeps o (completeWindow r s).outputs := by
  unfold completeWindow; dsimp only; split <;> simp [h]

@[simp] theorem reelTachEdge_keeps (r : Reel) (winding : Bool) (h : Keeps o s.outputs) :
    Keeps o (reelTachEdge r winding s).outputs := by
  unfold reelTachEdge packReelEdge; dsimp only; (repeat' split) <;> simp [h]

/-- Drive codes that are 0 stay 0 where they are clamped to a bound (R58). -/
@[simp] theorem reclampReel_keeps (r : Reel) (h : Keeps o s.outputs) : Keeps o (reclampReel r s).outputs := by
  have hbound := codeOf_nonneg (tauLimEff s r) (s.packs.profile.get r).tauFs
  refine h.trans ⟨id, fun ⟨hcode, hrest⟩ => ⟨fun hen => ?_, hrest⟩, id⟩
  obtain ⟨hs, ht⟩ := hcode hen
  simp only [State.outputs] at hs ht
  cases r <;> simp [reclampReel, State.outputs, State.onReelServo, PerReel.get, PerReel.set, hs, ht, clampInt] <;>
    simp [PerReel.get] at hbound <;> omega

@[simp] theorem storeReel_keeps (r : Reel) (q : ReelProfile) (h : Keeps o s.outputs) : Keeps o (storeReel r q s).outputs := by
  unfold storeReel; dsimp only; split <;> split <;> simp [h]

@[simp] theorem answerSetReel_keeps (side apply hub flange jf f tauLim tauFs : Nat) (h : Keeps o s.outputs) :
    Keeps o (answerSetReel side apply hub flange jf f tauLim tauFs s).state.outputs := by
  unfold answerSetReel; dsimp only; (repeat' split) <;> simp [accept, refuse, h]

@[simp] theorem storeTape_outputs (x : TapeProfile) : (storeTape x s).outputs = s.outputs := by
  have hservo : ((s.onPacks fun y => { y with tape := x }).onServo fun v =>
      if v.enabled ∧ x.tMax < v.tEff then { v with tEff16 := x.tMax * 16 } else v).outputs = s.outputs := by
    rw [State.onServo_outputs, State.onPacks_outputs] <;> intro v <;> split <;> rfl
  unfold storeTape
  dsimp only
  split
  · exact hservo
  · rw [recomputeLimits_outputs, hservo]

@[simp] theorem answerSetTape_outputs (apply t kj tMin tNom tMax tThr tSpan : Nat) :
    (answerSetTape apply t kj tMin tNom tMax tThr tSpan s).state.outputs = s.outputs := by
  unfold answerSetTape; (repeat' split) <;> simp [accept, refuse]

/-! ## Position, zones and cues -/

@[simp] theorem zoneNotice_outputs (cause : ZoneCause) (dir : Option Dir) (block : Option (Nat × Dir)) :
    (zoneNotice cause dir block s).outputs = s.outputs := (rfl)

@[simp] theorem rezonePosition_outputs (dir : Option Dir) : (rezonePosition dir s).outputs = s.outputs := by
  unfold rezonePosition; dsimp only; split <;> simp

@[simp] theorem rezoneEdit_keeps (before : ZoneAttrs) (h : Keeps o s.outputs) : Keeps o (rezoneEdit before s).outputs := by
  refine zoneDirectionRule_keeps ?_
  (repeat' split) <;> simp [h]

@[simp] theorem markMissed_outputs (id : Nat) : (markMissed id s).outputs = s.outputs := (rfl)

@[simp] theorem reachCue_outputs (byFix : Bool) (d : Dir) (c : Cue) : (reachCue byFix d c s).outputs = s.outputs := by
  unfold reachCue
  dsimp only
  (repeat' split) <;> simp [capWind]

@[simp] theorem reachCues_outputs (byFix : Bool) (d : Dir) (x0 : Int) : (reachCues byFix d x0 s).outputs = s.outputs := by
  rw [reachCues, State.onCues_outputs]
  exact foldl_keeps State.outputs _ (fun t c => reachCue_outputs byFix d c) _ s

@[simp] theorem loadDistance_keeps (h : Keeps o s.outputs) : Keeps o (loadDistance s).outputs := by
  unfold loadDistance; split <;> simp [h]

@[simp] theorem surveyOwnEnd_keeps (outcome : SurveyOutcome) (reason : Option AbortReason) (by_ : EndedBy)
    (h : Keeps o s.outputs) : Keeps o (surveyOwnEnd outcome reason by_ s).outputs := by
  simp [surveyOwnEnd, h]

@[simp] theorem surveyRange_keeps (h : Keeps o s.outputs) : Keeps o (surveyRange s).outputs := by
  unfold surveyRange; (repeat' split) <;> simp [h]

@[simp] theorem positionMoved_keeps (byFix : Bool) (d : Dir) (x0 : Int) (h : Keeps o s.outputs) :
    Keeps o (positionMoved byFix d x0 s).outputs :=
  surveyRange_keeps (loadDistance_keeps (zoneDirectionRule_keeps (by simp [h])))

@[simp] theorem rollerEdge_keeps (d : Dir) (h : Keeps o s.outputs) : Keeps o (rollerEdge d s).outputs := by
  simp [rollerEdge, countEdge, h]

@[simp] theorem conditionIf_keepsOutputs (given : Bool) (kind : FaultKind) (reel : Option Reel) (h : Keeps o s.outputs) :
    Keeps o (conditionIf given kind reel s).outputs := by
  unfold conditionIf; split <;> simp [h]

@[simp] theorem speedSample_keeps (h : Keeps o s.outputs) : Keeps o (speedSample s).outputs :=
  conditionIf_keepsOutputs _ _ _ (conditionIf_keepsOutputs _ _ _ (conditionIf_keepsOutputs _ _ _ (by simp [h])))

@[simp] theorem answerPresetPosition_outputs (value : Int) : (answerPresetPosition value s).state.outputs = s.outputs := by
  unfold answerPresetPosition; (repeat' split) <;> simp [accept, refuse, presetTo]

@[simp] theorem fixTo_keeps (value : Int) (h : Keeps o s.outputs) : Keeps o (fixTo value s).outputs := by
  unfold fixTo; dsimp only; split <;> simp [h]

@[simp] theorem answerPositionFix_keeps (value : Int) (window : Nat) (h : Keeps o s.outputs) :
    Keeps o (answerPositionFix value window s).state.outputs := by
  unfold answerPositionFix; dsimp only; (repeat' split) <;> simp [accept, h]

@[simp] theorem storeZone_keeps (index : Nat) (z : ZoneEntry) (h : Keeps o s.outputs) : Keeps o (storeZone index z s).outputs := by
  unfold storeZone; split <;> simp [h]

@[simp] theorem answerSetZone_keeps (index enabled : Nat) (base : Int) (k limit scale dirs inhibit : Nat)
    (h : Keeps o s.outputs) : Keeps o (answerSetZone index enabled base k limit scale dirs inhibit s).state.outputs := by
  unfold answerSetZone; (repeat' split) <;> simp [accept, refuse, h]

@[simp] theorem answerClearZone_keeps (index : Nat) (h : Keeps o s.outputs) : Keeps o (answerClearZone index s).state.outputs := by
  unfold answerClearZone; split <;> simp [accept, refuse, h]

@[simp] theorem answerSetBaseZone_keeps (limit scale dirs inhibit : Nat) (h : Keeps o s.outputs) :
    Keeps o (answerSetBaseZone limit scale dirs inhibit s).state.outputs := by
  unfold answerSetBaseZone storeBaseZone; split <;> simp [accept, refuse, h]

@[simp] theorem answerAddCue_outputs (id : Nat) (position : Int) (kind : Nat) (label : List Byte) :
    (answerAddCue id position kind label s).state.outputs = s.outputs := by
  unfold answerAddCue; (repeat' split) <;> simp [accept, refuse]

@[simp] theorem deleteCue_outputs (id : Nat) : (deleteCue id s).outputs = s.outputs := (rfl)

@[simp] theorem answerDeleteCue_outputs (id : Nat) : (answerDeleteCue id s).state.outputs = s.outputs := by
  unfold answerDeleteCue; split <;> simp [accept, refuse]

@[simp] theorem answerClearCues_outputs : (answerClearCues s).state.outputs = s.outputs := by
  unfold answerClearCues accept
  exact foldl_keeps State.outputs (fun t (c : Cue) => deleteCue c.id t) (fun _ c => deleteCue_outputs c.id) s.cues.list s

/-! ## The speed profile and the look-ahead -/

@[simp] theorem publishRef_outputs (v a : Int) : (publishRef v a s).outputs = s.outputs := (rfl)
@[simp] theorem holdRef_outputs : (holdRef s).outputs = s.outputs := (rfl)
@[simp] theorem followCapstan_outputs : (followCapstan s).outputs = s.outputs := (rfl)

@[simp] theorem dropMissedCues_outputs : (dropMissedCues s).outputs = s.outputs := by
  unfold dropMissedCues
  split
  · rfl
  · exact foldl_keeps State.outputs (fun t (c : Cue) => markMissed c.id t) (fun _ (c : Cue) => markMissed_outputs c.id) _ s

@[simp] theorem runProfile_outputs : (runProfile s).outputs = s.outputs := by
  unfold runProfile; dsimp only; split <;> simp

@[simp] theorem refByPinch_outputs : (refByPinch s).outputs = s.outputs := by
  unfold refByPinch; split <;> simp

@[simp] theorem dropPlayCues_outputs : (dropPlayCues s).outputs = s.outputs :=
  foldl_keeps State.outputs (fun t (c : Cue) => markMissed c.id t) (fun _ (c : Cue) => markMissed_outputs c.id) _ s

@[simp] theorem checkPlayStops_keeps (h : Keeps o s.outputs) : Keeps o (checkPlayStops s).outputs := by
  unfold checkPlayStops; dsimp only; (repeat' split) <;> simp [h]

end Blocks
section Units

variable {o : Outputs} {s : State}

/-! ## The Motion Planner -/

@[simp] theorem startProbe_keeps (h : Keeps o s.outputs) : Keeps o (startProbe s).outputs := by
  simp [startProbe, h]

@[simp] theorem takeUpStep_keeps (h : Keeps o s.outputs) : Keeps o (takeUpStep s).outputs := by
  unfold takeUpStep; dsimp only; (repeat' split) <;> simp [h]

/-- The pinch is commanded closed in a mode that is not at rest (R94). -/
theorem Keeps.pinchClosed {p : Outputs} (h : Keeps o p) (hm : ¬p.mode.atRest = true) : Keeps o p.pinchClosed where
  lines ho := by
    obtain ⟨hs, ht, -⟩ := h.lines ho
    refine ⟨hs, ht, ?_⟩
    cases hp : p.pinch <;> simp [Outputs.pinchClosed, hp, PinchState.commandedClosed]
  drives ho := ⟨(h.drives ho).1, fun hr => absurd hr hm⟩
  capstan ho := h.capstan ho

/-- The match runs in ENGAGING and in a chase, of which neither is a mode at rest. -/
theorem atRest_of_matching (hm : matching s = true) : ¬s.planner.mode.atRest = true := by
  simp only [matching, Bool.and_eq_true, Bool.or_eq_true, beq_iff_eq] at hm
  obtain ⟨he | ⟨hc, -⟩, -⟩ := hm
  · simp [he]
  · simp [hc]

theorem matchStep_keeps (h : Keeps o s.outputs) (hm : matching s = true) : Keeps o (matchStep s).outputs := by
  unfold matchStep
  split
  · change Keeps o s.outputs.pinchClosed
    exact h.pinchClosed (atRest_of_matching hm)
  · split <;> simp [h]

@[simp] theorem rampDownStep_keeps (h : Keeps o s.outputs) : Keeps o (rampDownStep s).outputs := by
  unfold rampDownStep; split <;> simp [h]

/-- BRAKED is entered from BRAKING, where the transport is secured already (R100). -/
theorem brakingStep_keeps (h : Keeps o s.outputs) (hm : s.planner.mode = .braking) : Keeps o (brakingStep s).outputs := by
  unfold brakingStep
  split
  · rw [enterBraked, setMode_outputs]
    change Keeps o (s.outputs.inMode .braked)
    exact h.inMode_secured fun ho => (h.drives ho).2 (by simp [State.outputs, hm])
  · simp [h]

@[simp] theorem postAutoStop_outputs : (postAutoStop s).outputs = s.outputs := by
  unfold postAutoStop; split <;> simp

@[simp] theorem postZoneBlocked_outputs : (postZoneBlocked s).outputs = s.outputs := by
  unfold postZoneBlocked; split <;> simp

@[simp] theorem endStop_keeps (h : Keeps o s.outputs) : Keeps o (endStop s).outputs := by
  unfold endStop; dsimp only; split <;> simp [h]

@[simp] theorem plannerEvents_keeps (h : Keeps o s.outputs) : Keeps o (plannerEvents s).outputs := by
  have hmatch (u : State) (hu : Keeps o u.outputs) : Keeps o (if matching u then matchStep u else u).outputs := by
    split
    · exact matchStep_keeps hu ‹_›
    · exact hu
  unfold plannerEvents
  split
  · split <;> simp [h]
  · exact hmatch _ (checkPlayStops_keeps h)
  · exact hmatch _ (checkPlayStops_keeps h)
  · exact hmatch _ (checkPlayStops_keeps h)
  · split <;> simp [h]
  · exact brakingStep_keeps h ‹_›
  · exact h

@[simp] theorem windEnd_keeps (h : Keeps o s.outputs) : Keeps o (windEnd s).outputs := by
  unfold windEnd; split <;> simp [h]

@[simp] theorem moveRef_keeps (h : Keeps o s.outputs) : Keeps o (moveRef s).outputs := by
  unfold moveRef; dsimp only; (repeat' split) <;> simp [h]

@[simp] theorem noteCues_outputs : (noteCues s).outputs = s.outputs := by
  unfold noteCues; split <;> simp

@[simp] theorem plannerStep_keeps (h : Keeps o s.outputs) : Keeps o (plannerStep s).outputs := by
  rw [plannerStep, noteCues_outputs]
  exact moveRef_keeps (plannerEvents_keeps h)

@[simp] theorem startTakeUp_keeps (h : Keeps o s.outputs) : Keeps o (startTakeUp s).outputs := by
  unfold startTakeUp
  exact enableDrives_keeps (by simp [h]) (by simp)

/-- A transition of the brakes that ends as it was commanded (R83). -/
theorem brakeEnded_keeps {b : BrakeState} (h : Keeps o s.outputs) (hb : b.commandedApplied = s.planner.brake.commandedApplied) :
    Keeps o (s.onPlanner fun p => { p with brake := b }).outputs :=
  h.trans ⟨fun ⟨hs, ht, hp⟩ => ⟨hs.trans hb.symm, ht.trans hb.symm, hp⟩,
    fun ⟨hcode, hrest⟩ => ⟨hcode, fun hm => let ⟨he, hbr, hp⟩ := hrest hm; ⟨he, hb.trans hbr, hp⟩⟩, id⟩

/-- A transition of the pinch roller that ends as it was commanded (R84). -/
theorem pinchEnded_keeps {x : PinchState} (h : Keeps o s.outputs) (hx : x.commandedClosed = s.planner.pinch.commandedClosed) :
    Keeps o (s.onPlanner fun p => { p with pinch := x }).outputs :=
  h.trans ⟨fun ⟨hs, ht, hp⟩ => ⟨hs, ht, hp.trans hx.symm⟩,
    fun ⟨hcode, hrest⟩ => ⟨hcode, fun hm => let ⟨he, hbr, hp⟩ := hrest hm; ⟨he, hbr, hx.trans hp⟩⟩, id⟩

@[simp] theorem brakeComplete_keeps (h : Keeps o s.outputs) : Keeps o (brakeComplete s).outputs := by
  unfold brakeComplete
  split
  next hb =>
    have hended : Keeps o (s.onPlanner fun p => { p with brake := .released }).outputs := brakeEnded_keeps h (by rw [hb]; rfl)
    dsimp only
    split
    · exact startTakeUp_keeps hended
    · exact hended
  next hb =>
    have hended : Keeps o (s.onPlanner fun p => { p with brake := .applied }).outputs := brakeEnded_keeps h (by rw [hb]; rfl)
    dsimp only
    split
    · exact enterIdle_keeps _ hended
    · exact hended
  next => exact h

@[simp] theorem pinchComplete_keeps (h : Keeps o s.outputs) : Keeps o (pinchComplete s).outputs := by
  unfold pinchComplete
  split
  next hp =>
    have hended : Keeps o (s.onPlanner fun p => { p with pinch := .closed }).outputs := pinchEnded_keeps h (by rw [hp]; rfl)
    dsimp only
    (repeat' split) <;> simp [enterMatch, hended]
  next hp => exact pinchEnded_keeps h (by rw [hp]; rfl)
  next => exact h

/-! ## The requests to the planner -/

/-- The brakes are released as LOADING is entered, a mode that is not at rest (R87). -/
@[simp] theorem startLoad_keeps (h : Keeps o s.outputs) : Keeps o (startLoad s).outputs := by
  rw [startLoad, setMode_outputs]
  change Keeps o (s.outputs.brakesReleased.inMode .loading)
  refine ⟨fun ho => ?_, fun ho => ⟨(h.drives ho).1, fun hr => absurd hr (by simp [Outputs.inMode])⟩, h.capstan⟩
  obtain ⟨-, -, hpinch⟩ := h.lines ho
  cases hb : s.outputs.brake <;>
    simp [Outputs.LinesFollow, Outputs.inMode, Outputs.brakesReleased, hb, hpinch, BrakeState.commandedApplied]

@[simp] theorem answerLoad_keeps (h : Keeps o s.outputs) : Keeps o (answerLoad s).state.outputs := by
  unfold answerLoad; (repeat' split) <;> simp [accept, refuse, h]

@[simp] theorem answerUnload_keeps (h : Keeps o s.outputs) : Keeps o (answerUnload s).state.outputs := by
  unfold answerUnload startUnload; split <;> simp [accept, refuse, h]

@[simp] theorem startWind_keeps (goal : Int) (h : Keeps o s.outputs) : Keeps o (startWind goal s).outputs := by
  have hunit := endUnit_keeps .request h
  simp [startWind, hunit]

@[simp] theorem answerWind_keeps (speed : Int) (h : Keeps o s.outputs) : Keeps o (answerWind speed s).state.outputs := by
  unfold answerWind; dsimp only; (repeat' split) <;> simp [accept, refuse, h]

@[simp] theorem answerPlay_keeps (h : Keeps o s.outputs) : Keeps o (answerPlay s).state.outputs := by
  unfold answerPlay startPlay; (repeat' split) <;> simp [accept, refuse, h]

@[simp] theorem answerStop_keeps (kind : Nat) (h : Keeps o s.outputs) : Keeps o (answerStop kind s).state.outputs := by
  unfold answerStop; split
  · exact h
  · simp only [accept]; split <;> simp [h]

@[simp] theorem answerSetLimits_outputs (apply vMax aAcc aDec guard : Nat) :
    (answerSetLimits apply vMax aAcc aDec guard s).state.outputs = s.outputs := by
  unfold answerSetLimits; split <;> simp [accept]

/-! ## Locate -/

@[simp] theorem publishLocate_outputs (l : LocateRec) : (publishLocate l s).outputs = s.outputs := (rfl)

@[simp] theorem beginLocate_outputs (owner : LocateOwner) (target : Int) (cueId : Option Nat) (thenPlay : Bool) (preroll : Nat)
    (aim : Int) : (beginLocate owner target cueId thenPlay preroll aim s).outputs = s.outputs := (rfl)

/-- The state that a unit step of a locate comes to. -/
def LocateResult.state : LocateResult → State
  | .goesOn s => s
  | .ends _ s => s

@[simp] theorem LocateResult.state_goesOn (s : State) : (LocateResult.goesOn s).state = s := rfl

@[simp] theorem LocateResult.state_ends (outcome : LocateOutcome) (s : State) : (LocateResult.ends outcome s).state = s := rfl

theorem reapproach_outputs (l : LocateRec) : (reapproach l s).state.outputs = s.outputs := by
  unfold reapproach; dsimp only; (repeat' split) <;> simp

theorem locateStep_outputs (l : LocateRec) : (locateStep l s).state.outputs = s.outputs := by
  unfold locateStep creepStep settleStep
  dsimp only
  (repeat' split) <;> simp [reapproach_outputs]

@[simp] theorem hostLocateEnds_keeps (outcome : LocateOutcome) (h : Keeps o s.outputs) :
    Keeps o (hostLocateEnds outcome s).outputs := by
  unfold hostLocateEnds; (repeat' split) <;> simp [h]

@[simp] theorem startLocate_keeps (q : LocateParams) (target : Int) (cueId : Option Nat) (thenPlay : Bool) (preroll : Nat)
    (aim : Int) (h : Keeps o s.outputs) : Keeps o (startLocate q target cueId thenPlay preroll aim s).outputs := by
  have hchase := endChase_keeps .request h
  unfold startLocate
  dsimp only
  split <;> simp [h, hchase]

@[simp] theorem answerLocate_keeps (targetKind : Nat) (position : Int)
    (cueId thenPlay preroll approachDist approachSpeed tolerance : Nat) (h : Keeps o s.outputs) :
    Keeps o (answerLocate targetKind position cueId thenPlay preroll approachDist approachSpeed tolerance s).state.outputs := by
  unfold answerLocate; dsimp only; (repeat' split) <;> simp [accept, refuse, h]

/-! ## The survey and the monitor -/

@[simp] theorem answerSurveyStart_keeps (start finish : Int) (speed tension : Nat) (step : Int)
    (stepCount dwell limitSource limitValue slackThr excThr fastFlag thres shift : Nat) (h : Keeps o s.outputs) :
    Keeps o (answerSurveyStart start finish speed tension step stepCount dwell limitSource limitValue slackThr excThr fastFlag
      thres shift s).state.outputs := by
  unfold answerSurveyStart startSurvey; dsimp only; (repeat' split) <;> simp [accept, refuse, h]

@[simp] theorem surveyPositioned_keeps (outcome : LocateOutcome) (h : Keeps o s.outputs) :
    Keeps o (surveyPositioned outcome s).outputs := by
  unfold surveyPositioned; dsimp only; split <;> simp [h]

@[simp] theorem endStep_keeps (q : SurveyRequest) (e : StepEntry) (by_ : EndedBy) (h : Keeps o s.outputs) :
    Keeps o (endStep q e by_ s).outputs := by
  unfold endStep beginStep; dsimp only; (repeat' split) <;> simp [h]

@[simp] theorem countStep_keeps (q : SurveyRequest) (h : Keeps o s.outputs) : Keeps o (countStep q s).outputs := by
  unfold countStep; dsimp only; (repeat' split) <;> simp [h]

@[simp] theorem surveySample_keeps (h : Keeps o s.outputs) : Keeps o (surveySample s).outputs := by
  unfold surveySample rampSample settleSample beginStep; (repeat' split) <;> simp [h]

@[simp] theorem answerSurveyAbort_keeps (h : Keeps o s.outputs) : Keeps o (answerSurveyAbort s).state.outputs := by
  unfold answerSurveyAbort; split <;> simp [accept, h]

@[simp] theorem monitorSample_outputs (v : SampleView) : (monitorSample v s).outputs = s.outputs := by simp [State.outputs]

/-! ## The chase -/

@[simp] theorem chaseOwnEnd_keeps (cause : ChaseCause) (h : Keeps o s.outputs) : Keeps o (chaseOwnEnd cause s).outputs := by
  simp [chaseOwnEnd, h]

@[simp] theorem makePlan_keeps (m : MasterRec) (h : Keeps o s.outputs) : Keeps o (makePlan m s).outputs := by
  unfold makePlan; dsimp only; (repeat' split) <;> simp [h]

@[simp] theorem haltChase_keeps (cause : ChaseCause) (h : Keeps o s.outputs) : Keeps o (haltChase cause s).outputs := by
  simp [haltChase, h]

@[simp] theorem chaseLocateEnds_keeps (outcome : LocateOutcome) (h : Keeps o s.outputs) :
    Keeps o (chaseLocateEnds outcome s).outputs := by
  unfold chaseLocateEnds doubleLead park; dsimp only; (repeat' split) <;> simp [h]

@[simp] theorem stepChase_outputs_keeps (h : Keeps o s.outputs) : Keeps o (stepChase s).outputs := by
  unfold stepChase seekStep parkedStep startRunup followStep; dsimp only; (repeat' split) <;> simp [h]

@[simp] theorem freewheel_outputs : (freewheel s).outputs = s.outputs := (rfl)

@[simp] theorem silenceStep_keeps (h : Keeps o s.outputs) : Keeps o (silenceStep s).outputs := by
  unfold silenceStep; dsimp only; (repeat' split) <;> simp [h]

@[simp] theorem locateEnds_keeps (owner : LocateOwner) (outcome : LocateOutcome) (h : Keeps o s.outputs) :
    Keeps o (locateEnds owner outcome s).outputs := by
  cases owner <;> simp [locateEnds, h]

@[simp] theorem stepLocate_keeps (l : LocateRec) (h : Keeps o s.outputs) : Keeps o (stepLocate l s).outputs := by
  have hstep := locateStep_outputs (s := s) l
  unfold stepLocate
  split <;> simp_all

@[simp] theorem unitStep_keeps (h : Keeps o s.outputs) : Keeps o (unitStep s).outputs := by
  have hsilence : Keeps o (if s.chase.state = .off then s else silenceStep s).outputs := by split <;> simp [h]
  unfold unitStep
  dsimp only
  split <;> simp [hsilence]

@[simp] theorem answerChaseStart_keeps (offset : Int) (window lead paramFlag gain reseek freewheel : Nat)
    (h : Keeps o s.outputs) : Keeps o (answerChaseStart offset window lead paramFlag gain reseek freewheel s).state.outputs := by
  unfold answerChaseStart startChase; dsimp only; (repeat' split) <;> simp [accept, refuse, h]

@[simp] theorem answerChaseStop_keeps (h : Keeps o s.outputs) : Keeps o (answerChaseStop s).state.outputs := by
  unfold answerChaseStop accept; dsimp only; split <;> simp [h]

@[simp] theorem matchRecord_outputs (inside : Bool) : (matchRecord inside s).outputs = s.outputs := by
  unfold matchRecord; dsimp only; (repeat' split) <;> simp

@[simp] theorem lockedRecord_outputs (inside : Bool) : (lockedRecord inside s).outputs = s.outputs := by
  unfold lockedRecord; dsimp only; (repeat' split) <;> simp

/-- The trim that an error gives is clamped (R143). -/
@[simp] theorem trimRecord_keeps (e : Int) (h : Keeps o s.outputs) : Keeps o (trimRecord e s).outputs := by
  have htrim : Keeps o (s.onCapstan fun c => { c with trim := trimOf e s.params.gain }).outputs := by
    refine State.setTrim_keeps h ?_ ?_ <;> unfold trimOf <;> rw [clampInt_eq (by decide)] <;> omega
  unfold trimRecord
  dsimp only
  split <;> simp [htrim]

@[simp] theorem followRecord_keeps (m : MasterRec) (e : Int) (h : Keeps o s.outputs) : Keeps o (followRecord m e s).outputs := by
  unfold followRecord; (repeat' split) <;> simp [h]

@[simp] theorem seekRecord_keeps (m : MasterRec) (h : Keeps o s.outputs) : Keeps o (seekRecord m s).outputs := by
  unfold seekRecord; (repeat' split) <;> simp [h]

@[simp] theorem parkedRecord_keeps (m : MasterRec) (h : Keeps o s.outputs) : Keeps o (parkedRecord m s).outputs := by
  unfold parkedRecord reseekFrom; (repeat' split) <;> simp [h]

@[simp] theorem takeMaster_keeps (position speed : Int) (h : Keeps o s.outputs) :
    Keeps o (takeMaster position speed s).outputs := by
  unfold takeMaster; dsimp only; split <;> simp [h]

@[simp] theorem answerMasterPosition_keeps (position speed : Int) (h : Keeps o s.outputs) :
    Keeps o (answerMasterPosition position speed s).state.outputs := by
  unfold answerMasterPosition; dsimp only; (repeat' split) <;> simp [accept, refuse, h]

end Units
section Servo

variable {o : Outputs} {s : State}

/-! ## The Sense Scanner -/

@[simp] theorem armMeasured_keeps (r : Reel) (c : Nat) (h : Keeps o s.outputs) : Keeps o (armMeasured r c s).outputs := by
  unfold armMeasured armEnded; split <;> simp [h]

@[simp] theorem armStalled_keeps (r : Reel) (h : Keeps o s.outputs) : Keeps o (armStalled r s).outputs := by
  unfold armStalled armEnded; split <;> simp [h]

@[simp] theorem handAbsent_keeps (i : PresenceId) (h : Keeps o s.outputs) : Keeps o (handAbsent i s).outputs := by
  unfold handAbsent tapeEnd; (repeat' split) <;> simp [h]

@[simp] theorem presenceChanged_keeps (i : PresenceId) (old : Presence) (h : Keeps o s.outputs) :
    Keeps o (presenceChanged i old s).outputs := by
  unfold presenceChanged clearBlocks; dsimp only; (repeat' split) <;> simp [h]

@[simp] theorem presenceMeasured_keeps (c : Nat) (h : Keeps o s.outputs) : Keeps o (presenceMeasured c s).outputs := by
  unfold presenceMeasured; split <;> simp [h]

@[simp] theorem presenceStalled_outputs : (presenceStalled s).outputs = s.outputs := by
  unfold presenceStalled; split <;> simp

@[simp] theorem answerSetSense_keeps (channel apply range cMin cMax tOn tOff suppress : Nat) (h : Keeps o s.outputs) :
    Keeps o (answerSetSense channel apply range cMin cMax tOn tOff suppress s).state.outputs := by
  unfold answerSetSense programArm programPresence; dsimp only; (repeat' split) <;> simp [accept, refuse, h]

@[simp] theorem answerSetArmCal_outputs (channel cCentre cFull : Nat) :
    (answerSetArmCal channel cCentre cFull s).state.outputs = s.outputs := by
  unfold answerSetArmCal; (repeat' split) <;> simp [accept]

/-! ## The Tension Servo -/

/-- A sample gives codes to drives that are ENABLED, as they are not in a mode at rest (R42, R43). -/
theorem sampleServo_keeps (h : Keeps o s.outputs) (hen : s.servo.enabled = true) : Keeps o (sampleServo s).outputs :=
  h.trans ⟨id, fun ⟨_, hrest⟩ => ⟨fun he => absurd (hen.symm.trans he) (by decide), hrest⟩, id⟩

@[simp] theorem latchTension_outputs : (latchTension s).outputs = s.outputs := (rfl)

@[simp] theorem reelConditions_keeps (r : Reel) (x : ReelServo) (h : Keeps o s.outputs) :
    Keeps o (reelConditions r x s).outputs := by
  have hgive (given : Bool) (kind : FaultKind) (t : State) (ht : Keeps o t.outputs) :
      Keeps o (if given then takeCondition kind (some r) t else t).outputs := by split <;> simp [ht]
  exact hgive _ _ _ (hgive _ _ _ (hgive _ _ _ h))

@[simp] theorem giveConditions_keeps (h : Keeps o s.outputs) : Keeps o (giveConditions s).outputs :=
  reelConditions_keeps _ _ (reelConditions_keeps _ _ h)

@[simp] theorem servoSample_keeps (h : Keeps o s.outputs) : Keeps o (servoSample s).outputs := by
  unfold servoSample
  split
  next hen =>
    have hcond := giveConditions_keeps (s := latchTension (sampleServo s)) (sampleServo_keeps h hen)
    exact surveySample_keeps (by simpa using hcond)
  next => exact h

@[simp] theorem setDriveState_outputs (reduced : Bool) : (setDriveState reduced s).outputs = s.outputs := (rfl)

@[simp] theorem driveReduced_keeps (h : Keeps o s.outputs) : Keeps o (driveReduced s).outputs := by
  unfold driveReduced; split <;> simp [h]

@[simp] theorem escalatePowerFail_keeps (h : Keeps o s.outputs) : Keeps o (escalatePowerFail s).outputs := by
  unfold escalatePowerFail; dsimp only; (repeat' split) <;> simp [h]

@[simp] theorem recoveryExpires_outputs : (recoveryExpires s).outputs = s.outputs := by
  unfold recoveryExpires; split <;> simp

@[simp] theorem answerSetTension_outputs (tension : Nat) : (answerSetTension tension s).state.outputs = s.outputs := by
  unfold answerSetTension storeNominal accept; dsimp only; split <;> simp

@[simp] theorem answerSetGains_outputs (apply kpS kiS iMaxS kpT kiT iMaxT kv : Nat) :
    (answerSetGains apply kpS kiS iMaxS kpT kiT iMaxT kv s).state.outputs = s.outputs := by
  unfold answerSetGains; split <;> simp [accept, ReelServo.withGains]

@[simp] theorem answerSetSlew_outputs (slew : Nat) : (answerSetSlew slew s).state.outputs = s.outputs := (rfl)

/-! ## The Fault Unit and the link -/

@[simp] theorem clearFault_keeps (h : Keeps o s.outputs) : Keeps o (clearFault s).outputs := by
  unfold clearFault; dsimp only; split <;> simp [h]

@[simp] theorem answerClearFault_keeps (h : Keeps o s.outputs) : Keeps o (answerClearFault s).state.outputs := by
  unfold answerClearFault; dsimp only; (repeat' split) <;> simp [accept, refuse, h]

@[simp] theorem restartLinkTimer_outputs : (restartLinkTimer s).outputs = s.outputs := by simp [State.outputs]

@[simp] theorem linkExpires_keeps (h : Keeps o s.outputs) : Keeps o (linkExpires s).outputs := by
  unfold linkExpires; split <;> simp [h]

@[simp] theorem answerGetStatus_keeps (h : Keeps o s.outputs) : Keeps o (answerGetStatus s).state.outputs := by
  simp [answerGetStatus, clearStickies, accept, h]

@[simp] theorem telemetryExpires_outputs : (telemetryExpires s).outputs = s.outputs := by simp [State.outputs]

/-! The requests that no block of the outputs takes part in. -/

@[simp] theorem refuse_outputs (code : ResultCode) : (refuse s code).state.outputs = s.outputs := (rfl)

@[simp] theorem accept_outputs (clamped : Bool) (body : List Byte) : (accept s clamped body).state.outputs = s.outputs := (rfl)

@[simp] theorem answerReset_outputs (retain : Nat) : (answerReset retain s).state.outputs = s.outputs := by simp [State.outputs]

@[simp] theorem answerSetNoticeLevel_outputs (kind level : Nat) :
    (answerSetNoticeLevel kind level s).state.outputs = s.outputs := by
  simp [State.outputs]

@[simp] theorem answerSetTelemetry_outputs (period : Nat) : (answerSetTelemetry period s).state.outputs = s.outputs := by
  simp [State.outputs]

@[simp] theorem answerSetLinkTimeout_outputs (timeout : Nat) : (answerSetLinkTimeout timeout s).state.outputs = s.outputs := by
  simp [State.outputs]

@[simp] theorem answerGetFault_outputs : (answerGetFault s).state.outputs = s.outputs := by simp [State.outputs]

@[simp] theorem answerGetZones_outputs : (answerGetZones s).state.outputs = s.outputs := by simp [State.outputs]

@[simp] theorem answerGetCues_outputs (start count : Nat) : (answerGetCues start count s).state.outputs = s.outputs := by
  simp [State.outputs]

@[simp] theorem answerSetCounter_outputs (n apply event qualifier edge invert threshold ovfNotice enable : Nat) :
    (answerSetCounter n apply event qualifier edge invert threshold ovfNotice enable s).state.outputs = s.outputs := by
  simp [State.outputs]

@[simp] theorem answerReadCounters_outputs (clear : Nat) : (answerReadCounters clear s).state.outputs = s.outputs := by
  simp [State.outputs]

@[simp] theorem answerFreeze_outputs : (answerFreeze s).state.outputs = s.outputs := by simp [State.outputs]

@[simp] theorem answerUnfreeze_outputs : (answerUnfreeze s).state.outputs = s.outputs := by simp [State.outputs]

@[simp] theorem answerResetCounters_outputs : (answerResetCounters s).state.outputs = s.outputs := by simp [State.outputs]

@[simp] theorem answerGetSurvey_outputs (start count : Nat) : (answerGetSurvey start count s).state.outputs = s.outputs := by
  simp [State.outputs]

/-- Every request keeps the outputs' invariants, in the block that answers it. -/
@[simp] theorem handleRequest_keeps (c : Instr) (h : Keeps o s.outputs) : Keeps o (handleRequest c s).state.outputs := by
  unfold handleRequest
  split <;> simp [h]

end Servo

/-! ## The message link -/

/-- What a row named for a threshold does where the threshold is reached, and nothing elsewhere (log entry 3). -/
@[simp] theorem Keeps.ite {o : Outputs} {s u : State} {c : Prop} [Decidable c] (hu : Keeps o u.outputs) (hs : Keeps o s.outputs) :
    Keeps o (if c then u else s).outputs := by
  split <;> assumption

section Link

variable {o : Outputs} {s : State}

@[simp] theorem deliver_outputs (kind tag : Byte) (a : Answer) : (deliver kind tag a).outputs = a.state.outputs := (rfl)

@[simp] theorem offerFrame_outputs (f : Frame) : (offerFrame f s).outputs = s.outputs := by
  unfold offerFrame; (repeat' split) <;> simp

@[simp] theorem discardFrame_outputs : (discardFrame s).outputs = s.outputs := by simp [discardFrame]

@[simp] theorem dispatchHead_keeps (h : Keeps o s.outputs) : Keeps o (dispatchHead s).outputs := by
  unfold dispatchHead; (repeat' split) <;> simp [h]

@[simp] theorem frameArrives_keeps (f : Frame) (h : Keeps o s.outputs) : Keeps o (frameArrives f s).outputs := by
  simp [frameArrives, h]

@[simp] theorem requestArrives_keeps (c : Instr) (h : Keeps o s.outputs) : Keeps o (requestArrives c s).outputs := by
  unfold requestArrives; (repeat' split) <;> simp [h]

@[simp] theorem byteInFrame_keeps (l : List Byte) (h : Keeps o s.outputs) : Keeps o (byteInFrame l s).outputs := by
  unfold byteInFrame; dsimp only; (repeat' split) <;> simp [h]

@[simp] theorem byteArrives_keeps (b : Byte) (framingError : Bool) (h : Keeps o s.outputs) :
    Keeps o (byteArrives b framingError s).outputs := by
  unfold byteArrives; (repeat' split) <;> simp [h]

@[simp] theorem frameFinished_keeps (h : Keeps o s.outputs) : Keeps o (frameFinished s).outputs := by
  unfold frameFinished; split <;> simp [h]

end Link

/-! ## Resets -/

/-- The outputs after any reset, but for the varispeed values: all at rest. -/
def Outputs.resting (vsHost trim vs : Int) : Outputs :=
  { brakeS := true, brakeT := true, pinchLine := false, brake := .applied, pinch := .opened, mode := .idle, enabled := false,
    codeS := 0, codeT := 0, vsHost := vsHost, trim := trim, vs := vs, lock := .off, driveCode := 0 }

theorem Outputs.resting_linesFollow (vsHost trim vs : Int) : (Outputs.resting vsHost trim vs).LinesFollow := ⟨rfl, rfl, rfl⟩

theorem Outputs.resting_drivesSafe (vsHost trim vs : Int) : (Outputs.resting vsHost trim vs).DrivesSafe :=
  ⟨fun _ => ⟨rfl, rfl⟩, fun _ => ⟨rfl, rfl, rfl⟩⟩

/-- Going to rest with the trim 0 keeps every invariant, where VS_host is kept and VS stays in its range. -/
theorem Outputs.resting_keeps {o : Outputs} {vs : Int} (hvs : o.CapstanInRange → -1000 ≤ vs ∧ vs ≤ 1000) :
    Keeps o (Outputs.resting o.vsHost 0 vs) where
  lines _ := resting_linesFollow ..
  drives _ := resting_drivesSafe ..
  capstan h := by
    obtain ⟨hlow, hhigh⟩ := hvs h
    obtain ⟨h1, h2, -⟩ := h
    exact ⟨h1, h2, by simp [resting], by simp [resting], hlow, hhigh, fun _ => rfl⟩

theorem enterReset_outputs (cause : ResetCause) (s : State) :
    (enterReset cause s).outputs = .resting s.outputs.vsHost 0 s.outputs.vs := rfl

theorem enterReset_keeps (cause : ResetCause) (s : State) : Keeps s.outputs (enterReset cause s).outputs :=
  Outputs.resting_keeps fun ⟨_, _, _, _, h5, h6, _⟩ => ⟨h5, h6⟩

theorem frameSent_keeps (s : State) : Keeps s.outputs (frameSent s).outputs := by
  unfold frameSent
  split
  next => exact enterReset_keeps ..
  next => simp

/-- The part with its blocks as a reset leaves them, no longer held. -/
def resetBlocks (cause : ResetCause) (s : State) : State :=
  { (if cause = .warm then warmBlocks s else coldBlocks s).onLines (fun l => { l.atReset with resetIn := false }) with
    held := none }

theorem resetBlocks_outputs (cause : ResetCause) (s : State) :
    (resetBlocks cause s).outputs =
      if cause = .warm then .resting s.outputs.vsHost 0 (clampInt (-1000) 1000 s.outputs.vsHost) else .resting 0 0 0 := by
  unfold resetBlocks; split <;> rfl

theorem resting_zero_keeps (o : Outputs) : Keeps o (.resting 0 0 0) where
  lines _ := Outputs.resting_linesFollow ..
  drives _ := Outputs.resting_drivesSafe ..
  capstan _ := by simp [Outputs.CapstanInRange, Outputs.resting]

theorem settleReset_outputs (s : State) : (settleReset s).outputs = s.outputs := by simp [settleReset]

theorem announceReset_keeps {o : Outputs} {s : State} (cause : ResetCause) (h : Keeps o s.outputs) :
    Keeps o (announceReset cause s).outputs := by
  unfold announceReset; dsimp only; (repeat' split) <;> simp [h]

theorem resetBlocks_linesFollow (cause : ResetCause) (s : State) : (resetBlocks cause s).outputs.LinesFollow := by
  rw [resetBlocks_outputs]
  split <;> exact Outputs.resting_linesFollow ..

theorem resetBlocks_keeps (cause : ResetCause) (s : State) : Keeps s.outputs (resetBlocks cause s).outputs := by
  rw [resetBlocks_outputs]
  split
  · exact Outputs.resting_keeps fun _ => by unfold clampInt; omega
  · exact resting_zero_keeps _

/-- What READY, the drive state and POWER_FAIL make of the outputs of the blocks just reset. -/
theorem endReset_keeps_blocks (cause : ResetCause) (s : State) :
    Keeps (resetBlocks cause s).outputs (endReset cause s).outputs := by
  refine announceReset_keeps cause ?_
  rw [settleReset_outputs]
  exact .refl _

/-! ## Every step -/

/-- One state follows another with the three invariants kept. -/
structure Follows (s t : State) : Prop where
  lines : LinesFollow s → LinesFollow t
  drives : DrivesSafe s → DrivesSafe t
  capstan : CapstanInRange s → CapstanInRange t

namespace Follows

variable {s t : State}

theorem trans {u : State} (h : Follows s t) (k : Follows t u) : Follows s u :=
  ⟨k.lines ∘ h.lines, k.drives ∘ h.drives, k.capstan ∘ h.capstan⟩

/-- Where the lines follow at the end, held or not, the outputs decide the rest. -/
theorem of_linesFollow (hl : t.outputs.LinesFollow) (h : Keeps s.outputs t.outputs) : Follows s t where
  lines _ := (linesFollow_iff t).2 fun _ => hl
  drives hs := (drivesSafe_iff t).2 (h.drives ((drivesSafe_iff s).1 hs))
  capstan hs := (capstanInRange_iff t).2 (h.capstan ((capstanInRange_iff s).1 hs))

theorem of_running (hs : s.held = none) (h : Keeps s.outputs t.outputs) : Follows s t where
  lines hl := (linesFollow_iff t).2 fun _ => h.lines ((linesFollow_iff s).1 hl hs)
  drives hd := (drivesSafe_iff t).2 (h.drives ((drivesSafe_iff s).1 hd))
  capstan hc := (capstanInRange_iff t).2 (h.capstan ((capstanInRange_iff s).1 hc))

theorem of_unchanged (hh : t.held = s.held) (h : t.outputs = s.outputs) : Follows s t where
  lines hl := (linesFollow_iff t).2 fun ht => h ▸ (linesFollow_iff s).1 hl (hh ▸ ht)
  drives hd := (drivesSafe_iff t).2 (h ▸ (drivesSafe_iff s).1 hd)
  capstan hc := (capstanInRange_iff t).2 (h ▸ (capstanInRange_iff s).1 hc)

/-- Something that a held part does not do, and that keeps the outputs' invariants. -/
theorem unlessHeld {f g : State → State} (hg : (g s).held = s.held ∧ (g s).outputs = s.outputs)
    (hf : Keeps s.outputs (f s).outputs) : Follows s (if s.held.isSome then g s else f s) := by
  split
  · exact of_unchanged hg.1 hg.2
  next hs => exact of_running (by simpa using hs) hf

theorem enterReset (cause : ResetCause) (s : State) : Follows s (Machine.enterReset cause s) :=
  of_linesFollow (Outputs.resting_linesFollow ..) (enterReset_keeps cause s)

theorem endReset (cause : ResetCause) (s : State) : Follows s (Machine.endReset cause s) :=
  have h := endReset_keeps_blocks cause s
  of_linesFollow (h.lines (resetBlocks_linesFollow cause s)) ((resetBlocks_keeps cause s).trans h)

/-- A row that only a running part takes. -/
theorem whileRunning {f : State → State} (h : Machine.whileRunning f s = .next t) (hf : Keeps s.outputs (f s).outputs) :
    Follows s t := by
  obtain rfl : (if s.held.isSome then s else f s) = t := by simpa [Machine.whileRunning] using h
  exact unlessHeld (g := id) ⟨rfl, rfl⟩ hf

/-- A request takes its frame's way into the part (R180 to R182). -/
theorem request {c : Instr} (h : Host.Outcome.next (requestArrives c s) = (.next t : Host.Outcome State Fault Refusal)) :
    Follows s t := by
  obtain rfl : requestArrives c s = t := by simpa using h
  cases hh : s.held with
  | none => exact of_running hh (by simp)
  | some cause =>
    have hsame : requestArrives c s = s := by unfold requestArrives; split <;> simp [hh]
    rw [hsame]
    exact of_unchanged rfl rfl

end Follows

section Events

variable {s t : State}

theorem rollerEdge_follows {d : Dir} (h : exec (.rollerEdge d) s = .next t) : Follows s t := by
  obtain rfl : (if s.held.isSome then countEdge d s else rollerEdge d s) = t := by simpa [exec, execRollerEdge] using h
  exact .unlessHeld ⟨by simp [countEdge], by simp [countEdge]⟩ (by simp)

theorem supplyLowAssert_follows (h : exec .supplyLowAssert s = .next t) : Follows s t := by
  obtain rfl : (if s.held.isSome then s.onLines fun l => { l with supplyLow := true }
      else escalatePowerFail (driveReduced (s.onLines fun l => { l with supplyLow := true }))) = t := by
    simpa [exec, execSupplyLowAssert] using h
  exact .unlessHeld (g := fun s => s.onLines fun l => { l with supplyLow := true }) ⟨rfl, rfl⟩
    (f := fun s => escalatePowerFail (driveReduced (s.onLines fun l => { l with supplyLow := true })))
    (escalatePowerFail_keeps (by simp))

theorem supplyLowDeassert_follows (h : exec .supplyLowDeassert s = .next t) : Follows s t := by
  obtain rfl : (if s.held.isSome || !s.servo.reduced then s.onLines fun l => { l with supplyLow := false }
      else (s.onLines fun l => { l with supplyLow := false }).onServo fun v => { v with recovery := some 0 }) = t := by
    simpa [exec, execSupplyLowDeassert] using h
  split <;> exact .of_unchanged (by simp) (by simp)

theorem powerFailAssert_follows (h : exec .powerFailAssert s = .next t) : Follows s t := by
  obtain rfl : (if s.held.isSome then s.onLines fun l => { l with powerFail := true }
      else takePowerFail (s.onLines fun l => { l with powerFail := true })) = t := by
    simpa [exec, execPowerFailAssert] using h
  exact .unlessHeld (g := fun s => s.onLines fun l => { l with powerFail := true }) ⟨rfl, rfl⟩
    (f := fun s => takePowerFail (s.onLines fun l => { l with powerFail := true })) (by simp)

theorem powerFailDeassert_follows (h : exec .powerFailDeassert s = .next t) : Follows s t := by
  obtain rfl : (s.onLines fun l => { l with powerFail := false }) = t := by simpa [exec, execPowerFailDeassert] using h
  exact .of_unchanged (by simp) (by simp)

theorem resetInAssert_follows (h : exec .resetInAssert s = .next t) : Follows s t := by
  obtain rfl : enterReset (lineCause s.held) (s.onLines fun l => { l with resetIn := true }) = t := by
    simpa [exec, execResetInAssert] using h
  exact .trans (.of_unchanged (by simp) (by simp)) (.enterReset ..)

theorem resetEnd_follows (h : exec .resetEnd s = .next t) : Follows s t := by
  cases hs : s.held with
  | none =>
    obtain rfl : s = t := by simpa [exec, execResetEnd, hs] using h
    exact .of_unchanged rfl rfl
  | some cause =>
    obtain rfl : endReset cause s = t := by simpa [exec, execResetEnd, hs] using h
    exact .endReset ..

/-- A record row: the record arrives, or nothing happens. -/
theorem record_follows {c : Instr} {p : Bool}
    (h : Host.Outcome.next (if p then requestArrives c s else s) = (.next t : Host.Outcome State Fault Refusal)) :
    Follows s t := by
  cases p with
  | true => exact .request h
  | false => obtain rfl : s = t := by simpa using h
             exact .of_unchanged rfl rfl

theorem resetAfterReply_follows (h : exec .resetAfterReply s = .next t) : Follows s t := by
  simp only [exec, execResetAfterReply] at h
  refine .whileRunning h ?_
  split
  · exact enterReset_keeps ..
  · exact .refl _

theorem chaseMasterLost_follows (h : exec .chaseMasterLost s = .next t) : Follows s t := by
  simp only [exec, execChaseMasterLost] at h
  exact .whileRunning h (.ite (.refl _) (by simp))

theorem exec_follows {c : Instr} (h : exec c s = .next t) : Follows s t := by
  cases c with
  | powerOn =>
    obtain rfl : enterReset .powerOn s = t := by simpa [exec, execPowerOn] using h
    exact .enterReset ..
  | resetInAssert => exact resetInAssert_follows h
  | resetEnd => exact resetEnd_follows h
  | rollerEdge d => exact rollerEdge_follows h
  | supplyLowAssert => exact supplyLowAssert_follows h
  | supplyLowDeassert => exact supplyLowDeassert_follows h
  | powerFailAssert => exact powerFailAssert_follows h
  | powerFailDeassert => exact powerFailDeassert_follows h
  | chaseLocked tag position speed => exact record_follows h
  | chaseLoss tag position speed => exact record_follows h
  | frameReceived byte => exact .whileRunning h (byteArrives_keeps _ _ (.refl _))
  | byteReceived byte framingError => exact .whileRunning h (byteArrives_keeps _ _ (.refl _))
  | interByteTimeout => exact .whileRunning h (by simp)
  | frameSent => exact .whileRunning h (frameSent_keeps s)
  | resetAfterReply => exact resetAfterReply_follows h
  | telemetryTimerExpiry => exact .whileRunning h (by simp)
  | armMeasurementComplete r c => exact .whileRunning h (by simp)
  | presenceMeasurementComplete c => exact .whileRunning h (by simp)
  | measurementStalled counter =>
    cases counter with
    | arm r => exact .whileRunning h (armStalled_keeps r (.refl _))
    | presence => exact .whileRunning h (f := presenceStalled) (by simp)
  | reelTachEdge r winding => exact .whileRunning h (by simp)
  | predictionCountFull r winding => exact .whileRunning h (by simp)
  | packWindowComplete r winding => exact .whileRunning h (by simp)
  | packResync r winding => exact .whileRunning h (by simp)
  | speedSample => exact .whileRunning h (by simp)
  | servoSample => exact .whileRunning h (by simp)
  | saturation r => exact .whileRunning h (by simp)
  | slack r => exact .whileRunning h (by simp)
  | overtension r => exact .whileRunning h (by simp)
  | surveySettleDone => exact .whileRunning h (by simp)
  | surveyStepEnd => exact .whileRunning h (by simp)
  | driveRecoveryExpiry => exact .whileRunning h (by simp)
  | capstanStep => exact .whileRunning h (by simp)
  | capstanStall => exact .whileRunning h (by simp)
  | capstanEncoderEdge d => exact .whileRunning h (by simp)
  | capstanLockGained d => exact .whileRunning h (by simp)
  | capstanLockLost d => exact .whileRunning h (by simp)
  | refInEdge period => exact .whileRunning h (by simp)
  | internalReferenceEdge => exact .whileRunning h (by simp)
  | referenceReturned period => exact .whileRunning h (by simp)
  | referenceLost => exact .whileRunning h (by simp)
  | plannerStep => exact .whileRunning h (by simp)
  | brakeComplete => exact .whileRunning h (by simp)
  | pinchComplete => exact .whileRunning h (by simp)
  | loadTakeUpDone => exact .whileRunning h (by simp)
  | loadTimeout => exact .whileRunning h (by simp)
  | engageMatch => exact .whileRunning h (by simp)
  | pinchCloseCommand => exact .whileRunning h (by simp)
  | engageTimeout => exact .whileRunning h (.ite (stopDemand_keeps _ _ (by simp)) (.refl _))
  | brakingStandstill => exact .whileRunning h (by simp)
  | locateUnitStep => exact .whileRunning h (by simp)
  | locateSettled => exact .whileRunning h (by simp)
  | chaseSilence => exact .whileRunning h (by simp)
  | chaseMasterLost => exact chaseMasterLost_follows h
  | linkSilence => exact .whileRunning h (by simp)
  | _ => exact .request h

end Events

/-! ## The millisecond of an empty queue -/

section Tick

variable {o : Outputs} {s : State}

@[simp] theorem tickRecovery_outputs : (tickRecovery s).outputs = s.outputs := by
  unfold tickRecovery; (repeat' split) <;> simp

@[simp] theorem tickTelemetry_outputs : (tickTelemetry s).outputs = s.outputs := by
  unfold tickTelemetry; (repeat' split) <;> simp

@[simp] theorem tickLink_keeps (h : Keeps o s.outputs) : Keeps o (tickLink s).outputs := by
  unfold tickLink; (repeat' split) <;> simp [h]

theorem tick_follows (s : State) : Follows s (tick s) :=
  .unlessHeld (g := id) (f := fun s => tickLink (tickTelemetry (tickRecovery s))) ⟨rfl, rfl⟩ (tickLink_keeps (by simp))

end Tick

theorem step_follows {s t : State} (h : step s = .next t) : Follows s t := by
  unfold step at h
  split at h
  next =>
    obtain rfl : tick s = t := by simpa using h
    exact tick_follows s
  next c rest _ =>
    have hs : Follows s { s with pending := rest } := .of_unchanged rfl rfl
    exact hs.trans (exec_follows h)

/-- Settles O55: what a step does to the mechanics, the drives and the capstan is one of the commands to them, and each of these
keeps the three invariants. -/
theorem outputsFollowTheCommandsInEveryStep : Obligations.OutputsFollowTheCommandsInEveryStep :=
  ⟨fun _ _ hs h => (step_follows h).lines hs, fun _ _ hs h => (step_follows h).drives hs,
    fun _ _ hs h => (step_follows h).capstan hs⟩

/-! ## The step and the clock (O1) -/

section Clock

/-- A timer that counts, and at its bound does what its row does. -/
theorem timerMs_of_tick {value : State → Option Nat} {bound : Nat} {counted : Nat → State → State} {expiry : Instr} {s t u : State}
    (hnone : value s = none → t = s) (hcount : ∀ n, value s = some n → t = if bound ≤ n + 1 then u else counted (n + 1) s)
    (hrow : exec expiry s = .next u) : TimerMs value bound counted expiry s t := by
  refine ⟨hnone, fun n hn => ⟨fun hlt => ?_, fun hge => ?_⟩⟩
  · rw [hcount n hn, if_neg (Nat.not_le.2 hlt)]
  · rw [hrow, hcount n hn, if_pos hge]

variable {s : State}

theorem tickRecovery_timerMs (hs : s.held = none) :
    TimerMs (·.servo.recovery) 1000 (fun n x => x.onServo fun v => { v with recovery := some n }) .driveRecoveryExpiry s
      (tickRecovery s) :=
  timerMs_of_tick (fun h => by simp [tickRecovery, h]) (fun n h => by simp [tickRecovery, h]) (whileRunning_of_running hs)

theorem tickTelemetry_timerMs (hs : s.held = none) :
    TimerMs (·.link.telTimer) s.link.telPeriod (fun n x => x.onLink fun l => { l with telTimer := some n }) .telemetryTimerExpiry s
      (tickTelemetry s) :=
  timerMs_of_tick (fun h => by simp [tickTelemetry, h]) (fun n h => by simp [tickTelemetry, h]) (whileRunning_of_running hs)

theorem tickLink_timerMs (hs : s.held = none) :
    TimerMs (·.fault.linkTimer) s.fault.linkTimeout (fun n x => x.onFault fun f => { f with linkTimer := some n }) .linkSilence s
      (tickLink s) :=
  timerMs_of_tick (fun h => by simp [tickLink, h]) (fun n h => by simp [tickLink, h]) (whileRunning_of_running hs)

/-- The DRIVE notice that the recovery timer posts leaves the telemetry period. -/
theorem tickRecovery_telPeriod (s : State) : (tickRecovery s).link.telPeriod = s.link.telPeriod := by
  unfold tickRecovery recoveryExpires setDriveState; (repeat' split) <;> simp

end Clock

/-- Settles O1: the three timers are taken in turn, and none of them touches the bound of the next. -/
theorem stepTakesTheFrontCommand : Obligations.StepTakesTheFrontCommand := by
  refine ⟨fun c rest s h => by rw [step, h], fun s h => ⟨fun hheld => ?_, fun hrun => ?_⟩⟩
  · rw [step, h]
    simp [tick, Option.isSome_iff_ne_none, hheld]
  · refine ⟨tickRecovery s, tickTelemetry (tickRecovery s), tickLink (tickTelemetry (tickRecovery s)), ?_, ?_, ?_, ?_⟩
    · rw [step, h]
      simp [tick, hrun]
    · exact tickRecovery_timerMs hrun
    · simpa [tickRecovery_telPeriod] using tickTelemetry_timerMs (s := tickRecovery s) (by simpa using hrun)
    · simpa using tickLink_timerMs (s := tickTelemetry (tickRecovery s)) (by simpa using hrun)

/-! ## SET_TENSION, SET_GAINS and SET_LIMITS (O20) -/

section Requests

variable {s : State}

theorem State.onServo_onlyChanges (s : State) (f : Servo → Servo) : OnlyChanges [.servo] s (s.onServo f) := by
  intro b; cases b <;> simp [sameBlock]

theorem State.onPlanner_onlyChanges (s : State) (f : Planner → Planner) : OnlyChanges [.planner] s (s.onPlanner f) := by
  intro b; cases b <;> simp [sameBlock]

theorem okOr_not_bne {α : Type} [DecidableEq α] (a b : α) : okOr (a != b) = if a = b then .ok else .okClamped := by
  rw [okOr_eq]; simp

theorem okOr_eq_ok_iff (clamped : Bool) : okOr clamped = .ok ↔ clamped = false := by cases clamped <;> decide

theorem okOr_cases (clamped : Bool) : okOr clamped = .ok ∨ okOr clamped = .okClamped := by cases clamped <;> decide

/-! ### SET_TENSION (R47) -/

theorem storeNominal_onlyChanges (t : Nat) (s : State) : OnlyChanges [.packs, .planner] s (storeNominal t s) := by
  intro b; cases b <;> simp [sameBlock]

theorem storeNominal_packs (t : Nat) (s : State) :
    (storeNominal t s).packs = { s.packs with tape := { s.packs.tape with tNom := t } } := by
  unfold storeNominal; dsimp only; split <;> simp

theorem storeNominal_planner (t : Nat) (s : State) :
    (storeNominal t s).planner =
      { s.planner with torque := if t = s.packs.tape.tNom then s.planner.torque else torqueLimits (storeNominal t s) } := by
  unfold storeNominal
  dsimp only
  split
  next => simp
  next => rw [recomputeLimits_planner]; simp

theorem clampNat_eq_self_iff {a b : Nat} (h : a ≤ b) (x : Nat) : clampNat a b x = x ↔ a ≤ x ∧ x ≤ b := by
  rw [clampNat_eq h]; omega

theorem answerSetTension_eq {tension : Nat} (h : s.packs.tape.tMin ≤ s.packs.tape.tMax) {t : State}
    (ht : t = storeNominal (clampNat s.packs.tape.tMin s.packs.tape.tMax tension) s) :
    answerSetTension tension s =
      { state := t, code := if s.packs.tape.tMin ≤ tension ∧ tension ≤ s.packs.tape.tMax then .ok else .okClamped,
        body :=
          outU16 (clampNat s.packs.tape.tMin s.packs.tape.tMax tension) ++ outU16 (shownTarget t) ++ outU16 t.servo.tEff } := by
  rw [answerSetTension, accept, okOr_not_bne, ht]
  simp only [clampNat_eq_self_iff h]

/-! ### SET_GAINS (R64) -/

theorem ReelServo.withGains_eq (x : ReelServo) {kp ki iMax b : Nat} (hb : b = max 1000 (min 1000000 iMax)) :
    x.withGains kp ki iMax =
      { x with kp := min 4095 kp, ki := min 255 ki, iMax := b, integ := max (-(b : Int)) (min b x.integ) } := by
  subst hb
  simp only [ReelServo.withGains]
  rw [clampNat_eq (by decide), clampNat_eq (by decide), clampNat_eq (by decide), clampInt_eq (by omega), Nat.zero_max, Nat.zero_max]

theorem ReelServo.withGains_gainsAre_iff (x : ReelServo) (kp ki iMax : Nat) :
    (x.withGains kp ki iMax).gainsAre kp ki iMax = true ↔ kp ≤ 4095 ∧ ki ≤ 255 ∧ 1000 ≤ iMax ∧ iMax ≤ 1000000 := by
  simp only [x.withGains_eq rfl, gainsAre, Bool.and_eq_true, beq_iff_eq]
  omega

/-- The servo with the gains that a SET_GAINS brings. -/
def Servo.withGains (kpS kiS iMaxS kpT kiT iMaxT kv : Nat) (v : Servo) : Servo :=
  { v with reels := { supply := v.reels.supply.withGains kpS kiS iMaxS, takeup := v.reels.takeup.withGains kpT kiT iMaxT },
           kv := clampNat 0 1000 kv }

theorem answerSetGains_report (kpS kiS iMaxS kpT kiT iMaxT kv : Nat) (s : State) :
    answerSetGains 0 kpS kiS iMaxS kpT kiT iMaxT kv s = { state := s, code := .ok, body := gainsReply s.servo } := rfl

variable {apply kpS kiS iMaxS kpT kiT iMaxT kv : Nat}

theorem answerSetGains_applied (h : apply ≠ 0) :
    ∃ clamped : Bool,
      answerSetGains apply kpS kiS iMaxS kpT kiT iMaxT kv s =
        { state := s.onServo (Servo.withGains kpS kiS iMaxS kpT kiT iMaxT kv), code := okOr clamped,
          body := gainsReply (s.servo.withGains kpS kiS iMaxS kpT kiT iMaxT kv) } ∧
      (clamped = false ↔ kpS ≤ 4095 ∧ kiS ≤ 255 ∧ 1000 ≤ iMaxS ∧ iMaxS ≤ 1000000 ∧ kpT ≤ 4095 ∧ kiT ≤ 255 ∧ 1000 ≤ iMaxT ∧
        iMaxT ≤ 1000000 ∧ kv ≤ 1000) := by
  refine ⟨_, by rw [answerSetGains, flagSet_of_ne h]; rfl, ?_⟩
  have hkv : clampNat 0 1000 kv = kv ↔ kv ≤ 1000 := by rw [clampNat_eq_self_iff (by decide)]; omega
  simp [ReelServo.withGains_gainsAre_iff, hkv, and_assoc]

/-! ### SET_LIMITS (R102) -/

variable {vMax aAcc aDec guard : Nat}

/-- The reply is made of the packs, the drive state and the planner alone (Table 5-4). -/
theorem limitsReply_congr {s t : State} (hp : t.packs = s.packs) (hv : t.servo = s.servo) (hq : t.planner = s.planner) :
    limitsReply t = limitsReply s := by
  simp [limitsReply, vMaxEff, aAccEff, aDecEff, hp, hv, hq]

/-- The planner with the limits that a SET_LIMITS brings. -/
def Planner.withLimits (vMax aAcc aDec guard : Nat) (p : Planner) : Planner :=
  { p with vMax := clampNat 100 12000 vMax, aAcc := clampNat 100 6000 aAcc, aDec := clampNat 100 6000 aDec,
           guard := clampNat 0 80000 guard }

/-- R102: the limits are stored and the torque-available limits recomputed. -/
def storeLimits (vMax aAcc aDec guard : Nat) (s : State) : State :=
  recomputeLimits (s.onPlanner (Planner.withLimits vMax aAcc aDec guard))

theorem storeLimits_planner (vMax aAcc aDec guard : Nat) (s : State) :
    (storeLimits vMax aAcc aDec guard s).planner =
      { s.planner with
        vMax := max 100 (min 12000 vMax), aAcc := max 100 (min 6000 aAcc), aDec := max 100 (min 6000 aDec),
        guard := min 80000 guard, torque := torqueLimits s } := by
  rw [storeLimits, recomputeLimits_planner, torqueLimits_congr (s := s) (by simp) (by simp)]
  simp [Planner.withLimits, clampNat_eq]

theorem storeLimits_onlyChanges (vMax aAcc aDec guard : Nat) (s : State) :
    OnlyChanges [.planner] s (storeLimits vMax aAcc aDec guard s) := by
  intro b; cases b <;> simp [sameBlock, storeLimits]

theorem answerSetLimits_report (vMax aAcc aDec guard : Nat) (s : State) :
    answerSetLimits 0 vMax aAcc aDec guard s = { state := s, code := .ok, body := limitsReply s } := rfl

theorem answerSetLimits_applied (h : apply ≠ 0) {p : Planner} (hp : p = (storeLimits vMax aAcc aDec guard s).planner) :
    answerSetLimits apply vMax aAcc aDec guard s =
      { state := storeLimits vMax aAcc aDec guard s,
        code := okOr (p.vMax != vMax || p.aAcc != aAcc || p.aDec != aDec || p.guard != guard),
        body := limitsReply (storeLimits vMax aAcc aDec guard s) } := by
  rw [answerSetLimits, flagSet_of_ne h, hp]
  rfl

end Requests

/-- Settles O20: each request is answered by its block from the state with the link timer restarted, whose packs, servo and planner
are those of `s`. -/
theorem tensionGainsAndLimitsAreStored : Obligations.TensionGainsAndLimitsAreStored := by
  refine ⟨?tension, ?gains, ?limits⟩
  case tension =>
    intro tag tension s hs hrange
    have answered {code : ResultCode} {body : List Byte} {t : State}
        (h : answerSetTension tension (restartLinkTimer s) = { state := t, code := code, body := body }) :
        Answered (.setTension tag tension) s 0x98 tag code body t :=
      answered_of_ready hs rfl rfl rfl rfl h
    obtain ⟨-, -, hpacks, -, -, hplanner, -⟩ := restartLinkTimer_frame s
    rw [← hpacks] at hrange ⊢
    rw [← hplanner]
    generalize restartLinkTimer s = v at *
    refine ⟨_, _, answered (answerSetTension_eq hrange rfl), storeNominal_onlyChanges _ _, ?_, ?_⟩
    · rw [storeNominal_packs, clampNat_eq hrange]
    · rw [storeNominal_packs]
      exact storeNominal_planner _ _
  case gains =>
    intro tag apply kpS kiS iMaxS kpT kiT iMaxT kv s hs
    have answered {code : ResultCode} {body : List Byte} {t : State}
        (h : answerSetGains apply kpS kiS iMaxS kpT kiT iMaxT kv (restartLinkTimer s) =
          { state := t, code := code, body := body }) :
        Answered (.setGains tag apply kpS kiS iMaxS kpT kiT iMaxT kv) s 0x99 tag code body t :=
      answered_of_ready hs rfl rfl rfl rfl h
    obtain ⟨-, -, -, hservo, -⟩ := restartLinkTimer_frame s
    rw [← hservo]
    generalize restartLinkTimer s = v at *
    refine ⟨?report, fun happly => ?stored⟩
    case report =>
      rintro rfl
      exact answered (answerSetGains_report ..)
    case stored =>
      obtain ⟨clamped, hanswer, hclamped⟩ := answerSetGains_applied (s := v) (kpS := kpS) (kiS := kiS) (iMaxS := iMaxS)
        (kpT := kpT) (kiT := kiT) (iMaxT := iMaxT) (kv := kv) happly
      refine ⟨_, _, answered hanswer, State.onServo_onlyChanges _ _, (okOr_eq_ok_iff _).trans hclamped, okOr_cases _, ?_, ?_⟩
      · simp [Servo.withGains, clampNat_eq]
      · rintro r kp ki iMax b hb (⟨rfl, rfl, rfl, rfl⟩ | ⟨rfl, rfl, rfl, rfl⟩) <;> exact ReelServo.withGains_eq _ hb
  case limits =>
    intro tag apply vMax aAcc aDec guard s hs
    have answered {code : ResultCode} {body : List Byte} {t : State}
        (h : answerSetLimits apply vMax aAcc aDec guard (restartLinkTimer s) = { state := t, code := code, body := body }) :
        Answered (.setLimits tag apply vMax aAcc aDec guard) s 0xAD tag code body t :=
      answered_of_ready hs rfl rfl rfl rfl h
    obtain ⟨-, -, hpacks, hservo, -, hplanner, -⟩ := restartLinkTimer_frame s
    have hreply := limitsReply_congr hpacks hservo hplanner
    rw [← hreply, ← hplanner, ← torqueLimits_congr hpacks hservo]
    generalize restartLinkTimer s = v at *
    refine ⟨?report, fun happly => ?stored⟩
    case report =>
      rintro rfl
      exact answered (answerSetLimits_report ..)
    case stored =>
      refine ⟨_, _, answered (answerSetLimits_applied happly rfl), storeLimits_onlyChanges _ _ _ _ v,
        storeLimits_planner .., okOr_cases _, ?_⟩
      rw [okOr_eq_ok_iff]
      simp [and_assoc]

/-! ## SET_SLEW and the slew (O21) -/

section Slew

/-- R48: T_eff16 moves by 4σ toward its goal, or to the goal where it lies within that. -/
theorem slewed_toNat (x slew : Nat) (z : Int) :
    slewed x slew (z * 16) =
      (if (x : Int) < 16 * z then min (16 * z) (x + 4 * slew) else max (16 * z) (x - 4 * slew)).toNat := by
  unfold slewed mag
  dsimp only
  (repeat' split) <;> omega

theorem slewed_eq (x slew tz : Nat) :
    slewed x slew ((tz : Int) * 16) =
      if x < 16 * tz then min (16 * tz) (x + 4 * slew) else max (16 * tz) (x - 4 * slew) := by
  rw [slewed_toNat]
  (repeat' split) <;> omega

theorem Servo.slewStep_tEff16 (v : Servo) (tz : Nat) :
    (v.slewStep tz).tEff16 =
      if v.tEff16 < 16 * tz then min (16 * tz) (v.tEff16 + 4 * v.slew) else max (16 * tz) (v.tEff16 - 4 * v.slew) :=
  slewed_eq ..

/-- At σ = 5 a sample moves T_eff16 by 20, here from 50 cN up to 150 cN. -/
theorem Servo.slewStep_iterate {v : Servo} (hslew : v.slew = 5) (hstart : v.tEff16 = 800) (n : Nat) :
    ((fun w : Servo => w.slewStep 150)^[n] v).slew = 5 ∧
      ((fun w : Servo => w.slewStep 150)^[n] v).tEff16 = min 2400 (800 + 20 * n) := by
  induction n with
  | zero => exact ⟨hslew, hstart⟩
  | succ n ih =>
    obtain ⟨hsame, hat⟩ := ih
    rw [Function.iterate_succ_apply']
    refine ⟨hsame, (Servo.slewStep_tEff16 _ 150).trans ?_⟩
    rw [hsame, hat]
    split <;> omega

/-- SET_SLEW clamps σ, stores it and answers with it (R48). -/
theorem setSlew_stored (tag : Byte) {sigma σ : Nat} {s : State} (hs : Ready s) (hσ : σ = max 1 (min 100 sigma)) :
    Answered (.setSlew tag sigma) s 0x9A tag (if σ = sigma then .ok else .okClamped) (outU8 σ)
      ((restartLinkTimer s).onServo fun v => { v with slew := σ }) := by
  refine answered_of_ready hs rfl rfl rfl rfl (?_ : answerSetSlew sigma (restartLinkTimer s) = _)
  rw [answerSetSlew, clampNat_eq (by decide), ← hσ, accept, okOr_not_bne]
  rfl

end Slew

/-- Settles O21: the answer, one sample of the slew, and 80 of them by induction. -/
theorem theSlewRateIsStored : Obligations.TheSlewRateIsStored := by
  refine ⟨fun tag _ _ _ hs hσ => setSlew_stored tag hs hσ, Servo.slewStep_tEff16, rfl, fun v hslew hstart => ⟨?_, ?_⟩⟩
  · rw [(Servo.slewStep_iterate hslew hstart 79).2]; decide
  · rw [(Servo.slewStep_iterate hslew hstart 80).2]; decide

/-! ## SUPPLY_LOW and the recovery timer (O45) -/

section SupplyLow

variable {s : State}

/-- R103 reads the packs, the profiles and whether the drives are REDUCED. -/
theorem torqueLimits_congr_reduced {s t : State} (hp : t.packs = s.packs) (hv : t.servo.reduced = s.servo.reduced) :
    torqueLimits t = torqueLimits s := by
  simp [torqueLimits, torqueLimit, tauLimEff, hp, hv]

/-! ### The drive state (R62, R63) -/

theorem setDriveState_servo (reduced : Bool) (s : State) :
    (setDriveState reduced s).servo = { s.servo with reduced := reduced, recovery := none } := by
  simp [setDriveState]

theorem setDriveState_planner (reduced : Bool) (s : State) :
    (setDriveState reduced s).planner = { s.planner with torque := torqueLimits (setDriveState reduced s) } := by
  rw [setDriveState, recomputeLimits_planner]
  simp

theorem setDriveState_link (reduced : Bool) (s : State) :
    (setDriveState reduced s).link = txTake (enqueueNotice (.drive reduced) s.link) := by
  simp [setDriveState]

theorem setDriveState_onlyChanges (reduced : Bool) (s : State) :
    OnlyChanges [.servo, .planner, .link] s (setDriveState reduced s) := by
  intro b; cases b <;> simp [sameBlock]

theorem driveReduced_of_reduced (h : s.servo.reduced = true) :
    driveReduced s = s.onServo fun v => { v with recovery := none } := by
  rw [driveReduced, if_pos h]

theorem driveReduced_of_full (h : s.servo.reduced = false) :
    driveReduced s = reclampReel .takeup (reclampReel .supply (setDriveState true s)) := by
  rw [driveReduced, if_neg (by simp [h])]

/-- Going from FULL to REDUCED (R62): each code is clamped to the new bound of its reel. -/
theorem driveReduced_servo (h : s.servo.reduced = false) :
    (driveReduced s).servo = { s.servo with reduced := true, recovery := none, reels := (driveReduced s).servo.reels } ∧
      ∀ (r : Reel) (b : Int), b = codeOf ((s.packs.profile.get r).tauLim / 2 : Nat) (s.packs.profile.get r).tauFs →
        (driveReduced s).servo.reels.get r = { s.servo.reels.get r with code := max (-b) (min b (s.servo.reels.get r).code) } := by
  rw [driveReduced_of_full h, reclampReel_servo .takeup _ rfl, reclampReel_servo .supply _ rfl, setDriveState_servo]
  refine ⟨rfl, ?_⟩
  rintro (_ | _) b rfl <;> simp [tauLimEff, setDriveState_servo, reclampReel_servo, PerReel.get, PerReel.set]

theorem driveReduced_planner (h : s.servo.reduced = false) :
    (driveReduced s).planner = { s.planner with torque := torqueLimits (driveReduced s) } := by
  have hlimits : torqueLimits (driveReduced s) = torqueLimits (setDriveState true s) := by
    rw [driveReduced_of_full h]
    exact torqueLimits_congr_reduced (by simp) rfl
  rw [hlimits, driveReduced_of_full h]
  simpa using setDriveState_planner true s

theorem driveReduced_link (h : s.servo.reduced = false) :
    (driveReduced s).link = txTake (enqueueNotice (.drive true) s.link) := by
  rw [driveReduced_of_full h]
  simpa using setDriveState_link true s

theorem driveReduced_onlyChanges (s : State) : OnlyChanges [.servo, .planner, .link] s (driveReduced s) := by
  intro b; cases b <;> simp [sameBlock]

/-- However it stands, the drive state becomes REDUCED; the fault and the motion of the planner stay. -/
theorem driveReduced_reduced (s : State) : (driveReduced s).servo.reduced = true := by
  cases h : s.servo.reduced with
  | true => rw [driveReduced_of_reduced h]; exact h
  | false => rw [(driveReduced_servo h).1]

theorem driveReduced_motion (s : State) :
    (driveReduced s).planner.mode = s.planner.mode ∧ (driveReduced s).planner.stopInForce = s.planner.stopInForce := by
  cases h : s.servo.reduced with
  | true => rw [driveReduced_of_reduced h]; exact ⟨rfl, rfl⟩
  | false => rw [driveReduced_planner h]; exact ⟨rfl, rfl⟩

/-! ### The escalation (R156) -/

theorem escalatePowerFail_of_none (h : s.fault.record = none) : escalatePowerFail s = s := by
  rw [escalatePowerFail, h]

theorem Severity.code_lt_brake {x : Severity} (h : x ≠ .brake) : x.code < Severity.brake.code := by
  cases x <;> revert h <;> decide

/-- A BRAKE demand in STOPPING takes the place of a stop of a lower severity (R98). -/
theorem stopDemand_brake_of_stopping (cause : StopCause) (hm : s.planner.mode = .stopping)
    (hx : ∀ x, s.planner.stopInForce = some x → x ≠ .brake) : stopDemand .brake cause s = enterBraking cause s := by
  unfold stopDemand
  rw [hm]
  cases hstop : s.planner.stopInForce with
  | none => simp [endUnit, hm]
  | some now => simp [Severity.code_lt_brake (hx now hstop)]

theorem applyBrakes_stop (s : State) :
    (applyBrakes s).planner.stopInForce = s.planner.stopInForce ∧ (applyBrakes s).planner.stopCause = s.planner.stopCause :=
  ⟨rfl, rfl⟩

theorem openPinch_stop (s : State) :
    (openPinch s).planner.stopInForce = s.planner.stopInForce ∧ (openPinch s).planner.stopCause = s.planner.stopCause :=
  ⟨rfl, rfl⟩

theorem disableDrives_stop (s : State) :
    (disableDrives s).planner.stopInForce = s.planner.stopInForce ∧ (disableDrives s).planner.stopCause = s.planner.stopCause ∧
      (disableDrives s).servo.reduced = s.servo.reduced := by
  refine ⟨rfl, rfl, ?_⟩
  rw [disableDrives, State.onServo_servo]
  split <;> rfl

theorem enterBraking_stop (cause : StopCause) (s : State) :
    (enterBraking cause s).planner.mode = .braking ∧ (enterBraking cause s).planner.stopInForce = some .brake ∧
      (enterBraking cause s).planner.stopCause = some cause ∧ (enterBraking cause s).fault.record = s.fault.record ∧
      (enterBraking cause s).servo.reduced = s.servo.reduced := by
  simp [enterBraking, openPinch_stop, applyBrakes_stop, disableDrives_stop]

/-- A POWER_FAIL fault below BRAKE whose line is still asserted becomes one of severity BRAKE, with its demand. -/
theorem escalatePowerFail_brake {f : FaultRecord} (hline : s.lines.powerFail = true) (htaken : s.fault.powerFailTaken = true)
    (hf : s.fault.record = some f) (hsev : f.severity ≠ .brake) (hm : s.planner.mode = .stopping)
    (hx : ∀ x, s.planner.stopInForce = some x → x ≠ .brake) :
    (escalatePowerFail s).fault.record = some { f with severity := .brake } ∧ (escalatePowerFail s).planner.mode = .braking ∧
      (escalatePowerFail s).planner.stopInForce = some .brake ∧ (escalatePowerFail s).planner.stopCause = some .fault ∧
      (escalatePowerFail s).servo.reduced = s.servo.reduced := by
  simp only [escalatePowerFail, hf]
  rw [if_pos ⟨htaken, hline, Severity.code_lt_brake hsev⟩,
    stopDemand_brake_of_stopping .fault (by simpa using hm) (by simpa using hx)]
  obtain ⟨hmode, hstop, hcause, hrecord, hreduced⟩ := enterBraking_stop .fault
    (postNotice (Notice.fault true { kind := .powerFail, reel := none } false .brake s.planner.mode (mmPerS s.tach.vMeas)
        s.tach.position)
      (s.onFault fun u => { u with record := some { f with severity := .brake } }))
  exact ⟨hrecord.trans (by simp), hmode, hstop, hcause, hreduced.trans (by simp)⟩

/-! ### The rows -/

theorem exec_supplyLowAssert (h : s.held = none) :
    exec .supplyLowAssert s = .next (escalatePowerFail (driveReduced (s.onLines fun l => { l with supplyLow := true }))) := by
  simp [exec, execSupplyLowAssert, h]

theorem State.onServo_of_fixed {f : Servo → Servo} (h : f s.servo = s.servo) : s.onServo f = s := by
  rw [State.onServo, h]

/-- Where the drive state is FULL the recovery timer does not start. -/
theorem exec_supplyLowDeassert (h : s.held = none) :
    exec .supplyLowDeassert s =
      .next ((s.onLines fun l => { l with supplyLow := false }).onServo fun v =>
        { v with recovery := if v.reduced then some 0 else v.recovery }) := by
  cases hr : s.servo.reduced with
  | true => simp [exec, execSupplyLowDeassert, h, hr, State.onServo]
  | false =>
    have hline : exec .supplyLowDeassert s = .next (s.onLines fun l => { l with supplyLow := false }) := by
      simp [exec, execSupplyLowDeassert, hr]
    rw [hline, State.onServo_of_fixed]
    rw [State.onLines_servo, if_neg (by simp [hr])]

theorem exec_supplyLow_held (h : s.held ≠ none) :
    exec .supplyLowAssert s = .next (s.onLines fun l => { l with supplyLow := true }) ∧
      exec .supplyLowDeassert s = .next (s.onLines fun l => { l with supplyLow := false }) ∧
      exec .driveRecoveryExpiry s = .next s := by
  have hheld := Option.isSome_iff_ne_none.2 h
  simp [exec, execSupplyLowAssert, execSupplyLowDeassert, execDriveRecoveryExpiry, whileRunning, hheld]

theorem exec_driveRecoveryExpiry (h : s.held = none) :
    exec .driveRecoveryExpiry s = .next (if s.servo.recovery.isSome then setDriveState false s else s) :=
  whileRunning_of_running h

end SupplyLow

/-- Settles O45: the rows of the line and of the timer, with the line's level written before the drive state and the escalation. -/
theorem supplyLowReducesTheDrives : Obligations.SupplyLowReducesTheDrives := by
  refine fun s => ⟨exec_supplyLow_held, fun hrun => ⟨fun hr hf => ?again, fun hr hf => ?reduced,
    fun hline htaken f hf hsev hm hx => ?escalated, exec_supplyLowDeassert hrun, fun ht => ?still, fun ht => ?expired⟩⟩
  case again =>
    rw [exec_supplyLowAssert hrun, driveReduced_of_reduced (by simpa using hr), escalatePowerFail_of_none (by simpa using hf)]
  case reduced =>
    rw [exec_supplyLowAssert hrun, escalatePowerFail_of_none (by simpa using hf)]
    obtain ⟨hservo, hreels⟩ := driveReduced_servo (s := s.onLines fun l => { l with supplyLow := true }) hr
    refine ⟨_, rfl, ?_, by simp, hservo, driveReduced_planner hr, driveReduced_link hr, hreels⟩
    intro b; cases b <;> simp [sameBlock]
  case escalated =>
    obtain ⟨hmode, hstop⟩ := driveReduced_motion (s.onLines fun l => { l with supplyLow := true })
    obtain ⟨hrecord, hbraking, hbrake, hcause, hreduced⟩ := escalatePowerFail_brake
      (s := driveReduced (s.onLines fun l => { l with supplyLow := true })) (by simpa using hline) (by simpa using htaken)
      (by simpa using hf) hsev (hmode.trans hm) (by rw [hstop]; exact hx)
    exact ⟨_, exec_supplyLowAssert hrun, hrecord, hbraking, hbrake, hcause, hreduced.trans (driveReduced_reduced _)⟩
  case still =>
    rw [exec_driveRecoveryExpiry hrun, ht]
    rfl
  case expired =>
    rw [exec_driveRecoveryExpiry hrun, if_pos (Option.isSome_iff_ne_none.2 ht)]
    exact ⟨_, rfl, setDriveState_onlyChanges _ s, setDriveState_servo _ s, setDriveState_planner _ s, setDriveState_link _ s⟩

/-! ## The servo sample (O44) -/

section Sample

variable {s : State} {r : Reel}

/-! ### Runs (R59, R60) -/

theorem runNext_below {bound run : Nat} (h : run < bound) (holds : Bool) :
    runNext bound run holds = if holds = true then run + 1 else 0 := by
  unfold runNext; split <;> omega

theorem runNext_eq_bound_iff {bound : Nat} (hpos : 0 < bound) (run : Nat) (holds : Bool) :
    runNext bound run holds = bound ↔ bound ≤ run + 1 ∧ holds = true := by
  cases holds <;> simp [runNext]; omega

/-- A sample brings a run to its bound from one below it, where its condition holds. -/
theorem runReaches_iff {bound : Nat} (hpos : 0 < bound) (run : Nat) (holds : Bool) :
    runReaches bound run (runNext bound run holds) = true ↔ run + 1 = bound ∧ holds = true := by
  simp only [runReaches, Bool.and_eq_true, decide_eq_true_eq, beq_iff_eq, runNext_eq_bound_iff hpos]
  rw [← and_assoc, show run < bound ∧ bound ≤ run + 1 ↔ run + 1 = bound by omega]

/-! ### The torque (R50 to R55) -/

/-- The state of a sample after its slew step, from which the reels are worked out (R43). -/
def slewedState (s : State) : State := s.onServo fun v => v.slewStep (zonedTension s)

theorem torqueSum_eq (s : State) (r : Reel) :
    torqueSum s r =
      (s.servo.tEff * publishedRadius s.packs r + 5000) / 10000 +
        divTrunc
          (-((s.servo.reels.get r).kp * (s.sense.arms.get r).p + (s.servo.reels.get r).ki * (s.servo.reels.get r).integ)) 256 +
        (if r = .takeup then 1 else -1) *
          (divHalfAway (publishedInertia s.packs r * s.planner.aRef * 10) (publishedRadius s.packs r) +
            (s.packs.profile.get r).f * (if 5000 ≤ s.tach.vMeas then 1 else if s.tach.vMeas ≤ -5000 then -1 else 0) +
            speedTermOf s r) := by
  cases r <;> rfl

theorem slackHeld_iff (s : State) : slackHeld s = true ↔ s.planner.mode = .loading ∧ s.planner.sub = some .takeUp := by
  simp [slackHeld]

/-- One reel's items after a sample whose runs stay below their bounds (R55 to R61). -/
theorem sampledReel_eq {lim sum : Int} {sat : Option SatEnd} {x : ReelServo} {p tEff : Int} (hx : x = s.servo.reels.get r)
    (hp : p = (s.sense.arms.get r).p) (hlim : lim = tauLimEff s r) (hsum : sum = torqueSum s r) (hsat : sat = saturatedEnd sum lim)
    (htEff : tEff = s.servo.tEff) (hsatRun : x.satRun < 800) (hslackRun : x.slackRun < 8) (hoverRun : x.overRun < 8) :
    sampledReel s r =
      { x with
          sat := sat
          integ := if (sat = some .high ∧ p < 0) ∨ (sat = some .low ∧ 0 < p) then x.integ
                   else max (-(x.iMax : Int)) (min x.iMax (x.integ + p))
          satRun := if reelDriven s = true ∧ sat ≠ none then x.satRun + 1 else 0
          slackRun := if p ≤ -950 ∧ ¬(s.planner.mode = .loading ∧ s.planner.sub = some .takeUp) then x.slackRun + 1 else 0
          overRun := if 950 ≤ p then x.overRun + 1 else 0
          code := max (-32767) (min 32767
            (divHalfAway (max (-lim) (min lim sum) * 32767) (s.packs.profile.get r).tauFs))
          tEst := tEff + divTrunc (p * s.packs.tape.tSpan) 1000 } := by
  subst hx hp hsum hsat htEff
  have hlimits : -lim ≤ lim := by omega
  have hslack : (!slackHeld s && decide ((s.sense.arms.get r).p ≤ -950)) = true ↔
      (s.sense.arms.get r).p ≤ -950 ∧ ¬(s.planner.mode = .loading ∧ s.planner.sub = some .takeUp) := by
    rw [← slackHeld_iff]; simp [and_comm]
  simp only [sampledReel, nextIntegrator, codeOf, estimatedTension, ← hlim, runNext_below hsatRun, runNext_below hslackRun,
    runNext_below hoverRun, hslack, clampInt_eq hlimits, clampInt_eq (show (-32767 : Int) ≤ 32767 by decide),
    clampInt_eq (show -((s.servo.reels.get r).iMax : Int) ≤ (s.servo.reels.get r).iMax by omega), Bool.and_eq_true,
    Option.isSome_iff_ne_none, decide_eq_true_eq]

theorem sampleServo_servo (s : State) :
    (sampleServo s).servo =
      { s.servo with
        tEff16 := slewed s.servo.tEff16 s.servo.slew (zonedTension s * 16),
        settled := ((slewed s.servo.tEff16 s.servo.slew (zonedTension s * 16) : Int) == zonedTension s * 16),
        reels := (sampleServo s).servo.reels } := rfl

theorem sampleServo_get (s : State) (r : Reel) : (sampleServo s).servo.reels.get r = sampledReel (slewedState s) r := by
  cases r <;> rfl

/-! ### The conditions of a sample (R59, R60) -/

/-- No run of a reel stands at its bound. -/
def ReelServo.Quiet (x : ReelServo) : Prop := x.satRun ≠ 800 ∧ x.slackRun ≠ 8 ∧ x.overRun ≠ 8

theorem reelConditions_quiet {x : ReelServo} (h : x.Quiet) (r : Reel) (s : State) : reelConditions r x s = s := by
  obtain ⟨hsat, hslack, hover⟩ := h
  simp [reelConditions, hsat, hslack, hover]

/-- With the other reel quiet, a sample gives the conditions of one reel. -/
theorem giveConditions_single (h : ∀ r', r' ≠ r → (s.servo.reels.get r').Quiet) :
    giveConditions s = reelConditions r (s.servo.reels.get r) s := by
  cases r with
  | supply => exact reelConditions_quiet (h .takeup (by decide)) ..
  | takeup =>
    have hsupply : reelConditions .supply s.servo.reels.supply s = s := reelConditions_quiet (h .supply (by decide)) ..
    rw [giveConditions, hsupply]
    rfl

theorem giveConditions_quiet (h : ∀ r, (s.servo.reels.get r).Quiet) : giveConditions s = s := by
  rw [giveConditions_single (r := .supply) fun r _ => h r, reelConditions_quiet (h .supply)]

/-! What brings a reel's runs to their bounds. -/

theorem sampledReel_satRun_iff : (sampledReel (slewedState s) r).satRun = 800 ↔
    799 ≤ (s.servo.reels.get r).satRun ∧ reelDriven s = true ∧
      saturatedEnd (torqueSum (slewedState s) r) (tauLimEff s r) ≠ none := by
  have h := runNext_eq_bound_iff (bound := 800) (by decide) (s.servo.reels.get r).satRun
    (reelDriven s && (saturatedEnd (torqueSum (slewedState s) r) (tauLimEff s r)).isSome)
  exact Iff.trans h (by simp [Option.isSome_iff_ne_none])

theorem sampledReel_slackRun_iff : (sampledReel (slewedState s) r).slackRun = 8 ↔
    7 ≤ (s.servo.reels.get r).slackRun ∧ slackHeld s = false ∧ (s.sense.arms.get r).p ≤ -950 := by
  have h := runNext_eq_bound_iff (bound := 8) (by decide) (s.servo.reels.get r).slackRun
    (!slackHeld s && (s.sense.arms.get r).p ≤ -950)
  exact Iff.trans h (by simp)

theorem sampledReel_overRun_iff : (sampledReel (slewedState s) r).overRun = 8 ↔
    7 ≤ (s.servo.reels.get r).overRun ∧ 950 ≤ (s.sense.arms.get r).p := by
  have h := runNext_eq_bound_iff (bound := 8) (by decide) (s.servo.reels.get r).overRun (decide (950 ≤ (s.sense.arms.get r).p))
  exact Iff.trans h (by simp)

/-- A reel whose saturation run is short and whose arm stands inside its end stops. -/
theorem sampledReel_quiet_inside (hsat : (s.servo.reels.get r).satRun < 799) (hp : mag (s.sense.arms.get r).p < 950) :
    (sampledReel (slewedState s) r).Quiet := by
  unfold mag at hp
  rw [ReelServo.Quiet, ne_eq, ne_eq, ne_eq, sampledReel_satRun_iff, sampledReel_slackRun_iff, sampledReel_overRun_iff]
  omega

theorem sampledReel_quiet_below (hsat : (s.servo.reels.get r).satRun < 799) (hslack : (s.servo.reels.get r).slackRun < 7)
    (hover : (s.servo.reels.get r).overRun < 7) : (sampledReel (slewedState s) r).Quiet := by
  rw [ReelServo.Quiet, ne_eq, ne_eq, ne_eq, sampledReel_satRun_iff, sampledReel_slackRun_iff, sampledReel_overRun_iff]
  omega

/-! A reel with one run at its bound gives the condition of that run. -/

/-- R60: the slack run reaches 8, with the arm at its slack end. -/
theorem reelConditions_slack (hat : (s.servo.reels.get r).slackRun = 7) (hsat : (s.servo.reels.get r).satRun < 799)
    (hp : (s.sense.arms.get r).p ≤ -950) (hheld : slackHeld s = false) (u : State) :
    reelConditions r (sampledReel (slewedState s) r) u = takeCondition .slack (some r) u := by
  have hsat' : (sampledReel (slewedState s) r).satRun ≠ 800 := by rw [ne_eq, sampledReel_satRun_iff]; omega
  have hover' : (sampledReel (slewedState s) r).overRun ≠ 8 := by rw [ne_eq, sampledReel_overRun_iff]; omega
  simp [reelConditions, sampledReel_slackRun_iff.2 ⟨hat.ge, hheld, hp⟩, hsat', hover']

/-- R60: the overtension run reaches 8, with the arm at its other end. -/
theorem reelConditions_overtension (hat : (s.servo.reels.get r).overRun = 7) (hsat : (s.servo.reels.get r).satRun < 799)
    (hp : 950 ≤ (s.sense.arms.get r).p) (u : State) :
    reelConditions r (sampledReel (slewedState s) r) u = takeCondition .overtension (some r) u := by
  have hsat' : (sampledReel (slewedState s) r).satRun ≠ 800 := by rw [ne_eq, sampledReel_satRun_iff]; omega
  have hslack' : (sampledReel (slewedState s) r).slackRun ≠ 8 := by rw [ne_eq, sampledReel_slackRun_iff]; omega
  simp [reelConditions, sampledReel_overRun_iff.2 ⟨hat.ge, hp⟩, hsat', hslack']

/-- R59: the saturation run reaches 800, with the arm inside its end stops. -/
theorem reelConditions_saturation (hat : (s.servo.reels.get r).satRun = 799) (hp : mag (s.sense.arms.get r).p < 950)
    (hdriven : reelDriven s = true) (hend : saturatedEnd (torqueSum (slewedState s) r) (tauLimEff s r) ≠ none) (u : State) :
    reelConditions r (sampledReel (slewedState s) r) u = takeCondition .saturation (some r) u := by
  unfold mag at hp
  have hslack' : (sampledReel (slewedState s) r).slackRun ≠ 8 := by rw [ne_eq, sampledReel_slackRun_iff]; omega
  have hover' : (sampledReel (slewedState s) r).overRun ≠ 8 := by rw [ne_eq, sampledReel_overRun_iff]; omega
  simp [reelConditions, sampledReel_satRun_iff.2 ⟨hat.ge, hdriven, hend⟩, hslack', hover']

/-! ### The survey sample, which takes no fault away -/

theorem endStep_record (q : SurveyRequest) (e : StepEntry) (ended : EndedBy) (s : State) :
    (endStep q e ended s).fault.record = s.fault.record := by
  unfold endStep surveyOwnEnd; dsimp only; (repeat' split) <;> simp

theorem countStep_record (q : SurveyRequest) (s : State) : (countStep q s).fault.record = s.fault.record := by
  unfold countStep; dsimp only; (repeat' split) <;> simp [endStep_record]

theorem surveySample_record (s : State) : (surveySample s).fault.record = s.fault.record := by
  unfold surveySample rampSample settleSample surveyOwnEnd
  (repeat' split) <;> simp [countStep_record]

theorem surveySample_of_not_running (h : s.survey.state ≠ .running) : surveySample s = s := by
  unfold surveySample
  split
  next hrun _ => exact absurd hrun h
  next => rfl

/-! ### The sample as a whole -/

/-- The state of a sample with its runs counted and the tension-lost latch taken, before its conditions. -/
def countedState (s : State) : State := latchTension (sampleServo s)

theorem countedState_get (s : State) (r : Reel) : (countedState s).servo.reels.get r = sampledReel (slewedState s) r :=
  sampleServo_get s r

theorem servoSample_of_enabled (h : s.servo.enabled = true) :
    servoSample s = surveySample (monitorSample (sampleView (countedState s)) (giveConditions (countedState s))) :=
  if_pos h

/-- A sample that gives no condition, with no survey running. -/
theorem servoSample_quiet (h : s.servo.enabled = true) (hsurvey : s.survey.state ≠ .running)
    (hquiet : ∀ r, (sampledReel (slewedState s) r).Quiet) :
    servoSample s = monitorSample (sampleView (countedState s)) (countedState s) := by
  rw [servoSample_of_enabled h, giveConditions_quiet fun r => by rw [countedState_get]; exact hquiet r]
  exact surveySample_of_not_running (by simpa [countedState, latchTension, sampleServo] using hsurvey)

/-- A sample that gives one condition, with no fault latched: it becomes the primary of the record (R149). -/
theorem servoSample_fault {kind : FaultKind} (h : s.servo.enabled = true) (hrec : s.fault.record = none)
    (hothers : ∀ r', r' ≠ r → (sampledReel (slewedState s) r').Quiet)
    (hgive : reelConditions r (sampledReel (slewedState s) r) (countedState s) = takeCondition kind (some r) (countedState s)) :
    ∃ f, (servoSample s).fault.record = some f ∧ f.primary = { kind := kind, reel := some r } ∧ f.severity = kind.severity := by
  obtain ⟨f, hf, hprimary, hseverity, -⟩ := takeCondition_primary kind (some r) (s := countedState s) hrec
  refine ⟨f, ?_, hprimary, hseverity⟩
  rw [servoSample_of_enabled h, surveySample_record, giveConditions_single (r := r) fun r' hr' => by
    rw [countedState_get]; exact hothers r' hr', countedState_get, hgive]
  simpa using hf

/-! ### The rows named for a threshold -/

theorem saturationFalls_iff : saturationFalls r s = true ↔
    s.servo.enabled = true ∧ (s.servo.reels.get r).satRun = 799 ∧ reelDriven s = true ∧
      saturatedEnd (torqueSum (slewedState s) r) (tauLimEff s r) ≠ none := by
  rw [saturationFalls, sampleServo_get, Bool.and_eq_true]
  have h := runReaches_iff (bound := 800) (by decide) (s.servo.reels.get r).satRun
    (reelDriven s && (saturatedEnd (torqueSum (slewedState s) r) (tauLimEff s r)).isSome)
  exact and_congr_right' (h.trans (by simp [Option.isSome_iff_ne_none]))

theorem slackFalls_iff : slackFalls r s = true ↔
    s.servo.enabled = true ∧ (s.servo.reels.get r).slackRun = 7 ∧ slackHeld s = false ∧ (s.sense.arms.get r).p ≤ -950 := by
  rw [slackFalls, sampleServo_get, Bool.and_eq_true]
  have h := runReaches_iff (bound := 8) (by decide) (s.servo.reels.get r).slackRun
    (!slackHeld s && (s.sense.arms.get r).p ≤ -950)
  exact and_congr_right' (h.trans (by simp))

theorem overtensionFalls_iff : overtensionFalls r s = true ↔
    s.servo.enabled = true ∧ (s.servo.reels.get r).overRun = 7 ∧ 950 ≤ (s.sense.arms.get r).p := by
  rw [overtensionFalls, sampleServo_get, Bool.and_eq_true]
  have h := runReaches_iff (bound := 8) (by decide) (s.servo.reels.get r).overRun (decide (950 ≤ (s.sense.arms.get r).p))
  exact and_congr_right' (h.trans (by simp))

/-- A threshold's row is the servo sample that reaches it, and nothing elsewhere (log entry 3). -/
theorem exec_servoRows (h : s.held = none) (r : Reel) :
    exec .servoSample s = .next (servoSample s) ∧
      exec (.saturation r) s = .next (if saturationFalls r s then servoSample s else s) ∧
      exec (.slack r) s = .next (if slackFalls r s then servoSample s else s) ∧
      exec (.overtension r) s = .next (if overtensionFalls r s then servoSample s else s) :=
  ⟨whileRunning_of_running h, whileRunning_of_running h, whileRunning_of_running h, whileRunning_of_running h⟩

theorem exec_servoRows_disabled (h : s.held = none) (hen : s.servo.enabled = false) :
    exec .servoSample s = .next s ∧
      ∀ r, exec (.saturation r) s = .next s ∧ exec (.slack r) s = .next s ∧ exec (.overtension r) s = .next s := by
  have hsample : servoSample s = s := if_neg (by simp [hen])
  refine ⟨(exec_servoRows h .supply).1.trans (by rw [hsample]), fun r => ?_⟩
  obtain ⟨-, hsat, hslack, hover⟩ := exec_servoRows h r
  exact ⟨hsat.trans (by rw [hsample, ite_self]), hslack.trans (by rw [hsample, ite_self]),
    hover.trans (by rw [hsample, ite_self])⟩

/-- A row that falls on a sample that gives one condition. -/
theorem servoRow_falls {row : Instr} {falls : Bool} {kind : FaultKind} (hen : s.servo.enabled = true)
    (hrow : exec row s = .next (if falls then servoSample s else s)) (hfalls : falls = true) (hrun : s.held = none)
    (hrec : s.fault.record = none)
    (hothers : ∀ r', r' ≠ r → (s.servo.reels.get r').satRun < 799 ∧ mag (s.sense.arms.get r').p < 950)
    (hgive : ∀ u, reelConditions r (sampledReel (slewedState s) r) u = takeCondition kind (some r) u) :
    ∃ t f, exec row s = .next t ∧ exec .servoSample s = .next t ∧ t.fault.record = some f ∧
      f.primary = { kind := kind, reel := some r } ∧ f.severity = kind.severity := by
  obtain ⟨f, hf, hprimary, hseverity⟩ := servoSample_fault hen hrec
    (fun r' hr' => sampledReel_quiet_inside (hothers r' hr').1 (hothers r' hr').2) (hgive _)
  exact ⟨_, f, hrow.trans (by rw [hfalls]; rfl), (exec_servoRows hrun r).1, hf, hprimary, hseverity⟩

end Sample

/-- Settles O44. The sums of the statement are those of the model after its slew step; a reel's runs then say which of its
conditions the sample gives. -/
theorem servoSamplesSetTheDrives : Obligations.ServoSamplesSetTheDrives := by
  intro s lim sum sat tEff16 tEff hrun htEff16 htEff hlim hsum hsat
  have hslew : tEff16 = slewed s.servo.tEff16 s.servo.slew (zonedTension s * 16) := by rw [htEff16, slewed_toNat]
  have hlim' (r : Reel) : lim r = tauLimEff s r := hlim r
  have hsum' (r : Reel) : sum r = torqueSum (slewedState s) r := by
    rw [hsum, torqueSum_eq, htEff, hslew]
    rfl
  have hsat' (r : Reel) : sat r = saturatedEnd (torqueSum (slewedState s) r) (tauLimEff s r) := by
    rw [hsat, hsum', hlim']
    rfl
  refine ⟨exec_servoRows_disabled hrun, fun hen hsurvey => ⟨fun hbelow => ?quiet, fun r hrec hothers => ?row⟩⟩
  case quiet =>
    have hquiet := servoSample_quiet hen hsurvey fun r =>
      let ⟨hsatRun, hslackRun, hoverRun⟩ := hbelow r
      sampledReel_quiet_below hsatRun hslackRun hoverRun
    obtain ⟨hsense, -, -, hservo, -⟩ := monitorSample_frame (sampleView (countedState s)) (countedState s)
    refine ⟨_, (exec_servoRows hrun .supply).1.trans (by rw [hquiet]), ?_, hsense, ?_, ?_⟩
    · intro b; cases b <;> simp [sameBlock, countedState, latchTension, sampleServo]
    · rw [hservo, hslew, Int.mul_comm 16]
      rfl
    · rintro r x p rfl rfl
      obtain ⟨hsatRun, hslackRun, hoverRun⟩ := hbelow r
      rw [hservo, countedState_get]
      exact sampledReel_eq (s := slewedState s) rfl rfl (hlim' r) (hsum' r) (by rw [hsat', hsum', hlim'])
        (by rw [htEff, hslew]; rfl) (hsatRun.trans (by decide)) (hslackRun.trans (by decide)) (hoverRun.trans (by decide))
  case row =>
    obtain ⟨-, hsatRow, hslackRow, hoverRow⟩ := exec_servoRows hrun r
    refine ⟨fun hat hshort hp hheld => ?_, fun hat hshort hp => ?_, fun hat hp hdriven hend => ?_, fun hne => ?_, fun hne => ?_,
      fun hne => ?_⟩
    · have hfree : slackHeld s = false := by rwa [← Bool.not_eq_true, slackHeld_iff]
      exact servoRow_falls hen hslackRow (slackFalls_iff.2 ⟨hen, hat, hfree, hp⟩) hrun hrec hothers
        (reelConditions_slack hat hshort hp hfree)
    · exact servoRow_falls hen hoverRow (overtensionFalls_iff.2 ⟨hen, hat, hp⟩) hrun hrec hothers
        (reelConditions_overtension hat hshort hp)
    · rw [hsat'] at hend
      exact servoRow_falls hen hsatRow (saturationFalls_iff.2 ⟨hen, hat, hdriven, hend⟩) hrun hrec hothers
        (reelConditions_saturation hat hp hdriven hend)
    · rw [hslackRow, if_neg fun h => hne (slackFalls_iff.1 h).2.1]
    · rw [hoverRow, if_neg fun h => hne (overtensionFalls_iff.1 h).2.1]
    · rw [hsatRow, if_neg fun h => hne (saturationFalls_iff.1 h).2.1]

end Sys2Proof.Machine

namespace Sys2Proof.Machine

/-! # Proofs of family 04, capstan and speed reference

First what the updates of the Capstan Controller leave, then its requests: SET_VARISPEED (O22), SET_CAPSTAN, SET_LOCK_NOTICE and
SET_REFERENCE (O23). Then its events: encoder edges (O47), the capstan step (O48) and reference edges (O49). -/

/-! ## Updates of the Capstan Controller -/

theorem State.onCapstan_onlyChanges (s : State) (f : Capstan → Capstan) : OnlyChanges [.capstan] s (s.onCapstan f) := by
  intro b; cases b <;> simp [sameBlock]

/-- Only what the update makes of the controller as it stands counts. -/
theorem State.onCapstan_congr {s : State} {f g : Capstan → Capstan} (h : f s.capstan = g s.capstan) :
    s.onCapstan f = s.onCapstan g := by
  rw [onCapstan, onCapstan, h]

theorem State.onCapstan_of_fixed {s : State} {f : Capstan → Capstan} (h : f s.capstan = s.capstan) : s.onCapstan f = s := by
  rw [onCapstan, h]

/-! ## SET_VARISPEED (R70) -/

/-- The target is the sum of vs_h and the trim, clamped (R69). -/
theorem Capstan.vsTarget_eq (c : Capstan) : c.vsTarget = max (-1000) (min 1000 (c.vsHost + c.trim)) :=
  clampInt_eq (by decide) _

/-- vs_h is stored clamped, and v_play, which is made of the applied varispeed, stays. -/
theorem answerSetVarispeed_eq {vsHost x : Int} (hx : x = max (-1000) (min 1000 vsHost)) (s : State) :
    answerSetVarispeed vsHost s =
      { state := s.onCapstan fun c => { c with vsHost := x }, code := if x = vsHost then .ok else .okClamped,
        body := outS16 x ++ outS16 s.capstan.trim ++ outS16 (max (-1000) (min 1000 (x + s.capstan.trim))) ++
          outS16 s.capstan.vs ++ outU16 (mmPerS s.capstan.vPlay) } := by
  rw [answerSetVarispeed, clampInt_eq (by decide), ← hx, accept, okOr_not_bne, Capstan.vsTarget_eq]
  rfl

/-- Settles O22: the answer, the target as a function of what is stored, and the value that is stored already. -/
theorem varispeedIsStored : Obligations.VarispeedIsStored := by
  intro tag vsHost x s hs hx
  obtain ⟨-, -, -, -, hcapstan, -⟩ := restartLinkTimer_frame s
  refine ⟨?_, Capstan.vsTarget_eq, fun hsame hlow hhigh => ?_⟩
  · rw [← hcapstan]
    exact answered_of_ready hs rfl rfl rfl rfl (answerSetVarispeed_eq hx _)
  · have hstored : x = vsHost := by omega
    refine ⟨State.onCapstan_of_fixed ?_, hstored⟩
    rw [hcapstan, hstored, hsame]

/-! ## SET_CAPSTAN and SET_LOCK_NOTICE (R77, R79) -/

section Requests

variable {s : State} {apply ell w rho choice : Nat}

theorem answerSetCapstan_report : answerSetCapstan 0 ell w rho s = accept s false (capstanReply s) := rfl

theorem answerSetCapstan_bad (happly : apply ≠ 0) (hbad : ell < 5000 ∨ 200000 < ell) :
    answerSetCapstan apply ell w rho s = refuse s .badValue := by
  have hout : ¬(5000 ≤ ell ∧ ell ≤ 200000) := by omega
  simp [answerSetCapstan, flagSet_of_ne happly, hout]

theorem answerSetCapstan_locked (happly : apply ≠ 0) (hlow : 5000 ≤ ell) (hhigh : ell ≤ 200000) (hnew : ell ≠ s.capstan.ell)
    (hon : s.capstan.lock ≠ .off) : answerSetCapstan apply ell w rho s = refuse s .lockedInMotion := by
  simp [answerSetCapstan, flagSet_of_ne happly, hlow, hhigh, hnew, hon]

/-- ℓ is stored as it is, w and ρ are clamped (R79). -/
theorem answerSetCapstan_stored (happly : apply ≠ 0) (hlow : 5000 ≤ ell) (hhigh : ell ≤ 200000)
    (hok : ell = s.capstan.ell ∨ s.capstan.lock = .off) {w' rho' : Nat} (hw : w' = max 1 (min 64 w))
    (hrho : rho' = max 1 (min 100 rho)) {u : State} (hu : u = s.onCapstan fun c => { c with ell := ell, w := w', rho := rho' }) :
    answerSetCapstan apply ell w rho s =
      { state := u, code := if w' = w ∧ rho' = rho then .ok else .okClamped, body := capstanReply u } := by
  have htaken : ¬(ell ≠ s.capstan.ell ∧ s.capstan.lock ≠ .off) := fun ⟨hnew, hon⟩ => hok.elim hnew hon
  rw [answerSetCapstan, flagSet_of_ne happly, clampNat_eq (by decide), clampNat_eq (by decide), ← hw, ← hrho, ← hu]
  have hcode : okOr (u.capstan.w != w || u.capstan.rho != rho) = if w' = w ∧ rho' = rho then .ok else .okClamped := by
    rw [okOr_eq, hu]; simp
  simp [hlow, hhigh, htaken, accept, hcode]

theorem LockChoice.ofCode_code (x : LockChoice) : LockChoice.ofCode x.code = some x := by cases x <;> rfl

theorem LockChoice.ofCode_bad (h : 3 < choice) : LockChoice.ofCode choice = Option.none := by
  match choice with
  | n + 4 => rfl

theorem answerSetLockNotice_bad (h : 3 < choice) : answerSetLockNotice choice s = refuse s .badValue := by
  rw [answerSetLockNotice, LockChoice.ofCode_bad h]

theorem answerSetLockNotice_stored (x : LockChoice) :
    answerSetLockNotice x.code s = accept (s.onCapstan fun c => { c with lockChoice := x }) false (outCode x.code) := by
  rw [answerSetLockNotice, LockChoice.ofCode_code]

/-! ## SET_REFERENCE (R78) -/

variable {source m d : Nat} {src : RefSource}

theorem RefSource.ofCode_code (x : RefSource) : RefSource.ofCode x.code = some x := by cases x <;> rfl

/-- A source is INTERNAL, EXTERNAL or none. -/
theorem RefSource.ofCode_cases (source : Nat) :
    (∃ x : RefSource, source = x.code) ∨ (1 < source ∧ RefSource.ofCode source = none) := by
  match source with
  | 0 => exact .inl ⟨.internal, rfl⟩
  | 1 => exact .inl ⟨.external, rfl⟩
  | n + 2 => exact .inr ⟨by omega, rfl⟩

theorem answerSetReference_bad (h : 1 < source ∨ m = 0 ∨ 4096 < m ∨ d = 0 ∨ 4096 < d) :
    answerSetReference source m d s = refuse s .badValue := by
  rcases RefSource.ofCode_cases source with ⟨x, rfl⟩ | ⟨-, hnone⟩
  · have hx : x.code ≤ 1 := by cases x <;> decide
    have hout : (!(1 ≤ m && m ≤ 4096 && 1 ≤ d && d ≤ 4096 : Bool)) = true := by simp; omega
    rw [answerSetReference, RefSource.ofCode_code]
    exact if_pos hout
  · rw [answerSetReference, hnone]

/-- M and D in their range leave the checks of the source and of the settings as they stand. -/
theorem answerSetReference_inRange (hm : 1 ≤ m) (hm' : m ≤ 4096) (hd : 1 ≤ d) (hd' : d ≤ 4096) :
    answerSetReference src.code m d s =
      if s.capstan.source = .external ∧ s.capstan.lock ≠ .off ∧ src = .external then refuse s .refInUse
      else
        let u := if src = s.capstan.source ∧ m = s.capstan.m ∧ d = s.capstan.d then s else selectReference src m d s
        accept u false (referenceReply u) := by
  rw [answerSetReference, RefSource.ofCode_code]
  simp [hm, hm', hd, hd']

/-- The controller with the three settings of a reference stored. -/
def Capstan.withReference (c : Capstan) (source : RefSource) (m d : Nat) : Capstan := { c with source := source, m := m, d := d }

theorem selectReference_capstan :
    (selectReference src m d s).capstan = (s.capstan.withReference src m d).afterSelect s.capstan := rfl

/-- SELECTED is posted with the new source and the status as it stood (R78). -/
theorem selectReference_link :
    (selectReference src m d s).link = txTake (enqueueNotice (.ref .selected src s.capstan.present) s.link) := rfl

theorem selectReference_onlyChanges : OnlyChanges [.capstan, .link] s (selectReference src m d s) := by
  intro b; cases b <;> simp [sameBlock]

/-- No change of the reference touches the settings that it has stored. -/
theorem Capstan.afterSelect_settings (c old : Capstan) :
    (c.afterSelect old).source = c.source ∧ (c.afterSelect old).m = c.m ∧ (c.afterSelect old).d = c.d := by
  have hrestart : c.restart.source = c.source ∧ c.restart.m = c.m ∧ c.restart.d = c.d := by
    unfold restart; split <;> exact ⟨rfl, rfl, rfl⟩
  unfold afterSelect
  cases c.lock with
  | off | spinup =>
    dsimp only
    split
    · exact ⟨rfl, rfl, rfl⟩
    · exact hrestart
  | unlocked | locked | holdover => exact ⟨rfl, rfl, rfl⟩

/-- With the capstan OFF or in SPINUP a new source restarts the status. -/
theorem Capstan.afterSelect_idle {c : Capstan} (old : Capstan) (h : c.lock = .off ∨ c.lock = .spinup) :
    c.afterSelect old = if c.source = old.source then c else c.restart := by
  unfold afterSelect
  rcases h with h | h <;> rw [h]

theorem Capstan.restart_lock (c : Capstan) : c.restart.lock = c.lock := by
  unfold restart; split <;> rfl

theorem Capstan.restart_internal {c : Capstan} (h : c.source = .internal) :
    c.restart.present = true ∧ c.restart.fRef = 48000000 := by
  rw [restart, h]; exact ⟨rfl, rfl⟩

theorem Capstan.restart_external {c : Capstan} (h : c.source = .external) :
    c.restart.present = false ∧ c.restart.fRef = c.fRef := by
  rw [restart, h]; exact ⟨rfl, rfl⟩

/-- A driven capstan goes on in HOLDOVER, with the base rate of the moment where it does not hold one already. -/
theorem Capstan.afterSelect_driven {c : Capstan} (old : Capstan) (h : ¬(c.lock = .off ∨ c.lock = .spinup)) :
    (c.afterSelect old).lock = .holdover ∧ (c.afterSelect old).present = false ∧ (c.afterSelect old).presentRun = 0 ∧
      (c.lock = .holdover → (c.afterSelect old).frozenBase = c.frozenBase) ∧
      (c.lock ≠ .holdover → (c.afterSelect old).frozenBase = some old.base) := by
  unfold afterSelect
  cases hl : c.lock with
  | off | spinup => simp [hl] at h
  | holdover => simp
  | unlocked | locked => simp [holdoverEntry]

end Requests

/-! ## The requests of O23 -/

/-- Settles O23: the checks of each request in their order and what it stores, from the state `v` with the link timer restarted,
whose controller and link are those of `s`. -/
theorem capstanAndReferenceAreSet : Obligations.CapstanAndReferenceAreSet := by
  refine ⟨?capstan, ?reference⟩
  case capstan =>
    intro tag apply ell w rho choice s hs
    have capstanAnswered {code : ResultCode} {body : List Byte} {t : State}
        (h : answerSetCapstan apply ell w rho (restartLinkTimer s) = { state := t, code := code, body := body }) :
        Answered (.setCapstan tag apply ell w rho) s 0xA0 tag code body t :=
      answered_of_ready hs rfl rfl rfl rfl h
    have noticeAnswered {code : ResultCode} {body : List Byte} {t : State}
        (h : answerSetLockNotice choice (restartLinkTimer s) = { state := t, code := code, body := body }) :
        Answered (.setLockNotice tag choice) s 0xA3 tag code body t :=
      answered_of_ready hs rfl rfl rfl rfl h
    obtain ⟨-, -, -, -, hcapstan, -⟩ := restartLinkTimer_frame s
    have hreply : capstanReply (restartLinkTimer s) = capstanReply s := by rw [capstanReply, capstanReply, hcapstan]
    rw [← hcapstan, ← hreply]
    unfold Refuses
    generalize restartLinkTimer s = v at *
    refine ⟨?report, fun ha hbad => capstanAnswered (answerSetCapstan_bad ha hbad), fun ha hlow hhigh =>
      ⟨fun hnew hon => capstanAnswered (answerSetCapstan_locked ha hlow hhigh hnew hon), fun hok w' rho' hw hrho =>
        ⟨_, capstanAnswered (answerSetCapstan_stored ha hlow hhigh hok hw hrho rfl)⟩⟩,
      fun hbad => noticeAnswered (answerSetLockNotice_bad hbad), ?notice⟩
    case report =>
      rintro rfl
      exact capstanAnswered answerSetCapstan_report
    case notice =>
      rintro x rfl
      exact noticeAnswered (answerSetLockNotice_stored x)
  case reference =>
    intro tag source m d s hs
    have answered {code : ResultCode} {body : List Byte} {t : State}
        (h : answerSetReference source m d (restartLinkTimer s) = { state := t, code := code, body := body }) :
        Answered (.setReference tag source m d) s 0xA1 tag code body t :=
      answered_of_ready hs rfl rfl rfl rfl h
    obtain ⟨-, -, -, -, hcapstan, -, -, -, -, -, -, -, -, hlink, -⟩ := restartLinkTimer_frame s
    have hreply : referenceReply (restartLinkTimer s) = referenceReply s := by rw [referenceReply, referenceReply, hcapstan]
    rw [← hcapstan, ← hlink, ← hreply]
    unfold Refuses
    generalize restartLinkTimer s = v at *
    refine ⟨fun hbad => answered (answerSetReference_bad hbad), fun hm hm' hd hd' => ⟨?inUse, ?taken⟩⟩
    case inUse =>
      rintro rfl hext hon
      exact answered ((answerSetReference_inRange (src := .external) hm hm' hd hd').trans (if_pos ⟨hext, hon, rfl⟩))
    case taken =>
      rintro src rfl hfree
      have htaken := (answerSetReference_inRange (s := v) (src := src) hm hm' hd hd').trans
        (if_neg fun ⟨hext, hon, hsrc⟩ => hfree ⟨hsrc, hext, hon⟩)
      refine ⟨fun hsrc hsm hsd => answered ?_, fun hnew => ?_⟩
      · rw [htaken, if_pos ⟨hsrc, hsm, hsd⟩]
        rfl
      · rw [if_neg hnew] at htaken
        obtain ⟨hsource, hsm, hsd⟩ := (v.capstan.withReference src m d).afterSelect_settings v.capstan
        refine ⟨selectReference src m d v, answered htaken, selectReference_onlyChanges, hsource, hsm, hsd, selectReference_link,
          ?_⟩
        rw [selectReference_capstan]
        refine ⟨fun hidle => ?idle, fun hdriven => Capstan.afterSelect_driven v.capstan hdriven⟩
        case idle =>
          have hselected : (v.capstan.withReference src m d).afterSelect v.capstan =
              if src = v.capstan.source then v.capstan.withReference src m d else (v.capstan.withReference src m d).restart :=
            Capstan.afterSelect_idle v.capstan hidle
          rw [hselected]
          refine ⟨?_, fun h => ?_, fun h hint => ?_, fun h hext => ?_⟩
          · split
            · rfl
            · exact Capstan.restart_lock _
          · rw [if_pos h, h]
            rfl
          · rw [if_neg h]
            exact Capstan.restart_internal hint
          · rw [if_neg h]
            exact Capstan.restart_external hext

end Sys2Proof.Machine

namespace Sys2Proof.Machine

/-! ## One encoder edge as a change of the controller (R71, R74) -/

section EncoderEdges

variable {d : Dir} {s : State}

/-- The controller with one edge counted: E, the net count of the step in progress, and no quiet step (R71, R73, R80). -/
def Capstan.countEdge (c : Capstan) (d : Dir) : Capstan :=
  { c with e := c.e + signedBy d 1, stepNet := c.stepNet + signedBy d 1, edgeSeen := true, quiet := 0 }

theorem signedBy_one (d : Dir) : signedBy d 1 = if d = .forward then 1 else -1 := by cases d <;> rfl

theorem Capstan.countEdge_eq (c : Capstan) (d : Dir) :
    c.countEdge d =
      { c with e := c.e + (if d = .forward then 1 else -1), stepNet := c.stepNet + (if d = .forward then 1 else -1),
               edgeSeen := true, quiet := 0 } := by
  rw [countEdge, signedBy_one]

/-- By lock state, an edge is the count and what it makes of the phase and of the two runs. -/
theorem Capstan.encoderEdge_eq (c : Capstan) (d : Dir) :
    c.encoderEdge d =
      let u := { c.countEdge d with ePhi := (c.countEdge d).phaseError }
      match c.lock with
      | .off => c
      | .spinup => c.countEdge d
      | .unlocked => { u.pulled with lockRun := if mag u.pulled.ePhi ≤ u.pulled.w then u.pulled.lockRun + 1 else 0 }
      | .locked => { u with unlockRun := if c.w < mag u.ePhi then c.unlockRun + 1 else 0 }
      | .holdover => u := rfl

theorem Capstan.encoderEdge_off {c : Capstan} (h : c.lock = .off) : c.encoderEdge d = c := by
  rw [encoderEdge_eq, h]

theorem Capstan.encoderEdge_spinup {c : Capstan} (h : c.lock = .spinup) : c.encoderEdge d = c.countEdge d := by
  rw [encoderEdge_eq, h]

theorem Capstan.encoderEdge_holdover {c : Capstan} (h : c.lock = .holdover) :
    c.encoderEdge d = { c.countEdge d with ePhi := (c.countEdge d).phaseError } := by
  rw [encoderEdge_eq, h]

theorem Capstan.encoderEdge_locked {c : Capstan} (h : c.lock = .locked) :
    c.encoderEdge d =
      { c.countEdge d with
        ePhi := (c.countEdge d).phaseError
        unlockRun := if c.w < mag (c.countEdge d).phaseError then c.unlockRun + 1 else 0 } := by
  rw [encoderEdge_eq, h]

/-- In UNLOCKED R is pulled as far as brings e_φ back to ±512, and stands where e_φ lies within (R71). -/
theorem Capstan.pulled_unlocked {c : Capstan} (h : c.lock = .unlocked) {p : Int} (hp : p = max (-512) (min 512 c.ePhi)) :
    c.pulled = { c with ePhi := p, r := if c.ePhi = p then c.r else (c.e - p) * 65536 } := by
  unfold pulled
  split
  next hfar =>
    have hne : c.ePhi ≠ p := by omega
    have hpull : (if 0 < c.ePhi then 512 else -512 : Int) = p := by split <;> omega
    rw [hpull, if_neg hne]
  next hnear =>
    have hpe : c.ePhi = p := by
      have : ¬(512 < c.ePhi ∨ c.ePhi < -512) := fun hfar => hnear ⟨h, hfar⟩
      omega
    rw [if_pos hpe, ← hpe]

theorem Capstan.encoderEdge_unlocked {c : Capstan} (h : c.lock = .unlocked) {p : Int}
    (hp : p = max (-512) (min 512 (c.countEdge d).phaseError)) :
    c.encoderEdge d =
      { c.countEdge d with
        ePhi := p, r := if (c.countEdge d).phaseError = p then c.r else ((c.countEdge d).e - p) * 65536
        lockRun := if mag p ≤ c.w then c.lockRun + 1 else 0 } := by
  have hpulled := Capstan.pulled_unlocked (c := { c.countEdge d with ePhi := (c.countEdge d).phaseError }) h hp
  simp only [encoderEdge_eq, h, hpulled]
  rfl

/-- An edge alone moves no lock state. -/
theorem Capstan.encoderEdge_lock (c : Capstan) (d : Dir) : (c.encoderEdge d).lock = c.lock := by
  cases h : c.lock with
  | off => rw [encoderEdge_off h, h]
  | spinup => rw [encoderEdge_spinup h]; exact h
  | unlocked => rw [encoderEdge_unlocked h rfl]; exact h
  | locked => rw [encoderEdge_locked h]; exact h
  | holdover => rw [encoderEdge_holdover h]; exact h

/-! ## Lock gained and lost (R74, R76, R77) -/

theorem LockChoice.posts_gain_iff (x : LockChoice) : x.posts .gain = true ↔ x = .gain ∨ x = .both := by
  cases x <;> simp [posts]

theorem LockChoice.posts_loss_iff (x : LockChoice) : x.posts .loss = true ↔ x = .loss ∨ x = .both := by
  cases x <;> simp [posts]

/-- A LOCK notice carries the state and the phase error, and is posted where the choice asks for it (R77). -/
theorem lockNotice_link (t : LockChange) (s : State) :
    (lockNotice t s).link =
      if s.capstan.lockChoice.posts t then txTake (enqueueNotice (.lock s.capstan.lock t s.capstan.ePhi) s.link) else s.link := by
  unfold lockNotice; split <;> rfl

/-- An event that neither meets nor leaves a frozen monitor posts nothing (R165). -/
theorem monitorEvent_link {ev : MonEvent} {source : EventSource} {s : State}
    (h : (monitorEvent ev source s).monitor.frozen = s.monitor.frozen) : (monitorEvent ev source s).link = s.link := by
  unfold monitorEvent at h ⊢
  rcases addCounts_cases (s.monitor.counters.map fun c => if c.enable && c.event == ev && c.qualifier.admits source then 1 else 0)
    s with ⟨-, hsame⟩ | ⟨hfree, -, hlink⟩
  · rw [hsame]
  · exact hlink (h.trans hfree)

theorem lockGained_capstan (s : State) :
    (lockGained s).capstan = { s.capstan with lock := .locked, lockRun := 0, unlockRun := 0 } := by
  simp [lockGained]

theorem lockGained_link (s : State) :
    (lockGained s).link =
      if s.capstan.lockChoice = .gain ∨ s.capstan.lockChoice = .both then
        txTake (enqueueNotice (.lock .locked .gain s.capstan.ePhi) s.link)
      else s.link := by
  simp only [← LockChoice.posts_gain_iff]
  exact lockNotice_link .gain _

theorem lockGained_onlyChanges (s : State) : OnlyChanges [.capstan, .link] s (lockGained s) := by
  intro b; cases b <;> simp [sameBlock]

theorem lockLost_capstan (s : State) :
    (lockLost s).capstan = { s.capstan with lock := .unlocked, lockRun := 0, unlockRun := 0, lockLost := true } := by
  simp [lockLost]

theorem lockLost_link {s : State} (h : (lockLost s).monitor.frozen = s.monitor.frozen) :
    (lockLost s).link =
      if s.capstan.lockChoice = .loss ∨ s.capstan.lockChoice = .both then
        txTake (enqueueNotice (.lock .unlocked .loss s.capstan.ePhi) s.link)
      else s.link := by
  simp only [← LockChoice.posts_loss_iff]
  unfold lockLost at h ⊢
  obtain ⟨-, -, -, -, hcapstan, -⟩ := monitorEvent_frame .capstanUnlocks .capstan
    (s.onCapstan fun c => { c with lock := .unlocked, lockRun := 0, unlockRun := 0, lockLost := true })
  rw [lockNotice_link, hcapstan, monitorEvent_link (by simpa using h)]
  rfl

theorem lockLost_onlyChanges (s : State) : OnlyChanges [.capstan, .monitor, .link] s (lockLost s) := by
  intro b; cases b <;> simp [sameBlock]

theorem lockLost_counts (s : State) : CountsWhere (·.capstan) .capstanUnlocks s (lockLost s) :=
  (monitorEvent_counts .capstanUnlocks .capstan
    (s.onCapstan fun c => { c with lock := .unlocked, lockRun := 0, unlockRun := 0, lockLost := true })).of_monitor rfl
    (by simp [lockLost])

/-! ## The rows of an encoder edge -/

theorem lockFalls_iff :
    lockFalls d s = true ↔ s.capstan.lock = .unlocked ∧ 64 ≤ (s.capstan.encoderEdge d).lockRun := by
  simp [lockFalls]

theorem unlockFalls_iff :
    unlockFalls d s = true ↔ s.capstan.lock = .locked ∧ 8 ≤ (s.capstan.encoderEdge d).unlockRun := by
  simp [unlockFalls]

/-- The edge counts, and then gains or loses lock where its row says so (R74). -/
theorem encoderEdge_eq (d : Dir) (s : State) :
    encoderEdge d s =
      let u := s.onCapstan fun c => c.encoderEdge d
      if lockFalls d s then lockGained u else if unlockFalls d s then lockLost u else u := by
  simp only [encoderEdge, State.onCapstan_capstan, Capstan.encoderEdge_lock, lockFalls_iff, unlockFalls_iff]

theorem exec_encoderRows (h : s.held = none) (d : Dir) :
    exec (.capstanEncoderEdge d) s = .next (encoderEdge d s) ∧
      exec (.capstanLockGained d) s = .next (if lockFalls d s then encoderEdge d s else s) ∧
      exec (.capstanLockLost d) s = .next (if unlockFalls d s then encoderEdge d s else s) :=
  ⟨whileRunning_of_running h, whileRunning_of_running h, whileRunning_of_running h⟩

theorem exec_lockGained_elsewhere (hs : s.held = none) (h : s.capstan.lock ≠ .unlocked) :
    exec (.capstanLockGained d) s = .next s := by
  rw [(exec_encoderRows hs d).2.1, if_neg fun hfalls => h (lockFalls_iff.1 hfalls).1]

theorem exec_lockLost_elsewhere (hs : s.held = none) (h : s.capstan.lock ≠ .locked) : exec (.capstanLockLost d) s = .next s := by
  rw [(exec_encoderRows hs d).2.2, if_neg fun hfalls => h (unlockFalls_iff.1 hfalls).1]

section Rows

variable {c' : Capstan} (hs : s.held = none) (hc : s.capstan.encoderEdge d = c')

include hs hc

/-- An edge that reaches no threshold makes `c'` of the controller, and the rows named for the two thresholds do nothing (log
entry 3). -/
theorem exec_encoderRows_counts (hgain : s.capstan.lock = .unlocked → c'.lockRun < 64)
    (hloss : s.capstan.lock = .locked → c'.unlockRun < 8) :
    exec (.capstanEncoderEdge d) s = .next (s.onCapstan fun _ => c') ∧ exec (.capstanLockGained d) s = .next s ∧
      exec (.capstanLockLost d) s = .next s := by
  have hnoGain : ¬lockFalls d s = true := by
    rw [lockFalls_iff, hc]
    exact fun ⟨hl, hrun⟩ => Nat.not_le.2 (hgain hl) hrun
  have hnoLoss : ¬unlockFalls d s = true := by
    rw [unlockFalls_iff, hc]
    exact fun ⟨hl, hrun⟩ => Nat.not_le.2 (hloss hl) hrun
  obtain ⟨hedge, hgained, hlost⟩ := exec_encoderRows hs d
  rw [if_neg hnoGain] at hgained
  rw [if_neg hnoLoss] at hlost
  refine ⟨?_, hgained, hlost⟩
  simp only [hedge, encoderEdge_eq, hnoGain, hnoLoss]
  rw [State.onCapstan_congr (g := fun _ => c') hc]
  rfl

/-- The 64th edge in a row within w is both the encoder edge and CAPSTAN_LOCK_GAINED (R74). -/
theorem exec_encoderRows_gains (hl : s.capstan.lock = .unlocked) (hrun : 64 ≤ c'.lockRun) :
    exec (.capstanEncoderEdge d) s = .next (lockGained (s.onCapstan fun _ => c')) ∧
      exec (.capstanLockGained d) s = .next (lockGained (s.onCapstan fun _ => c')) := by
  have hfalls : lockFalls d s = true := lockFalls_iff.2 ⟨hl, by rwa [hc]⟩
  have hnext : encoderEdge d s = lockGained (s.onCapstan fun _ => c') := by
    simp only [encoderEdge_eq, hfalls, if_true]
    rw [State.onCapstan_congr (g := fun _ => c') hc]
  obtain ⟨hedge, hgained, -⟩ := exec_encoderRows hs d
  exact ⟨hedge.trans (by rw [hnext]), hgained.trans (by rw [if_pos hfalls, hnext])⟩

/-- The 8th edge in a row beyond w is both the encoder edge and CAPSTAN_LOCK_LOST (R74). -/
theorem exec_encoderRows_loses (hl : s.capstan.lock = .locked) (hrun : 8 ≤ c'.unlockRun) :
    exec (.capstanEncoderEdge d) s = .next (lockLost (s.onCapstan fun _ => c')) ∧
      exec (.capstanLockLost d) s = .next (lockLost (s.onCapstan fun _ => c')) := by
  have hfalls : unlockFalls d s = true := unlockFalls_iff.2 ⟨hl, by rwa [hc]⟩
  have hnoGain : ¬lockFalls d s = true := fun hgain => by simp [(lockFalls_iff.1 hgain).1] at hl
  have hnext : encoderEdge d s = lockLost (s.onCapstan fun _ => c') := by
    simp only [encoderEdge_eq, hnoGain, hfalls, if_true]
    rw [State.onCapstan_congr (g := fun _ => c') hc]
    rfl
  obtain ⟨hedge, -, hlost⟩ := exec_encoderRows hs d
  exact ⟨hedge.trans (by rw [hnext]), hlost.trans (by rw [if_pos hfalls, hnext])⟩

end Rows

end EncoderEdges

/-- Settles O47: the controller after an edge by lock state, then the edge that reaches no threshold, the 64th within w and the
8th beyond it. -/
theorem encoderEdgesKeepThePhase : Obligations.EncoderEdgesKeepThePhase := by
  rintro d s _ c1 e φ pulled lockRun unlockRun hs rfl rfl hφ hpulled hc1 hlockRun hunlockRun
  have hcount : s.capstan.countEdge d = c1 := (Capstan.countEdge_eq ..).trans hc1.symm
  have hphase : c1.phaseError = φ := by rw [hφ, Capstan.phaseError, hc1]
  have hchoice : c1.lockChoice = s.capstan.lockChoice := by rw [hc1]
  refine ⟨fun h => ?off, fun h => ?spinup, fun h => ?holdover, fun h c2 hc2 => ?unlocked, fun h c2 hc2 => ?locked,
    exec_lockGained_elsewhere hs, exec_lockLost_elsewhere hs⟩
  case off => exact (exec_encoderRows_counts hs (Capstan.encoderEdge_off h) (by simp [h]) (by simp [h])).1
  case spinup =>
    rw [← hcount]
    exact (exec_encoderRows_counts hs (Capstan.encoderEdge_spinup h) (by simp [h]) (by simp [h])).1
  case holdover =>
    rw [← hphase, ← hcount]
    exact (exec_encoderRows_counts hs (Capstan.encoderEdge_holdover h) (by simp [h]) (by simp [h])).1
  case unlocked =>
    have hstep : s.capstan.encoderEdge d = c2 := by
      rw [Capstan.encoderEdge_unlocked h (p := pulled) (by rw [hcount, hphase, hpulled]), hcount, hphase, hc2, hlockRun, hc1]
    refine ⟨fun hlt => ?_, fun hge => ?_⟩
    · obtain ⟨hnext, hgained, -⟩ := exec_encoderRows_counts hs hstep (fun _ => by rwa [hc2]) (by simp [h])
      exact ⟨hnext, hgained⟩
    · obtain ⟨hnext, hgained⟩ := exec_encoderRows_gains hs hstep h (by rwa [hc2])
      have hlink := lockGained_link (s.onCapstan fun _ => c2)
      rw [State.onCapstan_capstan, show c2.lockChoice = s.capstan.lockChoice by rw [hc2, hchoice],
        show c2.ePhi = pulled by rw [hc2]] at hlink
      refine ⟨_, hnext, hgained, ?_, lockGained_capstan _, fun hno => ?_, fun hyes => hlink.trans (if_pos hyes)⟩
      · exact ((s.onCapstan_onlyChanges _).mono (by simp)).trans (lockGained_onlyChanges _)
      · exact hlink.trans (if_neg (by rcases hno with hno | hno <;> simp [hno]))
  case locked =>
    have hstep : s.capstan.encoderEdge d = c2 := by
      rw [Capstan.encoderEdge_locked h, hcount, hphase, hc2, hunlockRun]
    refine ⟨fun hlt => ?_, fun hge => ?_⟩
    · obtain ⟨hnext, -, hlost⟩ := exec_encoderRows_counts hs hstep (by simp [h]) (fun _ => by rwa [hc2])
      exact ⟨hnext, hlost⟩
    · obtain ⟨hnext, hlost⟩ := exec_encoderRows_loses hs hstep h (by rwa [hc2])
      have hlink := lockLost_link (s := s.onCapstan fun _ => c2)
      rw [State.onCapstan_capstan, show c2.lockChoice = s.capstan.lockChoice by rw [hc2, hchoice],
        show c2.ePhi = φ by rw [hc2]] at hlink
      refine ⟨_, hnext, hlost, ?_, lockLost_capstan _, (lockLost_counts (s.onCapstan fun _ => c2)).of_monitor rfl rfl,
        fun hno hfrozen => ?_, fun hyes hfrozen => (hlink hfrozen).trans (if_pos hyes)⟩
      · exact ((s.onCapstan_onlyChanges _).mono (by simp)).trans (lockLost_onlyChanges _)
      · exact (hlink hfrozen).trans (if_neg (by rcases hno with hno | hno <;> simp [hno]))

end Sys2Proof.Machine

namespace Sys2Proof.Machine

/-! ## The parts of a capstan step (R69, R71, R73, R80) -/

section CapstanSteps

variable {c : Capstan} {s : State}

/-- vs moves by ρ toward its target, and not past it (R69). -/
theorem Capstan.slew_eq (c : Capstan) :
    c.slew =
      { c with vs := if c.vs < c.vsTarget then min c.vsTarget (c.vs + c.rho) else max c.vsTarget (c.vs - c.rho) } := by
  have hmoved : (if mag (c.vsTarget - c.vs) ≤ c.rho then c.vsTarget
      else if c.vs < c.vsTarget then c.vs + c.rho else c.vs - c.rho) =
      if c.vs < c.vsTarget then min c.vsTarget (c.vs + c.rho) else max c.vsTarget (c.vs - c.rho) := by
    unfold mag
    split <;> split <;> omega
  rw [slew, hmoved]

theorem Capstan.closeStep_on (h : c.lock ≠ .off) :
    c.closeStep = { c with rateWindow := (c.stepNet :: c.rateWindow).take 32, stepNet := 0 } := if_neg h

theorem Capstan.closeStep_off (h : c.lock = .off) : c.closeStep = c := if_pos h

/-- R73: within 2 % of the target rate, the sum of the rate window being 32 steps of 250 µs. -/
theorem Capstan.atSpeed_iff (c : Capstan) :
    c.atSpeed = true ↔ 100 * (mag (c.rateWindow.sum * 31250 - c.targetRate) : Int) ≤ 2 * c.targetRate := by
  rw [atSpeed, decide_eq_true_iff, Int.mul_comm 100, List.sum]

theorem Capstan.spinUp_stays (h : c.lock ≠ .spinup ∨ ¬c.atSpeed = true) : c.spinUp = c :=
  if_neg fun ⟨hlock, hspeed⟩ => h.elim (· hlock) (· hspeed)

theorem Capstan.spinUp_present (h : c.lock = .spinup) (hspeed : c.atSpeed = true) (hp : c.present = true) :
    c.spinUp = ({ c with lock := .unlocked } : Capstan).aligned := by
  rw [spinUp, if_pos ⟨h, hspeed⟩, if_pos hp]

theorem Capstan.spinUp_absent (h : c.lock = .spinup) (hspeed : c.atSpeed = true) (hp : c.present = false) :
    c.spinUp = { c with lock := .holdover, frozenBase := some c.base } := by
  rw [spinUp, if_pos ⟨h, hspeed⟩, if_neg (by simp [hp])]

theorem Capstan.advanceHold_stays (h : c.lock ≠ .holdover) : c.advanceHold = c := if_neg h

/-- The advance in HOLDOVER carries what it leaves over (R71). -/
theorem Capstan.advanceHold_holdover (h : c.lock = .holdover) :
    1000000 * c.advanceHold.r + c.advanceHold.remHold = 1000000 * c.r + c.targetRate * 65536 + c.remHold ∧
      0 ≤ c.advanceHold.remHold ∧ c.advanceHold.remHold < 1000000 := by
  rw [advanceHold, if_pos h]
  dsimp only
  omega

theorem Capstan.quietStep_on (h : c.lock ≠ .off) :
    c.quietStep = { c with quiet := if c.edgeSeen then 0 else c.quiet + 1, edgeSeen := false } := if_neg h

theorem Capstan.quietStep_off (h : c.lock = .off) : c.quietStep = c := if_pos h

/-- The end of a spin-up and the advance touch neither vs, E, the rate window nor the quiet count. -/
theorem Capstan.spinUp_frame (c : Capstan) :
    c.spinUp.vs = c.vs ∧ c.spinUp.e = c.e ∧ c.spinUp.rateWindow = c.rateWindow ∧ c.spinUp.stepNet = c.stepNet ∧
      c.spinUp.edgeSeen = c.edgeSeen ∧ c.spinUp.quiet = c.quiet := by
  unfold spinUp
  split
  · split <;> exact ⟨rfl, rfl, rfl, rfl, rfl, rfl⟩
  · exact ⟨rfl, rfl, rfl, rfl, rfl, rfl⟩

theorem Capstan.advanceHold_frame (c : Capstan) :
    c.advanceHold = { c with r := c.advanceHold.r, remHold := c.advanceHold.remHold } := by
  unfold advanceHold; split <;> rfl

/-! ## A capstan step of the controller -/

theorem Capstan.step_off (h : c.lock = .off) : c.step = c.slew := by
  have hoff : c.slew.lock = .off := h
  rw [step, closeStep_off hoff, spinUp_stays (.inl (by simp [hoff])), advanceHold_stays (by simp [hoff]), quietStep_off hoff]

/-- The controller with vs slewed and the step's net count in the rate window. -/
def Capstan.counted (c : Capstan) : Capstan := { c.slew with rateWindow := (c.stepNet :: c.rateWindow).take 32, stepNet := 0 }

/-- The quiet count that a step leaves (R80). -/
def Capstan.nextQuiet (c : Capstan) : Nat := if c.edgeSeen then 0 else c.quiet + 1

/-- The step of a capstan that is not OFF: the end of SPINUP, the advance in HOLDOVER, then the quiet count. -/
theorem Capstan.step_on (h : c.lock ≠ .off) :
    c.step = { c.counted.spinUp.advanceHold with quiet := c.nextQuiet, edgeSeen := false } := by
  have hclosed : c.slew.closeStep = c.counted := closeStep_on h
  have hon : c.counted.spinUp.advanceHold.lock ≠ .off := fun hoff =>
    h ((c.counted.spinUp_steady.trans (advanceHold_steady _)).off hoff)
  obtain ⟨-, -, -, -, hseen, hquiet⟩ := c.counted.spinUp_frame
  rw [step, hclosed, quietStep_on hon, advanceHold_frame]
  simp only [hseen, hquiet]
  rfl

/-- What the step makes of vs, the rate window and the counts does not turn on the lock state. -/
theorem Capstan.step_counts (h : c.lock ≠ .off) :
    c.step.vs = c.slew.vs ∧ c.step.quiet = c.nextQuiet ∧ c.step.rateWindow = (c.stepNet :: c.rateWindow).take 32 ∧
      c.step.stepNet = 0 ∧ c.step.edgeSeen = false ∧ c.step.e = c.e := by
  obtain ⟨hvs, he, hwindow, hnet, -, -⟩ := c.counted.spinUp_frame
  rw [step_on h, advanceHold_frame]
  exact ⟨hvs, rfl, hwindow, hnet, rfl, he⟩

/-- Without the end of a spin-up the lock state, e_φ and the base rate stay (R73). -/
theorem Capstan.step_stays (h : c.lock ≠ .off) (hstays : c.lock ≠ .spinup ∨ ¬c.counted.atSpeed = true) :
    c.step.lock = c.lock ∧ c.step.ePhi = c.ePhi ∧ c.step.frozenBase = c.frozenBase := by
  rw [step_on h, spinUp_stays hstays, advanceHold_frame]
  exact ⟨rfl, rfl, rfl⟩

/-- SPINUP ends in UNLOCKED with R aligned while the reference is PRESENT (R73). -/
theorem Capstan.step_unlocks (h : c.lock = .spinup) (hspeed : c.counted.atSpeed = true) (hp : c.present = true) :
    c.step.lock = .unlocked ∧ c.step.r = c.e * 65536 ∧ c.step.ePhi = 0 := by
  rw [step_on (by simp [h]), spinUp_present (c := c.counted) h hspeed hp, advanceHold_stays (by simp [aligned])]
  exact ⟨rfl, rfl, rfl⟩

/-- SPINUP ends in HOLDOVER with the base rate held while the reference is ABSENT (R73). -/
theorem Capstan.step_holdsOver (h : c.lock = .spinup) (hspeed : c.counted.atSpeed = true) (hp : c.present = false) :
    c.step.lock = .holdover ∧ c.step.frozenBase = some c.base := by
  rw [step_on (by simp [h]), spinUp_absent (c := c.counted) h hspeed hp, advanceHold_frame]
  exact ⟨rfl, rfl⟩

/-- In UNLOCKED and LOCKED R moves with the reference alone (R71). -/
theorem Capstan.step_r_driven (h : c.lock = .unlocked ∨ c.lock = .locked) : c.step.r = c.r := by
  have hlock : c.lock ≠ .off ∧ c.lock ≠ .spinup ∧ c.lock ≠ .holdover := by rcases h with h | h <;> simp [h]
  obtain ⟨hon, hspinup, hholdover⟩ := hlock
  rw [step_on hon, spinUp_stays (c := c.counted) (.inl hspinup), advanceHold_stays (c := c.counted) hholdover]
  rfl

/-- In HOLDOVER R advances at the target rate that the slewed vs gives (R71). -/
theorem Capstan.step_r_holdover (h : c.lock = .holdover) :
    1000000 * c.step.r + c.step.remHold = 1000000 * c.r + c.slew.targetRate * 65536 + c.remHold ∧
      0 ≤ c.step.remHold ∧ c.step.remHold < 1000000 := by
  rw [step_on (by simp [h]), spinUp_stays (c := c.counted) (.inl (by simp [counted, slew, h]))]
  exact advanceHold_holdover (c := c.counted) h

theorem Capstan.step_lock_ne_off (h : c.lock ≠ .off) : c.step.lock ≠ .off := fun hoff => h (c.step_steady.off hoff)

/-! ## A stop leaves the capstan turning, and a stall stops it (R80, R98) -/

/-- What a unit's end writes of the capstan is the trim (R146). -/
theorem endUnit_lock (cause : StopCause) (s : State) : (endUnit cause s).capstan.lock = s.capstan.lock := by
  unfold endUnit
  split
  · simp
  · unfold endChase
    split <;> simp [setChaseState, dropLocateOf]
  · simp
  · rfl

/-- A CONTROLLED or FAST stop demand does not stop the capstan (R98). -/
theorem stopDemand_lock {sev : Severity} (cause : StopCause) (s : State) (hb : sev ≠ .brake) :
    (stopDemand sev cause s).capstan.lock = s.capstan.lock := by
  rcases stopDemand_cases sev cause s with ⟨h, -⟩ | ⟨-, h⟩ | ⟨hsev, -⟩ | ⟨hsev, -⟩ | ⟨-, -, h⟩ | ⟨-, -, h⟩
  · rw [h]
  · rw [h]; simp
  · exact absurd hsev hb
  · exact absurd hsev hb
  · rw [h]; simp [endUnit_lock]
  · rw [h]; simp

theorem stopCapstan_on (h : s.capstan.lock ≠ .off) : (stopCapstan s).capstan = s.capstan.stopped := if_neg h

/-- CAPSTAN_STALL taken with no fault latched is latched, and the capstan is stopped with a drive code of 0 (R80). -/
theorem capstanStalls_latches (hon : s.capstan.lock ≠ .off) (hrec : s.fault.record = none) :
    (capstanStalls s).capstan.lock = .off ∧ (capstanStalls s).capstan.driveCode = 0 ∧
      ∃ f, (capstanStalls s).fault.record = some f ∧ f.primary = { kind := .capstanStall, reel := none } ∧ f.severity = .fast := by
  have hlock : (takeCondition .capstanStall none s).capstan.lock = s.capstan.lock := by
    simp only [takeCondition, takeConditionAt, hrec, latchPrimary]
    rw [stopDemand_lock _ _ (by decide)]
    rfl
  obtain ⟨f, hf, hprimary, hseverity, -⟩ := takeCondition_primary .capstanStall none hrec
  rw [capstanStalls, stopCapstan_on (by rwa [hlock])]
  exact ⟨rfl, rfl, f, hf, hprimary, hseverity⟩

/-! ## The rows of a capstan step -/

theorem driveCapstan_onlyChanges (s : State) : OnlyChanges [.capstan, .freeIndex] s (driveCapstan s) := by
  intro b; cases b <;> simp [sameBlock]

/-- No code is sent to a capstan that is OFF. -/
theorem driveCapstan_off (h : s.capstan.lock = .off) : driveCapstan s = s := if_pos h

/-- The loop writes the drive code alone (log entry 11). -/
theorem driveCapstan_capstan (s : State) :
    (driveCapstan s).capstan = { s.capstan with driveCode := (driveCapstan s).capstan.driveCode } := by
  unfold driveCapstan; split <;> rfl

theorem stallFalls_iff : stallFalls s = true ↔ s.capstan.lock ≠ .off ∧ 200 ≤ s.capstan.nextQuiet := by
  by_cases h : s.capstan.lock = .off
  · simp [stallFalls, h]
  · simp [stallFalls, Capstan.step_on h, h]

/-- A step stalls the capstan where the row of the stall says so, and otherwise sends its drive code. -/
theorem capstanStep_eq (s : State) :
    capstanStep s =
      if stallFalls s then capstanStalls (s.onCapstan Capstan.step) else driveCapstan (s.onCapstan Capstan.step) := by
  by_cases h : s.capstan.lock = .off
  · have hoff : s.capstan.step.lock = .off := by rw [Capstan.step_off h]; exact h
    simp [capstanStep, stallFalls, h, hoff]
  · simp [capstanStep, stallFalls, h, Capstan.step_lock_ne_off h]

theorem exec_capstanRows (h : s.held = none) :
    exec .capstanStep s = .next (capstanStep s) ∧
      exec .capstanStall s = .next (if stallFalls s then capstanStep s else s) :=
  ⟨whileRunning_of_running h, whileRunning_of_running h⟩

end CapstanSteps

/-- Settles O48: the steps of a capstan that is OFF, of one that turns, by lock state, and of one that stalls. -/
theorem capstanStepsFollowTheTarget : Obligations.CapstanStepsFollowTheTarget := by
  rintro s _ vs rate quiet window atSpeed hs rfl hvs hrate hquiet hwindow hatSpeed
  obtain ⟨hstep, hstall⟩ := exec_capstanRows hs
  have hslew : s.capstan.slew = { s.capstan with vs := vs } := by rw [Capstan.slew_eq, ← hvs]
  have hnextQuiet : s.capstan.nextQuiet = quiet := hquiet.symm
  refine ⟨fun hoff => ?off, fun hon hlt => ?turning, fun hon hge hrec _ => ?stalling⟩
  case off =>
    have hquietRow : ¬stallFalls s = true := fun hfalls => (stallFalls_iff.1 hfalls).1 hoff
    rw [if_neg hquietRow] at hstall
    refine ⟨?_, hstall⟩
    have hturned : s.capstan.step = { s.capstan with vs := vs } := by rw [Capstan.step_off hoff, hslew]
    rw [hstep, capstanStep_eq, if_neg hquietRow, State.onCapstan_congr (g := fun c => { c with vs := vs }) hturned,
      driveCapstan_off (s := s.onCapstan fun c => { c with vs := vs }) hoff]
  case turning =>
    have hquietRow : ¬stallFalls s = true := fun hfalls => Nat.not_le.2 (hnextQuiet ▸ hlt) (stallFalls_iff.1 hfalls).2
    rw [if_neg hquietRow] at hstall
    rw [capstanStep_eq, if_neg hquietRow] at hstep
    have htargetRate : s.capstan.slew.targetRate = rate := by rw [hslew, hrate]; rfl
    have hspeed : s.capstan.counted.atSpeed = true ↔ atSpeed := by
      rw [Capstan.atSpeed_iff, hatSpeed, hwindow, ← htargetRate]
      rfl
    obtain ⟨hvs', hquiet', hwindow', hnet, hseen, he⟩ := Capstan.step_counts hon
    refine ⟨hstall, _, hstep, ((s.onCapstan_onlyChanges _).mono (by simp)).trans (driveCapstan_onlyChanges _), ?_⟩
    rw [driveCapstan_capstan]
    dsimp only [State.onCapstan_capstan]
    refine ⟨by rw [hvs', hslew], by rw [hquiet', hnextQuiet], by rw [hwindow', hwindow], hnet, hseen, he, fun hstays => ?_,
      fun hl hat => ⟨Capstan.step_unlocks hl (hspeed.2 hat), Capstan.step_holdsOver hl (hspeed.2 hat)⟩, Capstan.step_r_driven,
      fun hl => ?_⟩
    · exact Capstan.step_stays hon (by rwa [hspeed])
    · rw [← htargetRate]
      exact Capstan.step_r_holdover hl
  case stalling =>
    have hfalls : stallFalls s = true := stallFalls_iff.2 ⟨hon, hnextQuiet ▸ hge⟩
    have hboth : capstanStep s = capstanStalls (s.onCapstan Capstan.step) := by rw [capstanStep_eq, if_pos hfalls]
    obtain ⟨hoff, hdrive, f, hf⟩ := capstanStalls_latches (s := s.onCapstan Capstan.step) (Capstan.step_lock_ne_off hon) hrec
    exact ⟨_, f, hstep.trans (by rw [hboth]), hstall.trans (by rw [if_pos hfalls, hboth]), hoff, hdrive, hf⟩

end Sys2Proof.Machine

namespace Sys2Proof.Machine

/-! ## One accepted reference edge as a change of the controller (R67, R71) -/

section ReferenceEdges

variable {p : Nat} {c : Capstan} {s : State}

/-- The accepted periods with one more of 240 to 1 500 (R67). -/
def Capstan.periodsWith (c : Capstan) (p : Nat) : List Nat := if p ≤ 1500 then (p :: c.periods).take 64 else c.periods

theorem Capstan.measuredRef_eq (c : Capstan) : c.measuredRef = 3072000000000 / c.periods.sum := rfl

/-- The controller, its reference PRESENT, after a period of at least 240: S and f_ref (R67). -/
def Capstan.timed (c : Capstan) (p : Nat) : Capstan :=
  { c with periods := c.periodsWith p, fRef := if p ≤ 1500 then 3072000000000 / (c.periodsWith p).sum else c.fRef }

theorem Capstan.takePeriod_present (h : 240 ≤ p) (hp : c.present = true) : c.takePeriod p = c.timed p := by
  unfold takePeriod timed periodsWith
  by_cases hin : p ≤ 1500
  · simp [periodInRange, h, hin, hp, measuredRef_eq]
  · simp [periodInRange, h, hin]

/-- While ABSENT a period enters S alone (log entry 39). -/
theorem Capstan.takePeriod_absent (h : 240 ≤ p) (hp : c.present = false) :
    c.takePeriod p = { c with periods := c.periodsWith p } := by
  unfold takePeriod periodsWith
  by_cases hin : p ≤ 1500
  · simp [periodInRange, h, hin, hp]
  · simp [periodInRange, h, hin]

theorem Capstan.advanceRef_frame (c : Capstan) :
    c.advanceRef = { c with r := c.advanceRef.r, remRef := c.advanceRef.remRef } := by
  unfold advanceRef; split <;> rfl

theorem Capstan.advanceRef_stays (h : c.present = false ∨ c.lock ≠ .unlocked ∧ c.lock ≠ .locked) : c.advanceRef = c := by
  refine if_neg fun ⟨hp, hl⟩ => ?_
  rcases h with habsent | ⟨hu, hl'⟩
  · simp [habsent] at hp
  · exact hl.elim hu hl'

/-- The advance of R at a reference edge carries what it leaves over (R71). -/
theorem Capstan.advanceRef_driven (hp : c.present = true) (hl : c.lock = .unlocked ∨ c.lock = .locked) (hd : 1 ≤ c.d) :
    c.d * 10000 * c.advanceRef.r + c.advanceRef.remRef = c.d * 10000 * c.r + c.m * (10000 + c.vs) * 65536 + c.remRef ∧
      0 ≤ c.advanceRef.remRef ∧ c.advanceRef.remRef < c.d * 10000 := by
  have hpos : (0 : Int) < c.d * 10000 := by omega
  rw [advanceRef, if_pos ⟨hp, hl⟩]
  refine ⟨?_, Int.emod_nonneg _ (by omega), Int.emod_lt_of_pos _ hpos⟩
  dsimp only
  rw [Int.mul_add, Int.add_assoc, Int.mul_ediv_add_emod, ← Int.add_assoc]

/-! ## The edge as a whole (R67, R68) -/

theorem referenceEdge_early (h : p < 240) : referenceEdge p s = s := if_pos h

theorem referenceEdge_present (h : 240 ≤ p) (hp : s.capstan.present = true) :
    referenceEdge p s = s.onCapstan fun c => (c.takePeriod p).advanceRef := by
  rw [referenceEdge, if_neg (Nat.not_lt.2 h)]
  exact if_pos hp

/-- The present run that an edge leaves (R68). -/
def Capstan.nextRun (c : Capstan) (p : Nat) : Nat := if p ≤ 1500 then c.presentRun + 1 else 0

/-- The controller, its reference ABSENT, after an edge: S and the present run. -/
def Capstan.awaited (c : Capstan) (p : Nat) : Capstan := { c with periods := c.periodsWith p, presentRun := c.nextRun p }

theorem referenceEdge_absent (h : 240 ≤ p) (hp : s.capstan.present = false) :
    referenceEdge p s =
      if 64 ≤ s.capstan.nextRun p then referenceReturns (s.onCapstan (Capstan.awaited · p))
      else s.onCapstan (Capstan.awaited · p) := by
  have htaken : (s.capstan.takePeriod p).advanceRef = { s.capstan with periods := s.capstan.periodsWith p } := by
    rw [Capstan.takePeriod_absent h hp]
    exact Capstan.advanceRef_stays (.inl hp)
  have hrun : (if periodInRange p then s.capstan.presentRun + 1 else 0) = s.capstan.nextRun p := by
    simp [periodInRange, Capstan.nextRun, h]
  have hedge : (s.onCapstan fun c => (c.takePeriod p).advanceRef).onCapstan
      (fun c => { c with presentRun := if periodInRange p then c.presentRun + 1 else 0 }) = s.onCapstan (Capstan.awaited · p) := by
    simp only [State.onCapstan, htaken, hrun, Capstan.awaited]
  rw [referenceEdge, if_neg (Nat.not_lt.2 h)]
  dsimp only
  rw [if_neg (by simp [hp]), hedge]
  rfl

/-! ## A reference that returns (R68, R75) -/

/-- The controller with its reference PRESENT again, f_ref being that of S. -/
def Capstan.returned (c : Capstan) : Capstan := { c with present := true, presentRun := 0, fRef := c.measuredRef }

theorem referenceReturns_capstan (s : State) :
    (referenceReturns s).capstan =
      if s.capstan.lock = .holdover then s.capstan.returned.holdoverReturn else s.capstan.returned := rfl

theorem referenceReturns_elsewhere (h : s.capstan.lock ≠ .holdover) :
    (referenceReturns s).capstan = s.capstan.returned := if_neg h

theorem referenceReturns_holdover (h : s.capstan.lock = .holdover) :
    (referenceReturns s).capstan = s.capstan.returned.holdoverReturn := if_pos h

theorem referenceReturns_link (s : State) :
    (referenceReturns s).link = txTake (enqueueNotice (.ref .returned s.capstan.source true) s.link) := rfl

theorem referenceReturns_onlyChanges (s : State) : OnlyChanges [.capstan, .link] s (referenceReturns s) := by
  intro b; cases b <;> simp [sameBlock]

/-- The return from HOLDOVER keeps the status, S and f_ref. -/
theorem Capstan.holdoverReturn_frame (c : Capstan) :
    c.holdoverReturn.present = c.present ∧ c.holdoverReturn.presentRun = c.presentRun ∧ c.holdoverReturn.periods = c.periods ∧
      c.holdoverReturn.fRef = c.fRef := by
  unfold holdoverReturn; dsimp only; split <;> exact ⟨rfl, rfl, rfl, rfl⟩

/-- However it stands, the controller has its reference PRESENT, with f_ref measured from S (R67, R68). -/
theorem referenceReturns_status (s : State) :
    (referenceReturns s).capstan.present = true ∧ (referenceReturns s).capstan.presentRun = 0 ∧
      (referenceReturns s).capstan.periods = s.capstan.periods ∧ (referenceReturns s).capstan.fRef = s.capstan.measuredRef := by
  rw [referenceReturns_capstan]
  split
  · exact s.capstan.returned.holdoverReturn_frame
  · exact ⟨rfl, rfl, rfl, rfl⟩

/-- A base rate that is held does not move with f_ref (R66). -/
theorem Capstan.returned_base (h : c.frozenBase ≠ none) : c.returned.base = c.base := by
  obtain ⟨b, hb⟩ := Option.ne_none_iff_exists'.1 h
  simp [base, returned, hb]

/-- Where the new base rate lies within 2 % of the one held, the capstan goes on in UNLOCKED, with R aligned; beyond it spins up
again (R75). -/
theorem Capstan.holdoverReturn_lock {b : Nat} (hb : b = c.freshBase) :
    c.holdoverReturn.frozenBase = none ∧
      c.holdoverReturn.lock = (if 100 * mag ((b : Int) - c.base) ≤ 2 * b then .unlocked else .spinup) ∧
      (c.holdoverReturn.lock = .unlocked → c.holdoverReturn.r = c.e * 65536 ∧ c.holdoverReturn.ePhi = 0) := by
  have hfits : decide ((mag ((c.freshBase : Int) - c.base) : Int) * 100 ≤ 2 * c.freshBase) = true ↔
      100 * mag ((b : Int) - c.base) ≤ 2 * b := by
    rw [decide_eq_true_iff, hb]
    omega
  unfold holdoverReturn
  dsimp only
  by_cases hnear : 100 * mag ((b : Int) - c.base) ≤ 2 * b
  · rw [if_pos (hfits.2 hnear), if_pos hnear]
    exact ⟨rfl, rfl, fun _ => ⟨rfl, rfl⟩⟩
  · rw [if_neg (fun h => hnear (hfits.1 h)), if_neg hnear]
    exact ⟨rfl, rfl, by simp [started]⟩

/-! ## A reference that is lost (R68, R75) -/

theorem referenceLost_capstan (s : State) :
    (referenceLost s).capstan =
      if s.capstan.lock = .unlocked ∨ s.capstan.lock = .locked then
        ({ s.capstan with present := false, presentRun := 0 } : Capstan).holdoverEntry s.capstan.base
      else { s.capstan with present := false, presentRun := 0 } := by
  simp only [referenceLost, State.onCapstan_capstan, monitorEvent_frame, refNotice_frame]
  rfl

theorem referenceLost_onlyChanges (s : State) : OnlyChanges [.capstan, .monitor, .link] s (referenceLost s) := by
  intro b; cases b <;> simp [sameBlock]

theorem referenceLost_counts (s : State) : CountsWhere (·.capstan) .referenceLosses s (referenceLost s) :=
  (monitorEvent_counts .referenceLosses .capstan
    (refNotice .lost (s.onCapstan fun c => { c with present := false, presentRun := 0 }))).of_monitor rfl rfl

theorem referenceLost_posts (s : State) : PostsUnlessFreezing (.ref .lost s.capstan.source false) s (referenceLost s) :=
  fun hfrozen => monitorEvent_link (ev := .referenceLosses) (source := .capstan)
    (s := refNotice .lost (s.onCapstan fun c => { c with present := false, presentRun := 0 })) hfrozen

/-! ## The rows of the reference -/

theorem exec_refInEdge (h : s.held = none) (p : Nat) :
    exec (.refInEdge p) s = .next (if s.capstan.source = .external then referenceEdge p s else s) := whileRunning_of_running h

theorem exec_internalReferenceEdge (h : s.held = none) :
    exec .internalReferenceEdge s = .next (if s.capstan.source = .internal then referenceEdge 1000 s else s) :=
  whileRunning_of_running h

/-- An edge of the source in force acts (R67). -/
theorem exec_edge_inForce {edge : Instr} (hs : s.held = none)
    (h : (edge = .refInEdge p ∧ s.capstan.source = .external) ∨
      (edge = .internalReferenceEdge ∧ s.capstan.source = .internal ∧ p = 1000)) :
    exec edge s = .next (referenceEdge p s) := by
  rcases h with ⟨rfl, hsource⟩ | ⟨rfl, hsource, rfl⟩
  · rw [exec_refInEdge hs, if_pos hsource]
  · rw [exec_internalReferenceEdge hs, if_pos hsource]

theorem exec_referenceReturned (h : s.held = none) (p : Nat) :
    exec (.referenceReturned p) s = .next (if returnFalls p s then referenceEdge p s else s) := whileRunning_of_running h

/-- REFERENCE_RETURNED falls on the 64th period in range of an ABSENT reference (R68). -/
theorem returnFalls_iff (h : 240 ≤ p) (hsource : s.capstan.source = .external ∨ p = 1000) :
    returnFalls p s = true ↔ s.capstan.present = false ∧ s.capstan.nextRun p = 64 := by
  have hrun : s.capstan.nextRun p = 64 ↔ s.capstan.presentRun = 63 ∧ p ≤ 1500 := by
    unfold Capstan.nextRun; split <;> omega
  simp [returnFalls, periodInRange, h, hsource, hrun, and_assoc]

theorem exec_referenceLost (h : s.held = none) :
    exec .referenceLost s =
      .next (if s.capstan.source = .external ∧ s.capstan.present = true then referenceLost s else s) := whileRunning_of_running h

end ReferenceEdges

/-- Settles O49: the edges of the other source and those that come early, an edge while PRESENT, one while ABSENT, by its run, and
the loss. -/
theorem referenceEdgesAreFollowed : Obligations.ReferenceEdgesAreFollowed := by
  rintro s p _ edge periods hs rfl hinForce hperiods
  have hedge := exec_edge_inForce hs hinForce
  have hsource : s.capstan.source = .external ∨ p = 1000 := by
    rcases hinForce with ⟨-, h⟩ | ⟨-, -, h⟩
    · exact .inl h
    · exact .inr h
  have hreturned := exec_referenceReturned hs p
  obtain rfl : periods = s.capstan.periodsWith p := hperiods
  refine ⟨fun hi n => ?_, fun he => ?_, fun hearly => ?_, fun hp hpresent => ?present, fun hp habsent run hrun => ?absent,
    fun hno => ?_, fun he hpresent => ?lost⟩
  · rw [exec_refInEdge hs, if_neg (by simp [hi])]
  · rw [exec_internalReferenceEdge hs, if_neg (by simp [he])]
  · rw [hedge, referenceEdge_early hearly]
  case present =>
    have hnoReturn : ¬returnFalls p s = true := by simp [returnFalls_iff hp hsource, hpresent]
    rw [referenceEdge_present hp hpresent] at hedge
    refine ⟨by rw [hreturned, if_neg hnoReturn], _, hedge, s.onCapstan_onlyChanges _, ?_⟩
    rw [State.onCapstan_capstan, Capstan.takePeriod_present hp hpresent]
    refine ⟨Capstan.advanceRef_frame _, fun hu hl => ?_, Capstan.advanceRef_driven (c := s.capstan.timed p) hpresent⟩
    rw [Capstan.advanceRef_stays (c := s.capstan.timed p) (.inr ⟨hu, hl⟩)]
    exact ⟨rfl, rfl⟩
  case absent =>
    obtain rfl : run = s.capstan.nextRun p := hrun
    rw [referenceEdge_absent hp habsent] at hedge
    refine ⟨fun hlt => ?_, fun h64 => ?returns⟩
    · rw [if_neg (by omega)] at hedge
      refine ⟨hedge, ?_⟩
      rw [hreturned, if_neg (by rw [returnFalls_iff hp hsource]; omega)]
    case returns =>
      have hfalls : returnFalls p s = true := (returnFalls_iff hp hsource).2 ⟨habsent, h64⟩
      rw [if_pos hfalls, referenceEdge_absent hp habsent] at hreturned
      rw [if_pos (by omega)] at hedge hreturned
      obtain ⟨hpresent, hrun, hperiods, hfRef⟩ := referenceReturns_status (s.onCapstan (Capstan.awaited · p))
      refine ⟨_, _, hedge, hreturned, ?_, hpresent, hrun, hperiods, hfRef, referenceReturns_link _, rfl, fun hl => ?_,
        fun hl hfrozen => ?_⟩
      · exact ((s.onCapstan_onlyChanges _).mono (by simp)).trans (referenceReturns_onlyChanges _)
      · rw [referenceReturns_elsewhere (s := s.onCapstan (Capstan.awaited · p)) hl]
        exact ⟨rfl, rfl, rfl⟩
      · have hbase : (s.capstan.awaited p).returned.base = s.capstan.base := Capstan.returned_base hfrozen
        rw [hfRef, referenceReturns_holdover (s := s.onCapstan (Capstan.awaited · p)) hl, ← hbase]
        exact Capstan.holdoverReturn_lock rfl
  · rw [exec_referenceLost hs, if_neg (by rcases hno with h | h <;> simp [h])]
  case lost =>
    have hposts := referenceLost_posts s
    rw [he] at hposts
    refine ⟨referenceLost s, by rw [exec_referenceLost hs, if_pos ⟨he, hpresent⟩], referenceLost_onlyChanges s,
      referenceLost_counts s, hposts, fun hu hl => ?_, fun hdriven => ?_⟩
    · rw [referenceLost_capstan, if_neg fun h => h.elim hu hl]
    · rw [referenceLost_capstan, if_pos hdriven]
      rfl

end Sys2Proof.Machine

namespace Sys2Proof.Machine

/-! # Proofs of family 05, transport modes and motion planning

First the invariant of units and modes (O58): the items it reads, what each shared operation makes of them, and what every command does.
Then the requests LOAD and UNLOAD (O24), WIND (O25), PLAY (O26) and STOP (O27), the faults (O46), and the steps and completions of the
planner (O51, O52, O50). -/

/-! ## What the invariant of units and modes reads (R96, R98, R128, R137, R149, R170) -/

/-- The items of a state that `UnitsOwnModes` speaks of. -/
structure Units where
  mode : Mode
  stop : Option Severity
  chase : ChaseState
  survey : SurveyState
  owner : Option LocateOwner
  latched : Bool

def State.units (s : State) : Units :=
  { mode := s.planner.mode, stop := s.planner.stopInForce, chase := s.chase.state, survey := s.survey.state,
    owner := s.locate.map (·.owner), latched := s.fault.record.isSome }

/-- The modes that a unit owns (R96). -/
@[simp] def Mode.ofUnit (m : Mode) : Bool := m == .locate || m == .chase || m == .survey

/-- The modes of a stop (R98). -/
@[simp] def Mode.ofStop (m : Mode) : Bool := m == .stopping || m == .braking

theorem Mode.safe_of_ofStop {m : Mode} (h : m.ofStop = true) : m.ofUnit = false ∧ m.safeWithFault = true := by
  cases m <;> simp_all [Mode.safeWithFault]

/-- A survey that is POSITIONING or RUNNING. -/
def SurveyState.runs (x : SurveyState) : Bool := x == .positioning || x == .running

@[simp] theorem SurveyState.runs_positioning : SurveyState.positioning.runs = true := rfl
@[simp] theorem SurveyState.runs_running : SurveyState.running.runs = true := rfl
@[simp] theorem SurveyState.runs_none : SurveyState.none.runs = false := rfl
@[simp] theorem SurveyState.runs_ended : SurveyState.ended.runs = false := rfl

@[simp] theorem surveyRuns_eq (x : Survey) : surveyRuns x = x.state.runs := rfl

namespace Units

/-- No unit operates outside its mode, and a stop is in force exactly in the modes of one. -/
structure Inside (u : Units) : Prop where
  chase : u.chase ≠ .off → u.mode = .chase
  survey : u.survey.runs = true → u.mode = .survey
  host : u.owner = some .host → u.mode = .locate
  byChase : u.owner = some .chase → u.chase = .seek
  bySurvey : u.owner = some .survey → u.survey = .positioning
  stop : u.stop.isSome = u.mode.ofStop

/-- And every unit operates in its mode, with no motion but a stop under a fault. -/
structure Own (u : Units) : Prop extends Inside u where
  chases : u.mode = .chase → u.chase ≠ .off
  surveys : u.mode = .survey → u.survey.runs = true
  locates : u.mode = .locate → u.owner = some .host
  positions : u.survey = .positioning → u.owner = some .survey
  safe : u.latched = true → u.mode.safeWithFault = true

/-- No unit operates, whatever the mode. -/
structure Free (u : Units) : Prop where
  chase : u.chase = .off
  survey : u.survey.runs = false
  owner : u.owner = none
  stop : u.stop.isSome = u.mode.ofStop

/-- A mode is entered, with the stop that is in force there. -/
def enter (m : Mode) (stop : Option Severity) (u : Units) : Units := { u with mode := m, stop := stop }

variable {u : Units}

theorem Free.inside (h : u.Free) : u.Inside where
  chase hc := absurd h.chase hc
  survey hs := absurd (h.survey.symm.trans hs) (by decide)
  host ho := absurd (h.owner.symm.trans ho) (by decide)
  byChase ho := absurd (h.owner.symm.trans ho) (by decide)
  bySurvey ho := absurd (h.owner.symm.trans ho) (by decide)
  stop := h.stop

/-- Where the unit that owns the mode does not operate, none does. -/
theorem Inside.free (h : u.Inside) (hc : u.mode = .chase → u.chase = .off) (hs : u.mode = .survey → u.survey.runs = false)
    (hl : u.mode = .locate → u.owner ≠ some .host) : u.Free := by
  have hchase : u.chase = .off := by_contra fun hne => hne (hc (h.chase hne))
  have hsurvey : u.survey.runs = false := by
    by_contra hne
    have hruns : u.survey.runs = true := by simpa using hne
    exact hne (hs (h.survey hruns))
  refine ⟨hchase, hsurvey, ?_, h.stop⟩
  cases ho : u.owner with
  | none => rfl
  | some o =>
    cases o with
    | host => exact absurd ho (hl (h.host ho))
    | chase => simp [h.byChase ho] at hchase
    | survey => simp [h.bySurvey ho] at hsurvey

/-- Outside the modes of the units none of them operates. -/
theorem Inside.free_of_mode {m : Mode} (h : u.Inside) (hu : u.mode = m) (hm : m.ofUnit = false) : u.Free := by
  subst hu
  exact h.free (fun hc => by simp [hc] at hm) (fun hs => by simp [hs] at hm) (fun hl => by simp [hl] at hm)

/-- Where no unit operates, a mode that none owns may be entered. -/
theorem Free.own (h : u.Free) (hm : u.mode.ofUnit = false) (hsafe : u.latched = true → u.mode.safeWithFault = true) :
    u.Own where
  toInside := h.inside
  chases hc := by simp [hc] at hm
  surveys hs := by simp [hs] at hm
  locates hl := by simp [hl] at hm
  positions hp := absurd h.survey (by simp [hp])
  safe := hsafe

/-- A chase that ends leaves no unit operating. -/
theorem Inside.endChase (h : u.Inside) (hc : u.chase ≠ .off) :
    Free { u with chase := .off, owner := u.owner.filter (· != .chase) } := by
  have hm := h.chase hc
  have hsurvey : u.survey.runs = false := by
    by_contra hs
    simp [h.survey (by simpa using hs)] at hm
  refine ⟨rfl, hsurvey, ?_, h.stop⟩
  cases ho : u.owner with
  | none => rfl
  | some o =>
    cases o with
    | host => simp [h.host ho] at hm
    | chase => rfl
    | survey => simp [h.bySurvey ho] at hsurvey

/-- A survey that ends leaves no unit operating. -/
theorem Inside.endSurvey (h : u.Inside) (hs : u.survey.runs = true) :
    Free { u with survey := .ended, owner := u.owner.filter (· != .survey) } := by
  have hm := h.survey hs
  have hchase : u.chase = .off := by
    by_contra hc
    simp [h.chase hc] at hm
  refine ⟨hchase, rfl, ?_, h.stop⟩
  cases ho : u.owner with
  | none => rfl
  | some o =>
    cases o with
    | host => simp [h.host ho] at hm
    | chase => simp [h.byChase ho] at hchase
    | survey => rfl

/-- A host's locate that ends leaves no unit operating. -/
theorem Inside.endLocate (h : u.Inside) (hm : u.mode = .locate) : Free { u with owner := none } := by
  have hfree : Inside { u with owner := none } := ⟨h.chase, h.survey, nofun, nofun, nofun, h.stop⟩
  exact hfree.free (fun hc => by simp [hm] at hc) (fun hs => by simp [hm] at hs) (fun _ => nofun)

@[simp] theorem Free.own_enter {m : Mode} {stop : Option Severity} (h : u.Free) (hm : m.ofUnit = false)
    (hstop : stop.isSome = m.ofStop) (hsafe : u.latched = true → m.safeWithFault = true) : (u.enter m stop).Own :=
  Free.own ⟨h.chase, h.survey, h.owner, hstop⟩ hm hsafe

end Units

theorem unitsOwnModes_iff (s : State) : UnitsOwnModes s ↔ s.units.Own := by
  have hstop : (s.planner.stopInForce ≠ none ↔ s.planner.mode = .stopping ∨ s.planner.mode = .braking) ↔
      s.planner.stopInForce.isSome = s.planner.mode.ofStop := by
    rw [Bool.eq_iff_iff, Option.isSome_iff_ne_none]
    simp
  have hfault : s.fault.record ≠ none ↔ s.fault.record.isSome = true := Option.isSome_iff_ne_none.symm
  unfold UnitsOwnModes
  rw [hstop, hfault, surveyRuns_eq]
  constructor
  · rintro ⟨hchase, hsurvey, hhost, hbyChase, hbySurvey, hs, hf⟩
    exact ⟨⟨hchase.2, hsurvey.2, hhost.2, hbyChase, hbySurvey.1, hs⟩, hchase.1, hsurvey.1, hhost.1, hbySurvey.2, hf⟩
  · rintro ⟨⟨hchase, hsurvey, hhost, hbyChase, hbySurvey, hs⟩, hchases, hsurveys, hlocates, hpositions, hf⟩
    exact ⟨⟨hchases, hchase⟩, ⟨hsurveys, hsurvey⟩, ⟨hlocates, hhost⟩, hbyChase, ⟨hbySurvey, hpositions⟩, hs, hf⟩

/-! ## Updates of one block -/

section Updates

variable (s : State)

@[simp] theorem State.units_pending (l : List Instr) : ({ s with pending := l } : State).units = s.units := (rfl)
@[simp] theorem State.onSense_units (f : Sense → Sense) : (s.onSense f).units = s.units := (rfl)
@[simp] theorem State.onTach_units (f : Tach → Tach) : (s.onTach f).units = s.units := (rfl)
@[simp] theorem State.onPacks_units (f : Packs → Packs) : (s.onPacks f).units = s.units := (rfl)
@[simp] theorem State.onServo_units (f : Servo → Servo) : (s.onServo f).units = s.units := (rfl)
@[simp] theorem State.onCapstan_units (f : Capstan → Capstan) : (s.onCapstan f).units = s.units := (rfl)
@[simp] theorem State.onZones_units (f : Zones → Zones) : (s.onZones f).units = s.units := (rfl)
@[simp] theorem State.onCues_units (f : Cues → Cues) : (s.onCues f).units = s.units := (rfl)
@[simp] theorem State.onParams_units (f : LocateParams → LocateParams) : (s.onParams f).units = s.units := (rfl)
@[simp] theorem State.onMonitor_units (f : Monitor → Monitor) : (s.onMonitor f).units = s.units := (rfl)
@[simp] theorem State.onLink_units (f : Link → Link) : (s.onLink f).units = s.units := (rfl)
@[simp] theorem State.onLines_units (f : Lines → Lines) : (s.onLines f).units = s.units := (rfl)
@[simp] theorem State.takeFree_units : s.takeFree.units = s.units := (rfl)
@[simp] theorem State.onArm_units (r : Reel) (f : ArmChannel → ArmChannel) : (s.onArm r f).units = s.units := (rfl)
@[simp] theorem State.onPresence_units (i : PresenceId) (f : PresenceChannel → PresenceChannel) :
    (s.onPresence i f).units = s.units := (rfl)

/-- An update of the planner that leaves the mode and the stop in force. -/
@[simp] theorem State.onPlanner_units {f : Planner → Planner} (hm : ∀ p, (f p).mode = p.mode)
    (hs : ∀ p, (f p).stopInForce = p.stopInForce) : (s.onPlanner f).units = s.units := by
  simp [State.units, hm, hs]

/-- An update of the chase that leaves its state. -/
@[simp] theorem State.onChase_units {f : Chase → Chase} (h : ∀ c, (f c).state = c.state) : (s.onChase f).units = s.units := by
  simp [State.units, h]

/-- An update of the Fault Unit that keeps a fault latched, or none. -/
@[simp] theorem State.onFault_units {f : FaultUnit → FaultUnit} (h : (f s.fault).record.isSome = s.fault.record.isSome) :
    (s.onFault f).units = s.units := by
  simp [State.units, h]

/-- An update of the survey that leaves its state. -/
@[simp] theorem State.onSurvey_units {f : Survey → Survey} (h : ∀ x, (f x).state = x.state) : (s.onSurvey f).units = s.units := by
  simp [State.units, h]

end Updates

/-! ## What the shared operations make of the units -/

section Operations

variable (s : State)

@[simp] theorem postNotice_units (n : Notice) : (postNotice n s).units = s.units := (rfl)
@[simp] theorem addCounts_units (adds : Four Nat) : (addCounts adds s).units = s.units := by simp [State.units]
@[simp] theorem monitorEvent_units (ev : MonEvent) (source : EventSource) : (monitorEvent ev source s).units = s.units :=
  addCounts_units s _
@[simp] theorem refreshInhibit_units : (refreshInhibit s).units = s.units := (rfl)

@[simp] theorem setMode_units (m : Mode) (sub : Option SubStage) (cause : ModeCause) :
    (setMode m sub cause s).units = s.units.enter m s.units.stop := by
  simp [State.units, Units.enter]

@[simp] theorem applyBrakes_units : (applyBrakes s).units = s.units := (rfl)
@[simp] theorem releaseBrakes_units : (releaseBrakes s).units = s.units := (rfl)
@[simp] theorem openPinch_units : (openPinch s).units = s.units := (rfl)
@[simp] theorem closePinch_units : (closePinch s).units = s.units := (rfl)
@[simp] theorem disableDrives_units : (disableDrives s).units = s.units := (rfl)
@[simp] theorem stopCapstan_units : (stopCapstan s).units = s.units := (rfl)
@[simp] theorem startCapstan_units : (startCapstan s).units = s.units := (rfl)
@[simp] theorem recomputeLimits_units : (recomputeLimits s).units = s.units := (rfl)
@[simp] theorem refuse_units (code : ResultCode) : (refuse s code).state.units = s.units := (rfl)
@[simp] theorem accept_units (clamped : Bool) (body : List Byte) : (accept s clamped body).state.units = s.units := (rfl)

/-! ## The endings of the units' operations -/

@[simp] theorem finishLocate_units (outcome : LocateOutcome) (playStarted : Bool) :
    (finishLocate outcome playStarted s).units = { s.units with owner := none } := by
  unfold finishLocate
  split
  next h => simp [State.units, h]
  next => rfl

@[simp] theorem dropLocateOf_units (owner : LocateOwner) :
    (dropLocateOf owner s).units = { s.units with owner := s.units.owner.filter (· != owner) } := by
  cases h : s.locate <;> simp [State.units, dropLocateOf, h, Option.filter]
  split <;> simp_all

@[simp] theorem setChaseState_units (st : ChaseState) (cause : ChaseCause) :
    (setChaseState st cause s).units = { s.units with chase := st } := (rfl)

theorem endChase_units (cause : ChaseCause) (h : s.chase.state ≠ .off) :
    (endChase cause s).units = { s.units with chase := .off, owner := s.units.owner.filter (· != .chase) } := by
  simp [endChase, h]

theorem endSurvey_units (outcome : SurveyOutcome) (reason : Option AbortReason) (by_ : EndedBy)
    (h : s.survey.state.runs = true) :
    (endSurvey outcome reason by_ s).units =
      { s.units with survey := .ended, owner := s.units.owner.filter (· != .survey) } := by
  have hdrop := dropLocateOf_units s .survey
  simp only [endSurvey, surveyRuns_eq, h, if_true]
  change ({ (dropLocateOf .survey s).units with survey := .ended } : Units) = _
  rw [hdrop]

end Operations

section Stops

variable {s : State}

/-- The end of the unit that owns the mode leaves no unit operating, in the same mode. -/
theorem endUnit_units (cause : StopCause) (h : s.units.Inside) :
    (endUnit cause s).units.Free ∧ (endUnit cause s).units.mode = s.units.mode ∧ (endUnit cause s).units.stop = s.units.stop ∧
      (endUnit cause s).units.latched = s.units.latched := by
  have hbySurvey (outcome : SurveyOutcome) (reason : Option AbortReason) (by_ : EndedBy) (hm : s.planner.mode = .survey) :
      (endSurvey outcome reason by_ s).units.Free ∧ (endSurvey outcome reason by_ s).units.mode = s.units.mode ∧
        (endSurvey outcome reason by_ s).units.stop = s.units.stop ∧
        (endSurvey outcome reason by_ s).units.latched = s.units.latched := by
    by_cases hs : s.survey.state.runs = true
    · rw [endSurvey_units s _ _ _ hs]
      exact ⟨h.endSurvey hs, rfl, rfl, rfl⟩
    · have hidle : endSurvey outcome reason by_ s = s := by simp [endSurvey, hs]
      rw [hidle]
      exact ⟨h.free (fun hc => by cases hm.symm.trans hc) (fun _ => Bool.eq_false_iff.2 hs) (fun hl => by cases hm.symm.trans hl),
        rfl, rfl, rfl⟩
  unfold endUnit
  split
  next hm => exact ⟨by simpa using h.endLocate hm, by simp⟩
  next hm =>
    by_cases hc : s.chase.state = .off
    · have hidle : endChase (chaseCauseOf cause) s = s := by simp [endChase, hc]
      rw [hidle]
      exact ⟨h.free (fun _ => hc) (fun hs => by cases hm.symm.trans hs) (fun hl => by cases hm.symm.trans hl), rfl, rfl, rfl⟩
    · rw [endChase_units s _ hc]
      exact ⟨h.endChase hc, rfl, rfl, rfl⟩
  next hm => cases cause <;> exact hbySurvey _ _ _ hm
  next hl hc hs => exact ⟨h.free (absurd · hc) (absurd · hs) (absurd · hl), rfl, rfl, rfl⟩

/-! ## Entries to modes -/

@[simp] theorem publishStopCause_units (cause : StopCause) : (publishStopCause cause s).units = s.units := (rfl)

@[simp] theorem beginStopping_units (sev : Severity) (cause : StopCause) :
    (beginStopping sev cause s).units = s.units.enter .stopping (some sev) := by
  simp [beginStopping, State.units, Units.enter, openPinch]

@[simp] theorem enterBraking_units (cause : StopCause) :
    (enterBraking cause s).units = s.units.enter .braking (some .brake) := by
  simp [enterBraking, State.units, Units.enter, openPinch, applyBrakes, disableDrives]

@[simp] theorem failLoad_units (cause : ModeCause) : (failLoad cause s).units = s.units.enter .braked none := by
  simp [failLoad, State.units, Units.enter, openPinch]

@[simp] theorem enterHold_units (cause : ModeCause) : (enterHold cause s).units = s.units.enter .hold none := by
  simp [enterHold, State.units, Units.enter, openPinch]

@[simp] theorem clearMismatch_units : (clearMismatch s).units = s.units := by
  unfold clearMismatch; split <;> rfl

@[simp] theorem clearMarks_units : (clearMarks s).units = s.units := (rfl)

@[simp] theorem enterIdle_units (cause : ModeCause) : (enterIdle cause s).units = s.units.enter .idle none := by
  rw [enterIdle, clearMarks_units, State.onPacks_units, clearMismatch_units]
  simp [State.units, Units.enter, openPinch]

@[simp] theorem startMotion_units : (startMotion s).units = s.units := (rfl)

@[simp] theorem abandonStop_units : (abandonStop s).units = s.units.enter s.units.mode none := (rfl)

@[simp] theorem enterEngaging_units (cause : ModeCause) :
    (enterEngaging cause s).units = s.units.enter (if s.planner.pinch = .closed then .play else .engaging) none := by
  simp [enterEngaging, State.units, Units.enter, startMotion, clearMarks, abandonStop]

@[simp] theorem completeLoad_units : (completeLoad s).units = s.units.enter .stopping (some .controlled) := by
  simp [completeLoad]

/-! ## Stop demands, conditions and the enabling of the drives -/

/-- A mode at rest, or on the way there, is kept. -/
theorem Units.Inside.own_of_safe {u : Units} (h : u.Inside) (hm : u.mode.safeWithFault = true) : u.Own :=
  have hunit : u.mode.ofUnit = false := by cases hu : u.mode <;> simp_all [Mode.safeWithFault]
  (h.free_of_mode rfl hunit).own hunit fun _ => hm

/-- A stop demand leaves the transport at rest or on the way there, and no unit operating (R98). -/
@[simp] theorem stopDemand_own (sev : Severity) (cause : StopCause) (h : s.units.Inside) : (stopDemand sev cause s).units.Own := by
  have hends := (endUnit_units cause h).1
  have hstays (hm : s.planner.mode.safeWithFault = true) : s.units.Own := h.own_of_safe hm
  unfold stopDemand
  split
  next hm => exact hstays (by rw [hm]; rfl)
  next hm => exact hstays (by rw [hm]; rfl)
  next hm => exact hstays (by rw [hm]; rfl)
  next hm =>
    rw [failLoad_units]
    exact (h.free_of_mode hm rfl).own_enter rfl rfl fun _ => rfl
  next hm =>
    split
    · rw [enterBraking_units]
      exact (h.free_of_mode hm rfl).own_enter rfl rfl fun _ => rfl
    · exact hstays (by rw [hm]; rfl)
  next =>
    split
    next =>
      split
      · rw [enterBraking_units]
        exact hends.own_enter rfl rfl fun _ => rfl
      · rw [beginStopping_units]
        exact hends.own_enter rfl rfl fun _ => rfl
    next now hnow =>
      have hstop : s.planner.mode.ofStop = true := by simpa [State.units, hnow] using h.stop.symm
      obtain ⟨hunit, hsafe⟩ := Mode.safe_of_ofStop hstop
      have hfree := h.free_of_mode rfl hunit
      split
      · split
        · rw [enterBraking_units]
          exact hfree.own_enter rfl rfl fun _ => rfl
        · exact hfree.own_enter hunit hstop.symm fun _ => hsafe
      · exact hstays hsafe

/-- The end of a unit's own operation, which no longer runs (R132, R146, R176). -/
theorem restOrStop_own (cause : StopCause) (h : s.units.Free) : (restOrStop cause s).units.Own := by
  rcases restOrStop_cases cause s with ⟨-, e⟩ | ⟨-, e⟩ <;> rw [e]
  · rw [enterHold_units]
    exact h.own_enter rfl rfl fun _ => rfl
  · exact stopDemand_own _ _ h.inside

@[simp] theorem latchPrimary_own (c : Condition) (sev : Severity) (h : s.units.Inside) : (latchPrimary c sev s).units.Own := by
  refine stopDemand_own _ _ ?_
  rw [postNotice_units]
  exact ⟨h.chase, h.survey, h.host, h.byChase, h.bySurvey, h.stop⟩

theorem takeSecondary_own {r : FaultRecord} (c : Condition) (sev : Severity) (h : s.units.Own) (hr : s.fault.record = some r) :
    (takeSecondary r c sev s).units.Own := by
  unfold takeSecondary
  dsimp only
  split <;> split <;> simp [h, h.toInside, hr]

@[simp] theorem takeConditionAt_own (c : Condition) (sev : Severity) (h : s.units.Own) :
    (takeConditionAt c sev s).units.Own := by
  rcases takeConditionAt_cases c sev s with ⟨-, e⟩ | ⟨r, hr, e⟩ <;> rw [e]
  · exact latchPrimary_own c sev h.toInside
  · exact takeSecondary_own c sev h hr

@[simp] theorem takeCondition_own (kind : FaultKind) (reel : Option Reel) (h : s.units.Own) :
    (takeCondition kind reel s).units.Own :=
  takeConditionAt_own _ _ h

@[simp] theorem takePowerFail_own (h : s.units.Own) : (takePowerFail s).units.Own := takeConditionAt_own _ _ h

@[simp] theorem armConditionIf_own (bad : Bool) (r : Reel) (h : s.units.Own) : (armConditionIf bad r s).units.Own := by
  unfold armConditionIf; split <;> simp [h]

@[simp] theorem enableDrives_own (h : s.units.Own) : (enableDrives s).units.Own := by
  unfold enableDrives
  dsimp only
  split
  · simp [h]
  · exact armConditionIf_own _ _ (armConditionIf_own _ _ (by simp [h]))

@[simp] theorem zoneDirectionRule_own (h : s.units.Own) : (zoneDirectionRule s).units.Own := by
  unfold zoneDirectionRule; (repeat' split) <;> simp [h, h.toInside]

end Stops
end Sys2Proof.Machine

namespace Sys2Proof.Machine

/-! ## The Capstan Controller and the Pack Estimator -/

section Blocks

variable {s : State}

@[simp] theorem encoderEdge_units (d : Dir) : (encoderEdge d s).units = s.units := by simp [State.units]

@[simp] theorem capstanStalls_own (h : s.units.Own) : (capstanStalls s).units.Own := by simp [capstanStalls, h]

@[simp] theorem capstanStep_own (h : s.units.Own) : (capstanStep s).units.Own := by
  have hdrive (u : State) : (driveCapstan u).units = u.units := by simp [State.units]
  unfold capstanStep
  dsimp only
  split <;> simp [h, hdrive]

@[simp] theorem referenceReturns_units : (referenceReturns s).units = s.units := by simp [State.units]

@[simp] theorem referenceEdge_units (period : Nat) : (referenceEdge period s).units = s.units := by simp [State.units]

@[simp] theorem referenceLost_units : (referenceLost s).units = s.units := by simp [State.units]

@[simp] theorem answerSetReference_units (source m d : Nat) : (answerSetReference source m d s).state.units = s.units := by
  simp [State.units]

@[simp] theorem answerSetCapstan_units (apply ell w rho : Nat) : (answerSetCapstan apply ell w rho s).state.units = s.units := by
  simp [State.units]

@[simp] theorem answerSetVarispeed_units (vsHost : Int) : (answerSetVarispeed vsHost s).state.units = s.units := by
  simp [State.units]

@[simp] theorem answerSetLockNotice_units (choice : Nat) : (answerSetLockNotice choice s).state.units = s.units := by
  simp [State.units]

/-- A load that completes brings the tape to rest (R89). -/
@[simp] theorem probeCounted_own (h : s.units.Own) : (probeCounted s).units.Own := by
  unfold probeCounted
  split
  next hm =>
    rw [completeLoad_units]
    exact (h.free_of_mode hm.1 rfl).own_enter rfl rfl fun _ => rfl
  next => exact h

@[simp] theorem acceptProbe_own (r : Reel) (m : Nat) (h : s.units.Own) : (acceptProbe r m s).units.Own := by
  have haccept : (acceptRadius r m s).units = s.units := by simp [State.units]
  simp [acceptProbe, haccept, h]

@[simp] theorem acceptWindow_units (r : Reel) (m : Nat) : (acceptWindow r m s).units = s.units := by
  have harea (u : State) : (areaTest u).units = u.units := by simp [State.units]
  have haccept : (acceptRadius r m s).units = s.units := by simp [State.units]
  simp [acceptWindow, harea, haccept]

@[simp] theorem judgeWindow_units (r : Reel) (m p : Nat) : (judgeWindow r m p s).units = s.units := by
  have hpack (u : State) (f : Pack → Pack) : (u.onPack r f).units = u.units := rfl
  unfold judgeWindow; dsimp only; split
  · simp
  · split <;> simp [resyncWindow, hpack]

@[simp] theorem completeWindow_own (r : Reel) (h : s.units.Own) : (completeWindow r s).units.Own := by
  unfold completeWindow
  have hpack (u : State) (f : Pack → Pack) : (u.onPack r f).units = u.units := rfl
  dsimp only
  split <;> simp [h, hpack]

@[simp] theorem reelTachEdge_own (r : Reel) (winding : Bool) (h : s.units.Own) : (reelTachEdge r winding s).units.Own := by
  have hpack (u : State) (f : Pack → Pack) : (u.onPack r f).units = u.units := rfl
  have hedge (u : State) (f : ReelTach → ReelTach) : (u.onReelTach r f).units = u.units := rfl
  unfold reelTachEdge packReelEdge; dsimp only; (repeat' split) <;> simp [h, hpack, hedge]

theorem reclampReel_units (r : Reel) : (reclampReel r s).units = s.units := rfl

theorem storeReel_units (r : Reel) (q : ReelProfile) : (storeReel r q s).units = s.units := by
  unfold storeReel; dsimp only; split <;> split <;> simp [reclampReel_units]

@[simp] theorem answerSetReel_units (side apply hub flange jf f tauLim tauFs : Nat) :
    (answerSetReel side apply hub flange jf f tauLim tauFs s).state.units = s.units := by
  unfold answerSetReel; dsimp only; (repeat' split) <;> simp [storeReel_units, accept, refuse]

@[simp] theorem answerSetTape_units (apply t kj tMin tNom tMax tThr tSpan : Nat) :
    (answerSetTape apply t kj tMin tNom tMax tThr tSpan s).state.units = s.units := by
  unfold answerSetTape storeTape; dsimp only; (repeat' split) <;> simp [accept, refuse]

/-! ## Position, zones and cues -/

@[simp] theorem zoneNotice_units (cause : ZoneCause) (dir : Option Dir) (block : Option (Nat × Dir)) :
    (zoneNotice cause dir block s).units = s.units := (rfl)

@[simp] theorem rezonePosition_units (dir : Option Dir) : (rezonePosition dir s).units = s.units := by
  unfold rezonePosition; dsimp only; split <;> simp

@[simp] theorem rezoneEdit_own (before : ZoneAttrs) (h : s.units.Own) : (rezoneEdit before s).units.Own := by
  refine zoneDirectionRule_own ?_
  (repeat' split) <;> simp [h]

@[simp] theorem markMissed_units (id : Nat) : (markMissed id s).units = s.units := (rfl)

@[simp] theorem reachCue_units (byFix : Bool) (d : Dir) (c : Cue) : (reachCue byFix d c s).units = s.units := by
  unfold reachCue
  dsimp only
  (repeat' split) <;> simp [capWind]

@[simp] theorem reachCues_units (byFix : Bool) (d : Dir) (x0 : Int) : (reachCues byFix d x0 s).units = s.units := by
  rw [reachCues, State.onCues_units]
  exact foldl_keeps State.units _ (fun t c => reachCue_units byFix d c) _ s

/-- A load that fails ends in BRAKED (R89). -/
theorem failLoad_own (cause : ModeCause) (h : s.units.Own) (hm : s.planner.mode = .loading) : (failLoad cause s).units.Own := by
  rw [failLoad_units]
  exact (h.free_of_mode hm rfl).own_enter rfl rfl fun _ => rfl

@[simp] theorem loadDistance_own (h : s.units.Own) : (loadDistance s).units.Own := by
  unfold loadDistance
  split
  next hm => exact failLoad_own _ h hm.1
  next => exact h

/-- A survey that ends by its own doing (R176), from a state in which it may have lost its locate already. -/
theorem surveyOwnEnd_own (outcome : SurveyOutcome) (reason : Option AbortReason) (by_ : EndedBy) (h : s.units.Inside)
    (hs : s.survey.state.runs = true) : (surveyOwnEnd outcome reason by_ s).units.Own := by
  refine restOrStop_own _ ?_
  rw [endSurvey_units s _ _ _ hs]
  exact h.endSurvey hs

@[simp] theorem surveyRange_own (h : s.units.Own) : (surveyRange s).units.Own := by
  unfold surveyRange
  split
  next q hq =>
    split
    next hs => exact surveyOwnEnd_own _ _ _ h.toInside (by simp [hs.1])
    next => exact h
  next => exact h

@[simp] theorem positionMoved_own (byFix : Bool) (d : Dir) (x0 : Int) (h : s.units.Own) :
    (positionMoved byFix d x0 s).units.Own :=
  surveyRange_own (loadDistance_own (zoneDirectionRule_own (by simp [h])))

@[simp] theorem rollerEdge_own (d : Dir) (h : s.units.Own) : (rollerEdge d s).units.Own := by
  have hpack (u : State) : (packRollerEdge d u).units = u.units := rfl
  exact positionMoved_own _ _ _ (by simp [countEdge, hpack, h])

@[simp] theorem conditionIf_own (given : Bool) (kind : FaultKind) (reel : Option Reel) (h : s.units.Own) :
    (conditionIf given kind reel s).units.Own := by
  unfold conditionIf; split <;> simp [h]

@[simp] theorem speedSample_own (h : s.units.Own) : (speedSample s).units.Own :=
  conditionIf_own _ _ _ (conditionIf_own _ _ _ (conditionIf_own _ _ _ (by simp [h])))

@[simp] theorem answerPresetPosition_units (value : Int) : (answerPresetPosition value s).state.units = s.units := by
  unfold answerPresetPosition; (repeat' split) <;> simp [accept, refuse, presetTo]

@[simp] theorem fixTo_own (value : Int) (h : s.units.Own) : (fixTo value s).units.Own := by
  unfold fixTo; dsimp only; split <;> simp [h]

@[simp] theorem answerPositionFix_own (value : Int) (window : Nat) (h : s.units.Own) :
    (answerPositionFix value window s).state.units.Own := by
  unfold answerPositionFix; dsimp only; (repeat' split) <;> simp [accept, h]

@[simp] theorem storeZone_own (index : Nat) (z : ZoneEntry) (h : s.units.Own) : (storeZone index z s).units.Own := by
  unfold storeZone; split <;> simp [h]

@[simp] theorem answerSetZone_own (index enabled : Nat) (base : Int) (k limit scale dirs inhibit : Nat) (h : s.units.Own) :
    (answerSetZone index enabled base k limit scale dirs inhibit s).state.units.Own := by
  unfold answerSetZone; (repeat' split) <;> simp [accept, refuse, h]

@[simp] theorem answerClearZone_own (index : Nat) (h : s.units.Own) : (answerClearZone index s).state.units.Own := by
  unfold answerClearZone; split <;> simp [accept, refuse, h]

@[simp] theorem answerSetBaseZone_own (limit scale dirs inhibit : Nat) (h : s.units.Own) :
    (answerSetBaseZone limit scale dirs inhibit s).state.units.Own := by
  unfold answerSetBaseZone storeBaseZone; split <;> simp [accept, refuse, h]

@[simp] theorem answerAddCue_units (id : Nat) (position : Int) (kind : Nat) (label : List Byte) :
    (answerAddCue id position kind label s).state.units = s.units := by
  unfold answerAddCue; (repeat' split) <;> simp [accept, refuse]

@[simp] theorem deleteCue_units (id : Nat) : (deleteCue id s).units = s.units := (rfl)

@[simp] theorem answerDeleteCue_units (id : Nat) : (answerDeleteCue id s).state.units = s.units := by
  unfold answerDeleteCue; split <;> simp [accept, refuse]

@[simp] theorem answerClearCues_units : (answerClearCues s).state.units = s.units := by
  unfold answerClearCues accept
  exact foldl_keeps State.units (fun t (c : Cue) => deleteCue c.id t) (fun _ c => deleteCue_units c.id) s.cues.list s

/-! ## The Motion Planner -/

@[simp] theorem publishRef_units (v a : Int) : (publishRef v a s).units = s.units := (rfl)
@[simp] theorem holdRef_units : (holdRef s).units = s.units := (rfl)
@[simp] theorem followCapstan_units : (followCapstan s).units = s.units := (rfl)

@[simp] theorem dropMissedCues_units : (dropMissedCues s).units = s.units := by
  unfold dropMissedCues
  split
  · rfl
  · exact foldl_keeps State.units (fun t (c : Cue) => markMissed c.id t) (fun _ (c : Cue) => markMissed_units c.id) _ s

@[simp] theorem runProfile_units : (runProfile s).units = s.units := by
  unfold runProfile; dsimp only; split <;> simp

@[simp] theorem refByPinch_units : (refByPinch s).units = s.units := by
  unfold refByPinch; split <;> simp

@[simp] theorem dropPlayCues_units : (dropPlayCues s).units = s.units :=
  foldl_keeps State.units (fun t (c : Cue) => markMissed c.id t) (fun _ (c : Cue) => markMissed_units c.id) _ s

@[simp] theorem checkPlayStops_own (h : s.units.Own) : (checkPlayStops s).units.Own := by
  unfold checkPlayStops; dsimp only; (repeat' split) <;> simp [h, h.toInside]

/-- A change of mode between modes that no unit owns and no stop runs in, with no fault latched. -/
theorem setMode_own (m : Mode) (sub : Option SubStage) (cause : ModeCause) (h : s.units.Own)
    {m' : Mode} (hm : s.planner.mode = m') (hfrom : m'.ofUnit = false) (hto : m.ofUnit = false) (hstop : m'.ofStop = m.ofStop)
    (hsafe : m'.safeWithFault = true → m.safeWithFault = true) : (setMode m sub cause s).units.Own := by
  subst hm
  rw [setMode_units]
  exact (h.free_of_mode rfl hfrom).own_enter hto (h.stop.trans hstop) fun hf => hsafe (h.safe hf)

@[simp] theorem takeUpStep_own (h : s.units.Own) (hm : s.planner.mode = .loading) : (takeUpStep s).units.Own := by
  unfold takeUpStep startProbe
  dsimp only
  split
  · exact setMode_own _ _ _ (by simp [h]) hm rfl rfl rfl nofun
  · split
    · exact failLoad_own _ h hm
    · simp [h]

@[simp] theorem matchStep_own (h : s.units.Own) : (matchStep s).units.Own := by
  unfold matchStep; (repeat' split) <;> simp [h, h.toInside]

@[simp] theorem rampDownStep_own (h : s.units.Own) (hm : s.planner.mode = .unloading) : (rampDownStep s).units.Own := by
  unfold rampDownStep
  split
  · exact setMode_own _ _ _ (by simp [h]) hm rfl rfl rfl fun _ => rfl
  · exact h

/-- BRAKED is entered with no stop in force (R100). -/
@[simp] theorem brakingStep_own (h : s.units.Own) (hm : s.planner.mode = .braking) : (brakingStep s).units.Own := by
  unfold brakingStep
  split
  · rw [enterBraked, setMode_units]
    exact (h.free_of_mode hm rfl).own_enter rfl rfl fun _ => rfl
  · simp [h]

@[simp] theorem postAutoStop_units : (postAutoStop s).units = s.units := by
  unfold postAutoStop; split <;> simp

@[simp] theorem postZoneBlocked_units : (postZoneBlocked s).units = s.units := by
  unfold postZoneBlocked; split <;> simp

/-- HOLD is entered where no unit owns the mode. -/
theorem enterHold_own {m : Mode} (cause : ModeCause) (h : s.units.Inside) (hm : s.planner.mode = m) (hu : m.ofUnit = false) :
    (enterHold cause s).units.Own := by
  rw [enterHold_units]
  exact (h.free_of_mode hm hu).own_enter rfl rfl fun _ => rfl

@[simp] theorem endStop_own (h : s.units.Own) (hm : s.planner.mode = .stopping) : (endStop s).units.Own := by
  have hhold := enterHold_own ((s.planner.stopCause.map modeCauseOf).getD .request) h.toInside hm rfl
  unfold endStop
  dsimp only
  split <;> simp only [postAutoStop_units, postZoneBlocked_units, hhold]

@[simp] theorem plannerEvents_own (h : s.units.Own) : (plannerEvents s).units.Own := by
  have hmatch : (if matching (checkPlayStops s) then matchStep (checkPlayStops s) else checkPlayStops s).units.Own := by
    split <;> simp [h]
  unfold plannerEvents
  split
  next hm => split <;> simp [h, hm]
  · exact hmatch
  · exact hmatch
  · exact hmatch
  next hm => split <;> simp [h, hm]
  next hm => exact brakingStep_own h hm
  · exact h

@[simp] theorem windEnd_own (h : s.units.Own) : (windEnd s).units.Own := by
  unfold windEnd
  split
  next hm =>
    rw [postAutoStop_units]
    exact enterHold_own _ h.toInside hm.1 rfl
  next => exact h

@[simp] theorem moveRef_own (h : s.units.Own) : (moveRef s).units.Own := by
  have hrun : (runProfile s).planner.mode = s.planner.mode := congrArg Units.mode runProfile_units
  unfold moveRef
  dsimp only
  (repeat' split) <;> simp_all

@[simp] theorem noteCues_units : (noteCues s).units = s.units := by
  unfold noteCues; split <;> simp

@[simp] theorem plannerStep_own (h : s.units.Own) : (plannerStep s).units.Own := by
  rw [plannerStep, noteCues_units]
  exact moveRef_own (plannerEvents_own h)

/-- A transition of the brakes ends, and with it RELEASE or BRAKE_SET (R83, R87, R90). -/
@[simp] theorem brakeComplete_own (h : s.units.Own) : (brakeComplete s).units.Own := by
  unfold brakeComplete startTakeUp
  dsimp only
  split
  · split
    next hm =>
      exact enableDrives_own (setMode_own _ _ _ (by simp [h]) hm.1 rfl rfl rfl nofun)
    next => simp [h]
  · split
    next hm =>
      rw [enterIdle_units]
      exact (h.free_of_mode hm.1 rfl).own_enter rfl rfl fun _ => rfl
    next => simp [h]
  · exact h

end Blocks
end Sys2Proof.Machine

namespace Sys2Proof.Machine

/-! ## The units change what they do -/

namespace Units.Own

variable {u : Units}

/-- A chase goes from one of its states to another, to SEEK alone where a locate runs for it (R146). -/
theorem inChase {st : ChaseState} (h : u.Own) (hc : u.chase ≠ .off) (hst : st ≠ .off) (hown : u.owner = some .chase → st = .seek) :
    Own { u with chase := st } :=
  ⟨⟨fun _ => h.chase hc, h.survey, h.host, hown, h.bySurvey, h.stop⟩, fun _ => hst, h.surveys, h.locates, h.positions, h.safe⟩

/-- The locate of a chase in SEEK begins, or is retargeted (R139). -/
theorem seekLocate (h : u.Own) (hc : u.chase = .seek) : Own { u with owner := some .chase } := by
  have hm : u.mode = .chase := h.chase (by simp [hc])
  exact ⟨⟨h.chase, h.survey, nofun, fun _ => hc, nofun, h.stop⟩, h.chases, h.surveys, fun hl => (by simp [hm] at hl),
    fun hp => by have hs := h.survey (by rw [show u.survey = _ from hp]; rfl); simp [hm] at hs, h.safe⟩

/-- The locate of a chase ends, and the chase goes on (R140). -/
theorem dropChase (h : u.Own) : Own { u with owner := u.owner.filter (· != .chase) } where
  chase := h.chase
  survey := h.survey
  host ho := h.host (by simp_all [Option.filter_eq_some_iff])
  byChase ho := by simp [Option.filter_eq_some_iff] at ho
  bySurvey ho := h.bySurvey (by simp_all [Option.filter_eq_some_iff])
  stop := h.stop
  chases := h.chases
  surveys := h.surveys
  locates hl := by simp [h.locates hl]
  positions hp := by simp [h.positions hp]
  safe := h.safe

/-- The survey's positioning is done and the survey RUNNING (R172). -/
theorem positioned (h : u.Own) (hs : u.survey = .positioning) :
    Own { u with survey := .running, owner := u.owner.filter (· != .survey) } := by
  have ho := h.positions hs
  have hm := h.survey (by simp [hs])
  exact ⟨⟨h.chase, fun _ => hm, by simp [ho], by simp [ho], by simp [ho], h.stop⟩, h.chases, fun _ => rfl,
    fun hl => (by simp [hm] at hl), nofun, h.safe⟩

end Units.Own

/-- A survey that has lost its locate, and is about to end. -/
theorem Units.Inside.dropSurvey {u : Units} (h : u.Inside) : Units.Inside { u with owner := u.owner.filter (· != .survey) } where
  chase := h.chase
  survey := h.survey
  host ho := h.host (by simp_all [Option.filter_eq_some_iff])
  byChase ho := h.byChase (by simp_all [Option.filter_eq_some_iff])
  bySurvey ho := by simp [Option.filter_eq_some_iff] at ho
  stop := h.stop

/-- The host's locate begins where no other unit operates and no fault is latched (R128). -/
theorem Units.own_locate {u : Units} (hc : u.chase = .off) (hs : u.survey.runs = false) (hf : u.latched = false) :
    Units.Own { u.enter .locate none with owner := some .host } :=
  ⟨⟨fun h => absurd hc h, fun h => absurd (hs.symm.trans h) (by decide), fun _ => rfl, nofun, nofun, rfl⟩, nofun, nofun,
    fun _ => rfl, fun h => absurd hs (by rw [show u.survey = _ from h]; decide), fun h => absurd (hf.symm.trans h) (by decide)⟩

/-- A chase begins where no unit operates and no fault is latched (R137). -/
theorem Units.Free.own_chase {u : Units} (h : u.Free) (hf : u.latched = false) :
    Units.Own { u.enter .chase none with chase := .seek } := by
  obtain ⟨hc, hs, ho, -⟩ := h
  exact ⟨⟨fun _ => rfl, fun h => absurd (hs.symm.trans h) (by decide), fun h => absurd (ho.symm.trans h) (by decide),
    fun _ => rfl, fun h => absurd (ho.symm.trans h) (by decide), rfl⟩, fun _ => (by simp), nofun, nofun,
    fun h => absurd hs (by rw [show u.survey = _ from h]; decide), fun h => absurd (hf.symm.trans h) (by decide)⟩

/-- A survey begins where no unit operates and no fault is latched (R170). -/
theorem Units.Free.own_survey {u : Units} (h : u.Free) (hf : u.latched = false) :
    Units.Own { u.enter .survey none with survey := .positioning, owner := some .survey } :=
  ⟨⟨fun hc => absurd h.chase hc, fun _ => rfl, nofun, nofun, fun _ => rfl, rfl⟩, nofun, fun _ => rfl, nofun, fun _ => rfl,
    fun h => absurd (hf.symm.trans h) (by decide)⟩

section Units

variable {s : State}

/-- The pinch closes, and makes ENGAGING PLAY, and the RUNUP of a chase MATCH (R94, R142). -/
@[simp] theorem pinchComplete_own (h : s.units.Own) : (pinchComplete s).units.Own := by
  unfold pinchComplete
  dsimp only
  split
  · split
    next hm => exact setMode_own _ _ _ (by simp [h]) hm rfl rfl rfl nofun
    next =>
      split
      next hc =>
        have hrunup : s.units.chase = .runup := hc.2
        have hmatch := h.inChase (st := .matching) (by simp [hrunup]) (by simp) fun ho => by simp [h.byChase ho] at hrunup
        simpa [enterMatch] using hmatch
      next => simp [h]
  · simp [h]
  · exact h

/-! ### The requests to the planner -/

/-- Check 2 of R86 passed: no fault is latched. -/
theorem not_latched_of_faultHolds (h : ¬faultHolds s = true) : s.units.latched = false := by
  simp only [faultHolds, Bool.or_eq_true, not_or, FaultUnit.latched] at h
  simpa [State.units] using h.1

theorem not_latched_of_latched (h : ¬s.fault.latched = true) : s.units.latched = false := by
  simpa [State.units, FaultUnit.latched] using h

/-- Where a motion runs no fault is latched (R149). -/
theorem Units.Own.not_latched {u : Units} {m : Mode} (h : u.Own) (hm : u.mode = m) (hs : m.safeWithFault = false) : u.latched = false := by
  subst hm
  by_contra hl
  exact absurd ((h.safe (by simpa using hl)).symm.trans hs) (by decide)

/-- Outside STOPPING and BRAKING no stop is in force (R98). -/
theorem Units.Own.no_stop {u : Units} {m : Mode} (h : u.Own) (hm : u.mode = m) (hs : m.ofStop = false) : u.stop = none := by
  subst hm
  exact Option.isSome_eq_false_iff.1 (h.stop.trans hs) |> Option.isNone_iff_eq_none.1

theorem startLoad_units : (startLoad s).units = s.units.enter .loading s.units.stop := by simp [startLoad]

@[simp] theorem answerLoad_own (h : s.units.Own) : (answerLoad s).state.units.Own := by
  unfold answerLoad
  split
  · exact h
  next hm =>
    split
    · exact h
    next hf =>
      (repeat' split) <;> try exact h
      have hidle : s.units.mode = .idle := not_not.1 hm
      rw [accept_units, startLoad_units]
      exact (h.free_of_mode hidle rfl).own_enter rfl (by rw [h.no_stop hidle rfl]; rfl)
        fun hl => absurd (hl.symm.trans (not_latched_of_latched hf)) (by decide)

@[simp] theorem answerUnload_own (h : s.units.Own) : (answerUnload s).state.units.Own := by
  unfold answerUnload startUnload
  split
  next hm => exact setMode_own _ _ _ (by simp [h]) hm rfl rfl rfl fun _ => rfl
  next hm =>
    rw [accept_units, enterIdle_units]
    exact (h.free_of_mode hm rfl).own_enter rfl rfl fun _ => rfl
  next => exact h

theorem startWind_units (goal : Int) : (startWind goal s).units = (endUnit .request s).units.enter .wind none := by
  simp [startWind, Units.enter]

@[simp] theorem answerWind_own (speed : Int) (h : s.units.Own) : (answerWind speed s).state.units.Own := by
  obtain ⟨hfree, -, -, hlatched⟩ := endUnit_units .request h.toInside
  unfold answerWind
  dsimp only
  (repeat' split) <;> try exact h
  next hf _ =>
    rw [accept_units, startWind_units]
    exact hfree.own_enter rfl rfl fun hl => absurd (hl.symm.trans (hlatched.trans (not_latched_of_faultHolds hf))) (by decide)

/-- ENGAGING or PLAY is entered with no fault latched and no unit operating (R93). -/
theorem enterEngaging_own (cause : ModeCause) (h : s.units.Free) (hf : s.units.latched = false) : (enterEngaging cause s).units.Own := by
  rw [enterEngaging_units]
  split <;> exact h.own_enter rfl rfl fun hl => absurd (hl.symm.trans hf) (by decide)

@[simp] theorem answerPlay_own (h : s.units.Own) : (answerPlay s).state.units.Own := by
  obtain ⟨hfree, -, -, hlatched⟩ := endUnit_units .request h.toInside
  unfold answerPlay
  (repeat' split) <;> try exact h
  next hf _ => exact enterEngaging_own _ hfree (hlatched.trans (not_latched_of_faultHolds hf))

@[simp] theorem answerStop_own (kind : Nat) (h : s.units.Own) : (answerStop kind s).state.units.Own := by
  unfold answerStop
  split
  · exact h
  · rw [accept_units]
    split <;> simp [h, h.toInside]

@[simp] theorem answerSetLimits_units (apply vMax aAcc aDec guard : Nat) :
    (answerSetLimits apply vMax aAcc aDec guard s).state.units = s.units := by
  unfold answerSetLimits; split <;> simp

/-! ### Locate -/

@[simp] theorem publishLocate_units (l : LocateRec) : (publishLocate l s).units = { s.units with owner := some l.owner } := (rfl)

@[simp] theorem beginLocate_units (owner : LocateOwner) (target : Int) (cueId : Option Nat) (thenPlay : Bool) (preroll : Nat)
    (aim : Int) : (beginLocate owner target cueId thenPlay preroll aim s).units = { s.units with owner := some owner } := (rfl)

/-- A locate that goes on keeps its owner. -/
theorem owner_of_locate {l : LocateRec} (hl : s.locate = some l) : ({ s.units with owner := some l.owner } : Units) = s.units := by
  simp [State.units, hl]

theorem reapproach_units {l : LocateRec} (hl : s.locate = some l) : (reapproach l s).state.units = s.units := by
  unfold reapproach; dsimp only; (repeat' split) <;> simp [owner_of_locate hl]

/-- A unit step of a locate moves neither a mode nor an owner (R130). -/
theorem locateStep_units {l : LocateRec} (hl : s.locate = some l) : (locateStep l s).state.units = s.units := by
  have hreapproach (n : Nat) : (reapproach { l with settleRun := n } s).state.units = s.units := by
    unfold reapproach; dsimp only; (repeat' split) <;> simp [owner_of_locate hl]
  unfold locateStep creepStep settleStep
  dsimp only
  (repeat' split) <;> simp [reapproach_units hl, hreapproach, owner_of_locate hl]

/-- The host's locate ends in HOLD, in ENGAGING, or by a stop (R132 to R134, R136). -/
theorem hostLocateEnds_own (outcome : LocateOutcome) (h : s.units.Own) (ho : s.units.owner = some .host) :
    (hostLocateEnds outcome s).units.Own := by
  have hm := h.host ho
  have hfree (out : LocateOutcome) (play : Bool) : (finishLocate out play s).units.Free := by
    rw [finishLocate_units]
    exact h.endLocate hm
  unfold hostLocateEnds
  split
  · split
    · refine enterEngaging_own _ (hfree _ _) ?_
      rw [finishLocate_units]
      exact h.not_latched hm rfl
    · rw [enterHold_units]
      exact (hfree _ _).own_enter rfl rfl fun _ => rfl
  · exact restOrStop_own _ (hfree _ _)

/-- The host's locate begins from a mode that takes LOCATE (R128, R129). -/
theorem startLocate_own (q : LocateParams) (target : Int) (cueId : Option Nat) (thenPlay : Bool) (preroll : Nat) (aim : Int)
    (h : s.units.Own) (hm : s.planner.mode.takesLocate = true) (hf : s.units.latched = false) :
    (startLocate q target cueId thenPlay preroll aim s).units.Own := by
  have hmode : s.units.mode.takesLocate = true := hm
  have hstop : s.units.stop = none := h.no_stop rfl (by cases hu : s.units.mode <;> simp_all [Mode.takesLocate])
  have hsurvey : s.units.survey.runs = false := by
    by_contra hs
    simp [h.survey (by simpa using hs), Mode.takesLocate] at hmode
  have hbegin (t : State) (hc : t.units.chase = .off) (hs : t.units.survey.runs = false) (hl : t.units.latched = false)
      (hst : t.units.stop = none) :
      (beginLocate .host target cueId thenPlay preroll aim (setMode .locate none .request
        (((openPinch (startMotion t)).onPlanner fun p => { p with matchRun := 0, matchTimer := none }).onParams fun _ => q))).units.Own := by
    simpa [Units.enter, hst] using Units.own_locate hc hs hl
  unfold startLocate
  dsimp only
  split
  next hchase =>
    have hend := endChase_units s .request (h.chases hchase)
    exact hbegin _ (by rw [hend]) (by rw [hend]; exact hsurvey) (by rw [hend]; exact hf) (by rw [hend]; exact hstop)
  next hchase =>
    have hoff : s.units.chase = .off := by
      by_contra hc
      exact hchase (h.chase hc)
    exact hbegin _ hoff hsurvey hf hstop

@[simp] theorem answerLocate_own (targetKind : Nat) (position : Int)
    (cueId thenPlay preroll approachDist approachSpeed tolerance : Nat) (h : s.units.Own) :
    (answerLocate targetKind position cueId thenPlay preroll approachDist approachSpeed tolerance s).state.units.Own := by
  unfold answerLocate
  split
  · exact h
  next hm =>
    split
    · exact h
    next hf =>
      dsimp only
      (repeat' split) <;> try exact h
      all_goals exact startLocate_own _ _ _ _ _ _ h (by simpa using hm) (not_latched_of_latched hf)

/-! ### The survey -/

@[simp] theorem monitorSample_units (v : SampleView) : (monitorSample v s).units = s.units := by simp [monitorSample]

@[simp] theorem answerSurveyStart_own (start finish : Int) (speed tension : Nat) (step : Int)
    (stepCount dwell limitSource limitValue slackThr excThr fastFlag thres shift : Nat) (h : s.units.Own) :
    (answerSurveyStart start finish speed tension step stepCount dwell limitSource limitValue slackThr excThr fastFlag
      thres shift s).state.units.Own := by
  unfold answerSurveyStart
  dsimp only
  split
  · exact h
  next hm =>
    split
    · exact h
    next hf =>
      (repeat' split) <;> try exact h
      have hhold : s.units.mode = .hold := not_not.1 hm
      have hstop : s.units.stop = none := h.no_stop hhold rfl
      have htaken (f : Survey → Survey) (hf : ∀ x, (f x).state = .positioning) :
          (s.onSurvey f).units = { s.units with survey := .positioning } := by simp [State.units, hf]
      simpa [startSurvey, Units.enter, htaken, hstop] using (h.free_of_mode hhold rfl).own_survey (not_latched_of_latched hf)

/-- The survey's locate has ended: the survey runs, or ends by its own (R172). -/
theorem surveyPositioned_own (outcome : LocateOutcome) (h : s.units.Own) (ho : s.units.owner = some .survey) :
    (surveyPositioned outcome s).units.Own := by
  have hs : s.units.survey = .positioning := h.bySurvey ho
  have hruns : (dropLocateOf .survey s).survey.state.runs = true := by
    simp [show s.survey.state = .positioning from hs]
  have hinside : (dropLocateOf .survey s).units.Inside := by
    rw [dropLocateOf_units]
    exact h.dropSurvey
  unfold surveyPositioned
  dsimp only
  split
  · change Units.Own { (dropLocateOf .survey s).units with survey := .running }
    rw [dropLocateOf_units]
    exact h.positioned hs
  · exact surveyOwnEnd_own _ _ _ hinside hruns
  · exact surveyOwnEnd_own _ _ _ hinside hruns

@[simp] theorem beginStep_units (q : SurveyRequest) (k : Nat) : (beginStep q k s).units = s.units := by simp [beginStep]

theorem endStep_own (q : SurveyRequest) (e : StepEntry) (by_ : EndedBy) (h : s.units.Own) (hs : s.survey.state = .running) :
    (endStep q e by_ s).units.Own := by
  unfold endStep
  dsimp only
  split
  · exact surveyOwnEnd_own _ _ _ (by simp [h.toInside]) (by simp [hs])
  · split
    · exact surveyOwnEnd_own _ _ _ (by simp [h.toInside]) (by simp [hs])
    · simp [h]

theorem countStep_own (q : SurveyRequest) (h : s.units.Own) (hs : s.survey.state = .running) : (countStep q s).units.Own := by
  unfold countStep
  dsimp only
  split
  · exact h
  · split
    · exact endStep_own _ _ _ (by simp [h]) (by simp [hs])
    · simp [h]

@[simp] theorem settleSample_units : (settleSample s).units = s.units :=
  State.onSurvey_units _ fun x => by split <;> rfl

@[simp] theorem surveySample_own (h : s.units.Own) : (surveySample s).units.Own := by
  unfold surveySample
  split
  next hs _ =>
    split
    · exact surveyOwnEnd_own _ _ _ h.toInside (by simp [hs])
    · split
      · unfold rampSample; split <;> simp [h]
      · simp [h]
      · exact countStep_own _ h hs
      · exact h
  · exact h

@[simp] theorem answerSurveyAbort_own (h : s.units.Own) : (answerSurveyAbort s).state.units.Own := by
  unfold answerSurveyAbort
  split
  next hs =>
    rw [accept_units]
    refine restOrStop_own _ ?_
    rw [endSurvey_units s _ _ _ hs]
    exact h.endSurvey hs
  · exact h

/-! ### The chase -/

/-- A chase that ends by its own leaves no unit operating (R146). -/
theorem chaseOwnEnd_own (cause : ChaseCause) (h : s.units.Inside) (hc : s.chase.state ≠ .off) :
    (chaseOwnEnd cause s).units.Own := by
  refine restOrStop_own _ ?_
  rw [endChase_units s _ hc]
  exact h.endChase hc

/-- A plan begins or retargets the locate of SEEK, or ends the chase (R139). -/
theorem makePlan_own (m : MasterRec) (h : s.units.Own) (hc : s.chase.state = .seek) : (makePlan m s).units.Own := by
  unfold makePlan
  dsimp only
  split
  · exact chaseOwnEnd_own _ (by simp [h.toInside]) (by simp [hc])
  · split
    · exact chaseOwnEnd_own _ (by simp [h.toInside]) (by simp [hc])
    · simpa using h.seekLocate hc

/-- The chase halts in SEEK (R144). -/
theorem haltChase_own (cause : ChaseCause) (h : s.units.Own) (hc : s.chase.state ≠ .off) : (haltChase cause s).units.Own := by
  simpa [haltChase] using h.inChase (st := .seek) hc (by simp) fun _ => rfl

/-- The chase acts on the outcome of its locate (R140). -/
theorem chaseLocateEnds_own (outcome : LocateOutcome) (h : s.units.Own) (ho : s.units.owner = some .chase) :
    (chaseLocateEnds outcome s).units.Own := by
  have hc : s.chase.state = .seek := h.byChase ho
  have hdrop : (dropLocateOf .chase s).units.Own := by
    rw [dropLocateOf_units]
    exact h.dropChase
  have hoff : (dropLocateOf .chase s).chase.state ≠ .off := by simp [hc]
  have hpark : (park (dropLocateOf .chase s)).units.Own := by
    have howner : (dropLocateOf .chase s).units.owner ≠ some .chase := by
      simp [Option.filter_eq_some_iff]
    simpa [park] using hdrop.inChase (st := .parked) hoff (by simp) fun hn => absurd hn howner
  have hdouble (m : MasterRec) : (doubleLead m (dropLocateOf .chase s)).units.Own := by
    unfold doubleLead
    split
    · refine makePlan_own _ ?_ rfl
      simpa using hdrop.inChase (st := .seek) hoff (by simp) fun _ => rfl
    · exact chaseOwnEnd_own _ hdrop.toInside hoff
  unfold chaseLocateEnds
  dsimp only
  split
  · split
    · exact hdouble _
    · exact hpark
  · exact hpark
  · exact chaseOwnEnd_own _ hdrop.toInside hoff
  · exact chaseOwnEnd_own _ hdrop.toInside hoff

/-- Outside SEEK a chase goes from state to state without a locate. -/
theorem setChaseState_own {st st' : ChaseState} (cause : ChaseCause) (h : s.units.Own) (hc : s.chase.state = st') (hoff : st' ≠ .off)
    (hseek : st' ≠ .seek) (hst : st ≠ .off) : (setChaseState st cause s).units.Own := by
  subst hc
  rw [setChaseState_units]
  exact h.inChase hoff hst fun ho => absurd (h.byChase ho) hseek

theorem freewheel_own {st : ChaseState} (h : s.units.Own) (hc : s.chase.state = st) (hm : st.matched = true) :
    (freewheel s).units.Own :=
  setChaseState_own _ (by simp [h]) hc (by rintro rfl; cases hm) (by rintro rfl; cases hm) (by simp)

theorem silenceStep_own (h : s.units.Own) (hc : s.chase.state ≠ .off) : (silenceStep s).units.Own := by
  unfold silenceStep
  dsimp only
  split
  · split
    · exact chaseOwnEnd_own _ (by simp [h.toInside]) (by simpa using hc)
    · split
      next hm => exact freewheel_own (by simp [h]) rfl (by simpa using hm.2)
      next => simp [h]
  · simp [h]

@[simp] theorem stepChase_own (h : s.units.Own) : (stepChase s).units.Own := by
  unfold stepChase
  split
  · exact h
  next hc =>
    unfold seekStep
    split
    · split
      · exact makePlan_own _ h hc
      · simp [h]
    · simp [h]
  next hc =>
    unfold parkedStep
    split
    · split
      · exact setChaseState_own _ (by simp [h]) hc (by simp) (by simp) (by simp)
      · exact h
    · exact h
  all_goals simp [followStep, h]

theorem stepLocate_own {l : LocateRec} (h : s.units.Own) (hl : s.locate = some l) : (stepLocate l s).units.Own := by
  have hstep := locateStep_units hl
  have howner : s.units.owner = some l.owner := by simp [State.units, hl]
  unfold stepLocate
  split
  next s1 e =>
    rw [e, LocateResult.state_goesOn] at hstep
    rwa [hstep]
  next outcome s1 e =>
    rw [e, LocateResult.state_ends] at hstep
    have h1 : s1.units.Own := by rwa [hstep]
    unfold locateEnds
    split
    next ho => exact hostLocateEnds_own _ h1 (by rw [hstep, howner, ho])
    next ho => exact chaseLocateEnds_own _ h1 (by rw [hstep, howner, ho])
    next ho => exact surveyPositioned_own _ h1 (by rw [hstep, howner, ho])

@[simp] theorem unitStep_own (h : s.units.Own) : (unitStep s).units.Own := by
  have hsilence : (if s.chase.state = .off then s else silenceStep s).units.Own := by
    split
    · exact h
    next hc => exact silenceStep_own h hc
  unfold unitStep
  dsimp only
  split
  next hl => exact stepLocate_own hsilence hl
  next => exact stepChase_own hsilence

@[simp] theorem answerChaseStart_own (offset : Int) (window lead paramFlag gain reseek freewheel : Nat)
    (h : s.units.Own) : (answerChaseStart offset window lead paramFlag gain reseek freewheel s).state.units.Own := by
  unfold answerChaseStart
  split
  · exact h
  next hm =>
    split
    · exact h
    next hf =>
      dsimp only
      (repeat' split) <;> try exact h
      have hhold : s.units.mode = .hold := not_not.1 fun hn => hm (.inl hn)
      have hstop : s.units.stop = none := h.no_stop hhold rfl
      simpa [startChase, Units.enter, hstop] using (h.free_of_mode hhold rfl).own_chase (not_latched_of_latched hf)

@[simp] theorem answerChaseStop_own (h : s.units.Own) : (answerChaseStop s).state.units.Own := by
  unfold answerChaseStop
  rw [accept_units]
  split <;> simp [h, h.toInside]

/-! A record of the master (R138 to R144). -/

theorem seekRecord_own (m : MasterRec) (h : s.units.Own) (hc : s.chase.state = .seek) : (seekRecord m s).units.Own := by
  unfold seekRecord
  (repeat' split) <;> simp [h, hc, makePlan_own]

theorem reseekFrom_own (cause : ChaseCause) (m : MasterRec) (h : s.units.Own) (hc : s.chase.state ≠ .off) :
    (reseekFrom cause m s).units.Own := by
  refine makePlan_own m ?_ rfl
  rw [setChaseState_units]
  exact h.inChase hc (by simp) fun _ => rfl

theorem parkedRecord_own (m : MasterRec) (h : s.units.Own) (hc : s.chase.state ≠ .off) : (parkedRecord m s).units.Own := by
  unfold parkedRecord
  (repeat' split) <;> simp [h, hc, reseekFrom_own]

theorem lockedRecord_own {st : ChaseState} (inside : Bool) (h : s.units.Own) (hc : s.chase.state = st) (hoff : st ≠ .off)
    (hseek : st ≠ .seek) : (lockedRecord inside s).units.Own := by
  unfold lockedRecord
  generalize (if inside then 0 else s.chase.outRun + 1) = run
  dsimp only
  split
  · rw [monitorEvent_units]
    exact setChaseState_own _ (by simp [h]) hc hoff hseek (by simp)
  · simp [h]

theorem matchRecord_own {st : ChaseState} (inside : Bool) (h : s.units.Own) (hc : s.chase.state = st) (hoff : st ≠ .off)
    (hseek : st ≠ .seek) : (matchRecord inside s).units.Own := by
  unfold matchRecord
  generalize (if inside then s.chase.inRun + 1 else 0) = run
  dsimp only
  split
  · exact setChaseState_own _ (by simp [h]) hc hoff hseek (by simp)
  · simp [h]

theorem trimRecord_own {st : ChaseState} (e : Int) (h : s.units.Own) (hc : s.chase.state = st) (hoff : st ≠ .off)
    (hseek : st ≠ .seek) : (trimRecord e s).units.Own := by
  unfold trimRecord
  dsimp only
  split
  · exact lockedRecord_own _ (by simp [h]) hc hoff hseek
  · exact matchRecord_own _ (by simp [h]) hc hoff hseek

theorem followRecord_own {st : ChaseState} (m : MasterRec) (e : Int) (h : s.units.Own) (hc : s.chase.state = st) (hoff : st ≠ .off)
    (hseek : st ≠ .seek) : (followRecord m e s).units.Own := by
  unfold followRecord
  split
  · exact haltChase_own _ h (hc ▸ hoff)
  · split
    · exact haltChase_own _ h (hc ▸ hoff)
    · split
      · exact h
      · exact trimRecord_own e h hc hoff hseek

@[simp] theorem takeMaster_own (position speed : Int) (h : s.units.Own) : (takeMaster position speed s).units.Own := by
  unfold takeMaster
  dsimp only
  split
  next => simp [h]
  next hc => exact seekRecord_own _ (by simp [h]) hc
  next hc => exact parkedRecord_own _ (by simp [h]) (by simp [hc])
  next hc => exact followRecord_own _ _ (by simp [h]) hc nofun nofun
  next hc => exact followRecord_own _ _ (by simp [h]) hc nofun nofun
  next hc => exact followRecord_own _ _ (by simp [h]) hc nofun nofun
  next hc => exact followRecord_own (st := .matching) _ _ (setChaseState_own _ (by simp [h]) hc nofun nofun nofun) rfl nofun nofun

@[simp] theorem answerMasterPosition_own (position speed : Int) (h : s.units.Own) :
    (answerMasterPosition position speed s).state.units.Own := by
  unfold answerMasterPosition; dsimp only; (repeat' split) <;> simp [h]

end Units
end Sys2Proof.Machine

namespace Sys2Proof.Machine

/-! ## The remaining blocks -/

section Remaining

variable {s : State}

/-! ### The Sense Scanner -/

@[simp] theorem armMeasured_own (r : Reel) (c : Nat) (h : s.units.Own) : (armMeasured r c s).units.Own := by
  unfold armMeasured armEnded; split <;> simp [h]

@[simp] theorem armStalled_own (r : Reel) (h : s.units.Own) : (armStalled r s).units.Own := by
  unfold armStalled armEnded; split <;> simp [h]

@[simp] theorem tapeEnd_own (h : s.units.Own) : (tapeEnd s).units.Own := by
  unfold tapeEnd
  split
  · exact stopDemand_own _ _ (by simp [h.toInside])
  · exact h

@[simp] theorem handAbsent_own (i : PresenceId) (h : s.units.Own) : (handAbsent i s).units.Own := by
  unfold handAbsent; (repeat' split) <;> simp [h]

@[simp] theorem clearBlocks_units : (clearBlocks s).units = s.units := (rfl)

@[simp] theorem presenceChanged_own (i : PresenceId) (old : Presence) (h : s.units.Own) : (presenceChanged i old s).units.Own := by
  unfold presenceChanged; dsimp only; (repeat' split) <;> simp [h]

@[simp] theorem presenceMeasured_own (c : Nat) (h : s.units.Own) : (presenceMeasured c s).units.Own := by
  unfold presenceMeasured; split <;> simp [h]

@[simp] theorem presenceStalled_units : (presenceStalled s).units = s.units := by
  unfold presenceStalled; split <;> simp

@[simp] theorem answerSetSense_own (channel apply range cMin cMax tOn tOff suppress : Nat) (h : s.units.Own) :
    (answerSetSense channel apply range cMin cMax tOn tOff suppress s).state.units.Own := by
  unfold answerSetSense programArm programPresence; dsimp only; (repeat' split) <;> simp [h]

@[simp] theorem answerSetArmCal_units (channel cCentre cFull : Nat) :
    (answerSetArmCal channel cCentre cFull s).state.units = s.units := by
  unfold answerSetArmCal; (repeat' split) <;> simp

/-! ### The Tension Servo -/

@[simp] theorem sampleServo_units : (sampleServo s).units = s.units := (rfl)

@[simp] theorem latchTension_units : (latchTension s).units = s.units := (rfl)

@[simp] theorem reelConditions_own (r : Reel) (x : ReelServo) (h : s.units.Own) : (reelConditions r x s).units.Own :=
  conditionIf_own _ _ _ (conditionIf_own _ _ _ (conditionIf_own _ _ _ h))

@[simp] theorem giveConditions_own (h : s.units.Own) : (giveConditions s).units.Own :=
  reelConditions_own _ _ (reelConditions_own _ _ h)

@[simp] theorem servoSample_own (h : s.units.Own) : (servoSample s).units.Own := by
  unfold servoSample
  dsimp only
  split
  · have hcond : (giveConditions (latchTension (sampleServo s))).units.Own := giveConditions_own (by simp [h])
    exact surveySample_own (by simp [hcond])
  · exact h

@[simp] theorem driveReduced_units : (driveReduced s).units = s.units := by
  have hdrive : (setDriveState true s).units = s.units := rfl
  unfold driveReduced; split <;> simp [reclampReel_units, hdrive]

/-- An escalation leaves the fault latched (R156). -/
@[simp] theorem escalatePowerFail_own (h : s.units.Own) : (escalatePowerFail s).units.Own := by
  unfold escalatePowerFail
  split
  next r hr =>
    dsimp only
    split
    · exact stopDemand_own _ _ (by simp [h.toInside, hr])
    · exact h
  · exact h

@[simp] theorem recoveryExpires_units : (recoveryExpires s).units = s.units := by
  have hdrive : (setDriveState false s).units = s.units := rfl
  unfold recoveryExpires; split <;> simp [hdrive]

@[simp] theorem answerSetTension_units (tension : Nat) : (answerSetTension tension s).state.units = s.units := by
  unfold answerSetTension storeNominal; dsimp only; split <;> simp

@[simp] theorem answerSetGains_units (apply kpS kiS iMaxS kpT kiT iMaxT kv : Nat) :
    (answerSetGains apply kpS kiS iMaxS kpT kiT iMaxT kv s).state.units = s.units := by
  unfold answerSetGains; split <;> simp

@[simp] theorem answerSetSlew_units (slew : Nat) : (answerSetSlew slew s).state.units = s.units := (rfl)

/-! ### The Fault Unit -/

/-- A fault is cleared, or one that stands asserted taken at once (R153). -/
@[simp] theorem clearFault_own (h : s.units.Own) : (clearFault s).units.Own := by
  have hclear : (s.onFault fun f => { f with record := none, powerFailTaken := false }).units.Own :=
    ⟨⟨h.chase, h.survey, h.host, h.byChase, h.bySurvey, h.stop⟩, h.chases, h.surveys, h.locates, h.positions, nofun⟩
  unfold clearFault
  dsimp only
  split
  · exact takePowerFail_own hclear
  · exact hclear

@[simp] theorem answerClearFault_own (h : s.units.Own) : (answerClearFault s).state.units.Own := by
  unfold answerClearFault; dsimp only; (repeat' split) <;> simp [h]

@[simp] theorem restartLinkTimer_units : (restartLinkTimer s).units = s.units := by
  unfold restartLinkTimer; split <;> simp

@[simp] theorem answerSetLinkTimeout_units (timeout : Nat) : (answerSetLinkTimeout timeout s).state.units = s.units := by
  simp [answerSetLinkTimeout]

@[simp] theorem linkExpires_own (h : s.units.Own) : (linkExpires s).units.Own := by
  unfold linkExpires; split <;> simp [h]

/-! ### The requests that no unit takes part in -/

@[simp] theorem answerGetStatus_units : (answerGetStatus s).state.units = s.units := (rfl)

@[simp] theorem telemetryExpires_units : (telemetryExpires s).units = s.units := by simp [State.units]

@[simp] theorem answerReset_units (retain : Nat) : (answerReset retain s).state.units = s.units := by simp [State.units]

@[simp] theorem answerSetNoticeLevel_units (kind level : Nat) : (answerSetNoticeLevel kind level s).state.units = s.units := by
  simp [State.units]

@[simp] theorem answerSetTelemetry_units (period : Nat) : (answerSetTelemetry period s).state.units = s.units := (rfl)

@[simp] theorem answerGetFault_units : (answerGetFault s).state.units = s.units := (rfl)

@[simp] theorem answerGetZones_units : (answerGetZones s).state.units = s.units := (rfl)

@[simp] theorem answerGetCues_units (start count : Nat) : (answerGetCues start count s).state.units = s.units := by
  simp [State.units]

@[simp] theorem answerSetCounter_units (n apply event qualifier edge invert threshold ovfNotice enable : Nat) :
    (answerSetCounter n apply event qualifier edge invert threshold ovfNotice enable s).state.units = s.units := by
  simp [State.units]

@[simp] theorem answerReadCounters_units (clear : Nat) : (answerReadCounters clear s).state.units = s.units := by
  simp [State.units]

@[simp] theorem answerFreeze_units : (answerFreeze s).state.units = s.units := (rfl)

@[simp] theorem answerUnfreeze_units : (answerUnfreeze s).state.units = s.units := by simp [State.units]

@[simp] theorem answerResetCounters_units : (answerResetCounters s).state.units = s.units := by simp [State.units]

@[simp] theorem answerGetSurvey_units (start count : Nat) : (answerGetSurvey start count s).state.units = s.units := by
  simp [State.units]

/-- Every request keeps the units in their modes, in the block that answers it. -/
@[simp] theorem handleRequest_own (c : Instr) (h : s.units.Own) : (handleRequest c s).state.units.Own := by
  unfold handleRequest
  split <;> simp [h]

/-! ### The message link -/

@[simp] theorem deliver_units (kind tag : Byte) (a : Answer) : (deliver kind tag a).units = a.state.units := (rfl)

@[simp] theorem offerFrame_units (f : Frame) : (offerFrame f s).units = s.units := by
  unfold offerFrame; (repeat' split) <;> simp

@[simp] theorem discardFrame_units : (discardFrame s).units = s.units := by simp [discardFrame]

@[simp] theorem dispatchHead_own (h : s.units.Own) : (dispatchHead s).units.Own := by
  unfold dispatchHead; (repeat' split) <;> simp [h]

@[simp] theorem frameArrives_own (f : Frame) (h : s.units.Own) : (frameArrives f s).units.Own := by simp [frameArrives, h]

@[simp] theorem requestArrives_own (c : Instr) (h : s.units.Own) : (requestArrives c s).units.Own := by
  unfold requestArrives; (repeat' split) <;> simp [h]

@[simp] theorem byteInFrame_own (l : List Byte) (h : s.units.Own) : (byteInFrame l s).units.Own := by
  unfold byteInFrame; dsimp only; (repeat' split) <;> simp [h]

@[simp] theorem byteArrives_own (b : Byte) (framingError : Bool) (h : s.units.Own) : (byteArrives b framingError s).units.Own := by
  unfold byteArrives; (repeat' split) <;> simp [h]

@[simp] theorem frameFinished_own (h : s.units.Own) : (frameFinished s).units.Own := by
  unfold frameFinished; split <;> simp [h]

/-! ### Resets -/

/-- The units after any reset: none operates, and no fault is latched. -/
def Units.resting : Units :=
  { mode := .idle, stop := none, chase := .off, survey := .none, owner := none, latched := false }

theorem Units.resting_own : Units.resting.Own :=
  ⟨⟨absurd rfl, nofun, nofun, nofun, nofun, rfl⟩, nofun, nofun, nofun, nofun, nofun⟩

@[simp] theorem enterReset_own (cause : ResetCause) : (enterReset cause s).units.Own := Units.resting_own

@[simp] theorem frameSent_own (h : s.units.Own) : (frameSent s).units.Own := by
  unfold frameSent; split <;> simp [h]

theorem resetBlocks_units (cause : ResetCause) (s : State) : (resetBlocks cause s).units = .resting := by
  unfold resetBlocks; split <;> rfl

theorem announceReset_own (cause : ResetCause) (h : s.units.Own) : (announceReset cause s).units.Own := by
  unfold announceReset; dsimp only; (repeat' split) <;> simp [h]

theorem endReset_own (cause : ResetCause) (s : State) : (endReset cause s).units.Own := by
  refine announceReset_own cause ?_
  have hsettle (u : State) : (settleReset u).units = u.units := rfl
  have hrest : (resetBlocks cause s).units.Own := resetBlocks_units cause s ▸ Units.resting_own
  rwa [hsettle]

/-! ### The millisecond of an empty queue -/

@[simp] theorem tickRecovery_units : (tickRecovery s).units = s.units := by
  unfold tickRecovery; (repeat' split) <;> simp

@[simp] theorem tickTelemetry_units : (tickTelemetry s).units = s.units := by
  unfold tickTelemetry; (repeat' split) <;> simp

@[simp] theorem tickLink_own (h : s.units.Own) : (tickLink s).units.Own := by
  unfold tickLink; (repeat' split) <;> simp [h]

theorem tick_own (h : s.units.Own) : (tick s).units.Own := by
  unfold tick; split <;> simp [h]

end Remaining

/-! ## Every step -/

section Steps

variable {s t : State}

/-- What a row does where its condition holds, and nothing elsewhere (log entry 3). -/
@[simp] theorem ite_own {u : State} {c : Prop} [Decidable c] (hu : u.units.Own) (hs : s.units.Own) :
    (if c then u else s).units.Own := by
  split <;> assumption

/-- A row that only a running part takes. -/
theorem whileRunning_own {f : State → State} (e : whileRunning f s = .next t) (h : s.units.Own) (hf : (f s).units.Own) :
    t.units.Own := by
  obtain rfl : (if s.held.isSome then s else f s) = t := by simpa [whileRunning] using e
  exact ite_own h hf

/-- A row with one next state. -/
theorem next_own {u : State} (e : (.next u : Host.Outcome State Fault Refusal) = .next t) (hu : u.units.Own) : t.units.Own := by
  obtain rfl : u = t := by simpa using e
  exact hu

/-- Every command keeps the units in their modes. -/
theorem exec_own {c : Instr} (h : s.units.Own) (e : exec c s = .next t) : t.units.Own := by
  cases c with
  | powerOn => exact next_own e (enterReset_own _)
  | resetInAssert => exact next_own e (enterReset_own _)
  | resetEnd =>
    refine next_own e ?_
    split
    · exact endReset_own ..
    · exact h
  | rollerEdge d => exact next_own e (ite_own (by simp [countEdge, h]) (rollerEdge_own d h))
  | supplyLowAssert => exact next_own e (ite_own h (escalatePowerFail_own (by simp [h])))
  | supplyLowDeassert => exact next_own e (ite_own h (by simp [h]))
  | powerFailAssert => exact next_own e (ite_own h (takePowerFail_own h))
  | powerFailDeassert => exact next_own e h
  | chaseLocked tag position speed => exact next_own e (ite_own (requestArrives_own _ h) h)
  | chaseLoss tag position speed => exact next_own e (ite_own (requestArrives_own _ h) h)
  | frameReceived byte => exact whileRunning_own e h (byteArrives_own _ _ h)
  | byteReceived byte framingError => exact whileRunning_own e h (byteArrives_own _ _ h)
  | interByteTimeout => exact whileRunning_own e h (by simp [h])
  | frameSent => exact whileRunning_own e h (frameSent_own h)
  | resetAfterReply =>
    simp only [exec, execResetAfterReply] at e
    refine whileRunning_own e h ?_
    split
    · exact enterReset_own _
    · exact h
  | telemetryTimerExpiry => exact whileRunning_own e h (by simp [h])
  | armMeasurementComplete r c => exact whileRunning_own e h (by simp [h])
  | presenceMeasurementComplete c => exact whileRunning_own e h (by simp [h])
  | measurementStalled counter =>
    cases counter with
    | arm r => exact whileRunning_own e h (armStalled_own r h)
    | presence => exact whileRunning_own (f := presenceStalled) e h (by simp [h])
  | reelTachEdge r winding => exact whileRunning_own e h (by simp [h])
  | predictionCountFull r winding => exact whileRunning_own e h (by simp [h])
  | packWindowComplete r winding => exact whileRunning_own e h (by simp [h])
  | packResync r winding => exact whileRunning_own e h (by simp [h])
  | speedSample => exact whileRunning_own e h (by simp [h])
  | servoSample => exact whileRunning_own e h (by simp [h])
  | saturation r => exact whileRunning_own e h (by simp [h])
  | slack r => exact whileRunning_own e h (by simp [h])
  | overtension r => exact whileRunning_own e h (by simp [h])
  | surveySettleDone => exact whileRunning_own e h (by simp [h])
  | surveyStepEnd => exact whileRunning_own e h (by simp [h])
  | driveRecoveryExpiry => exact whileRunning_own e h (by simp [h])
  | capstanStep => exact whileRunning_own e h (by simp [h])
  | capstanStall => exact whileRunning_own e h (by simp [h])
  | capstanEncoderEdge d => exact whileRunning_own e h (by simp [h])
  | capstanLockGained d => exact whileRunning_own e h (by simp [h])
  | capstanLockLost d => exact whileRunning_own e h (by simp [h])
  | refInEdge period => exact whileRunning_own e h (by simp [h])
  | internalReferenceEdge => exact whileRunning_own e h (by simp [h])
  | referenceReturned period => exact whileRunning_own e h (by simp [h])
  | referenceLost => exact whileRunning_own e h (by simp [h])
  | plannerStep => exact whileRunning_own e h (by simp [h])
  | brakeComplete => exact whileRunning_own e h (by simp [h])
  | pinchComplete => exact whileRunning_own e h (by simp [h])
  | loadTakeUpDone => exact whileRunning_own e h (by simp [h])
  | loadTimeout =>
    refine whileRunning_own e h ?_
    split
    next hm => exact failLoad_own _ h hm.1
    next => exact h
  | engageMatch => exact whileRunning_own e h (by simp [h])
  | pinchCloseCommand => exact whileRunning_own e h (by simp [h])
  | engageTimeout => exact whileRunning_own e h (ite_own (stopDemand_own _ _ (by simp [h.toInside])) h)
  | brakingStandstill => exact whileRunning_own e h (by simp [h])
  | locateUnitStep => exact whileRunning_own e h (by simp [h])
  | locateSettled => exact whileRunning_own e h (by simp [h])
  | chaseSilence =>
    refine whileRunning_own e h ?_
    split
    next hc => exact freewheel_own (by simp [h]) rfl hc.1
    · exact h
  | chaseMasterLost =>
    simp only [exec, execChaseMasterLost] at e
    refine whileRunning_own e h ?_
    split
    · exact h
    next hc => exact chaseOwnEnd_own _ h.toInside hc
  | linkSilence => exact whileRunning_own e h (by simp [h])
  | _ => exact next_own e (requestArrives_own _ h)

theorem step_own (h : s.units.Own) (e : step s = .next t) : t.units.Own := by
  unfold step at e
  split at e
  · exact next_own e (tick_own h)
  next c rest _ => exact exec_own (s := { s with pending := rest }) h e

end Steps

/-- Settles O58: each operation of the shared layer ends a unit before it takes its mode away, and enters a unit's mode, or another
motion, only with no fault latched and no stop in force. -/
theorem everyStepKeepsUnitsInTheirModes : Obligations.EveryStepKeepsUnitsInTheirModes :=
  fun s t h e => (unitsOwnModes_iff t).2 (step_own ((unitsOwnModes_iff s).1 h) e)

end Sys2Proof.Machine

namespace Sys2Proof.Machine

/-! ## What the requests to the planner read and leave -/

/-! The mechanics as a command leaves them (R83, R84). -/

def BrakeState.toApply (b : BrakeState) : BrakeState := if b = .applied then .applied else .applying

def BrakeState.toRelease (b : BrakeState) : BrakeState := if b = .released then .released else .releasing

def PinchState.toOpen (x : PinchState) : PinchState := if x = .opened then .opened else .opening

def PinchState.toClose (x : PinchState) : PinchState := if x = .closed then .closed else .closing

@[simp] theorem BrakeState.toApply_commanded (b : BrakeState) : b.toApply.commandedApplied = true := by cases b <;> rfl

@[simp] theorem BrakeState.toRelease_commanded (b : BrakeState) : b.toRelease.commandedApplied = false := by cases b <;> rfl

@[simp] theorem PinchState.toOpen_commanded (x : PinchState) : x.toOpen.commandedClosed = false := by cases x <;> rfl

@[simp] theorem PinchState.toClose_commanded (x : PinchState) : x.toClose.commandedClosed = true := by cases x <;> rfl

section Rules

variable (s : State)

theorem restartLinkTimer_onlyChanges : OnlyChanges [.fault] s (restartLinkTimer s) := by
  intro b; cases b <;> simp [sameBlock]

@[simp] theorem restartLinkTimer_forbidden (d : Dir) : forbidden (restartLinkTimer s) d = forbidden s d := by
  simp [forbidden]

@[simp] theorem restartLinkTimer_vMaxEff : vMaxEff (restartLinkTimer s) = vMaxEff s := by simp [vMaxEff]

@[simp] theorem restartLinkTimer_latched : (restartLinkTimer s).fault.latched = s.fault.latched := by simp [FaultUnit.latched]

@[simp] theorem restartLinkTimer_faultHolds : faultHolds (restartLinkTimer s) = faultHolds s := by simp [faultHolds]

/-- A change of mode withdraws the drop points and the cap of a reached cue, and keeps the rest of the planner (R82). -/
theorem setMode_planner_of_ne {m : Mode} (sub : Option SubStage) (cause : ModeCause) (h : s.planner.mode ≠ m) :
    (setMode m sub cause s).planner = { s.planner with mode := m, sub := sub, unitPoints := [], autoStopCap := false } := by
  simp [setMode, h]

/-- A change of mode keeps the planner's runs, timers, limits and memories of cues. -/
@[simp] theorem setMode_memory (m : Mode) (sub : Option SubStage) (cause : ModeCause) :
    (setMode m sub cause s).planner.matchRun = s.planner.matchRun ∧
      (setMode m sub cause s).planner.matchTimer = s.planner.matchTimer ∧
      (setMode m sub cause s).planner.armRun = s.planner.armRun ∧
      (setMode m sub cause s).planner.stageTimer = s.planner.stageTimer ∧
      (setMode m sub cause s).planner.standRun = s.planner.standRun ∧
      (setMode m sub cause s).planner.creep = s.planner.creep ∧ (setMode m sub cause s).planner.missed = s.planner.missed ∧
      (setMode m sub cause s).planner.inForce = s.planner.inForce ∧ (setMode m sub cause s).planner.seen = s.planner.seen ∧
      (setMode m sub cause s).planner.guard = s.planner.guard := by
  unfold setMode
  dsimp only
  split <;> simp

@[simp] theorem applyBrakes_planner : (applyBrakes s).planner = { s.planner with brake := s.planner.brake.toApply } := rfl

@[simp] theorem applyBrakes_lines : (applyBrakes s).lines = { s.lines with brakeS := true, brakeT := true } := rfl

@[simp] theorem releaseBrakes_planner :
    (releaseBrakes s).planner = { s.planner with brake := s.planner.brake.toRelease } := rfl

@[simp] theorem releaseBrakes_lines : (releaseBrakes s).lines = { s.lines with brakeS := false, brakeT := false } := rfl

@[simp] theorem openPinch_planner : (openPinch s).planner = { s.planner with pinch := s.planner.pinch.toOpen } := rfl

@[simp] theorem closePinch_planner : (closePinch s).planner = { s.planner with pinch := s.planner.pinch.toClose } := rfl

@[simp] theorem closePinch_lines : (closePinch s).lines = { s.lines with pinch := true } := rfl

@[simp] theorem openPinch_lines : (openPinch s).lines = { s.lines with pinch := false } := rfl

@[simp] theorem disableDrives_planner : (disableDrives s).planner = { s.planner with drivesCmd := false } := rfl

@[simp] theorem disableDrives_enabled : (disableDrives s).servo.enabled = false := by
  cases h : s.servo.enabled <;> simp [disableDrives, Servo.disabled, h]

@[simp] theorem abandonStop_planner : (abandonStop s).planner = { s.planner with stopInForce := none, stopCause := none } := rfl

@[simp] theorem abandonStop_zones : (abandonStop s).zones = { s.zones with pendingBlock := none } := rfl

/-- What starting a motion leaves of the planner's motion (R124). -/
@[simp] theorem startMotion_planner :
    (startMotion s).planner.vRef = s.planner.vRef ∧ (startMotion s).planner.mode = s.planner.mode ∧
      (startMotion s).planner.pinch = s.planner.pinch ∧ (startMotion s).planner.stopInForce = s.planner.stopInForce ∧
      (startMotion s).planner.stopCause = s.planner.stopCause :=
  ⟨rfl, rfl, rfl, rfl, rfl⟩

/-- A stop that begins has its severity and cause, no goal, and the pinch commanded open (R98). -/
theorem beginStopping_motion (sev : Severity) (cause : StopCause) :
    (beginStopping sev cause s).planner.mode = .stopping ∧ (beginStopping sev cause s).planner.stopInForce = some sev ∧
      (beginStopping sev cause s).planner.stopCause = some cause ∧ (beginStopping sev cause s).planner.goal = 0 ∧
      (beginStopping sev cause s).planner.vRef = s.planner.vRef ∧
      (beginStopping sev cause s).planner.pinch.commandedClosed = false ∧ (beginStopping sev cause s).lines.pinch = false ∧
      (beginStopping sev cause s).fault.record = s.fault.record := by
  simp [beginStopping]

/-- A load that ends at once stands in BRAKED, secured and at rest (R89). -/
theorem failLoad_rest (cause : ModeCause) :
    (failLoad cause s).planner.mode = .braked ∧ (failLoad cause s).servo.enabled = false ∧
      (failLoad cause s).planner.brake.commandedApplied = true ∧ (failLoad cause s).lines.brakeS = true ∧
      (failLoad cause s).lines.brakeT = true ∧ (failLoad cause s).planner.stopInForce = none ∧
      (failLoad cause s).planner.vRef = 0 ∧ (failLoad cause s).fault.record = s.fault.record := by
  simp [failLoad]

/-- R90, R91: IDLE is secured, at rest and unloaded. -/
theorem enterIdle_rest (cause : ModeCause) :
    (enterIdle cause s).planner.mode = .idle ∧ (enterIdle cause s).planner.sub = none ∧ (enterIdle cause s).planner.vRef = 0 ∧
      (enterIdle cause s).planner.goal = 0 ∧ (enterIdle cause s).planner.stopInForce = none ∧
      (enterIdle cause s).servo.enabled = false ∧ (enterIdle cause s).planner.brake.commandedApplied = true ∧
      (enterIdle cause s).planner.pinch.commandedClosed = false ∧ (enterIdle cause s).lines.brakeS = true ∧
      (enterIdle cause s).lines.brakeT = true ∧ (enterIdle cause s).lines.pinch = false ∧
      (enterIdle cause s).capstan.lock = .off ∧ (enterIdle cause s).fault.record = s.fault.record := by
  have hplanner (u : State) : (clearMismatch u).planner.mode = u.planner.mode ∧ (clearMismatch u).planner.sub = u.planner.sub ∧
      (clearMismatch u).planner.vRef = u.planner.vRef ∧ (clearMismatch u).planner.goal = u.planner.goal ∧
      (clearMismatch u).planner.stopInForce = u.planner.stopInForce ∧ (clearMismatch u).planner.brake = u.planner.brake ∧
      (clearMismatch u).planner.pinch = u.planner.pinch := by
    unfold clearMismatch; split <;> simp [recomputeLimits]
  have hmarks (u : State) : (clearMarks u).planner = { u.planner with missed := [], autoStopCap := false } := rfl
  have hlock (u : State) : (stopCapstan u).capstan.lock = .off := by
    by_cases h : u.capstan.lock = .off <;> simp [stopCapstan, Capstan.stopped, h]
  simp [enterIdle, hmarks, hplanner, hlock]

theorem enterIdle_packs (cause : ModeCause) :
    (enterIdle cause s).packs.a0 = none ∧ (enterIdle cause s).packs.mismatch = false ∧
      (enterIdle cause s).packs.pack = .both .unknown ∧ (enterIdle cause s).packs.profile = s.packs.profile ∧
      (enterIdle cause s).packs.tape = s.packs.tape := by
  have hpacks (u : State) : (clearMismatch u).packs = { u.packs with mismatch := false } := by
    unfold clearMismatch
    split
    · simp
    next h => rw [← Bool.eq_false_iff.2 h]
  simp [enterIdle, hpacks]

theorem enterIdle_cues (cause : ModeCause) :
    (enterIdle cause s).cues.list = s.cues.list.map fun q => { q with mark := .none } := by
  have hmarks (u : State) : (clearMarks u).cues.list = u.cues.list.map fun q => { q with mark := .none } := rfl
  simp [enterIdle, hmarks]

end Rules

/-! ## LOAD and UNLOAD (O24) -/

section Load

variable {s : State}

theorem load_answered {tag : Byte} {code : ResultCode} {t : State} (hs : Ready s)
    (h : answerLoad (restartLinkTimer s) = { state := t, code := code, body := [] }) :
    Answered (.load tag) s 0xA8 tag code [] t :=
  answered_of_ready hs rfl rfl rfl rfl h

theorem unload_answered {tag : Byte} {code : ResultCode} {t : State} (hs : Ready s)
    (h : answerUnload (restartLinkTimer s) = { state := t, code := code, body := [] }) :
    Answered (.unload tag) s 0xA9 tag code [] t :=
  answered_of_ready hs rfl rfl rfl rfl h

@[simp] theorem okOr_false : okOr false = .ok := rfl

theorem threaded_iff : threaded s = true ↔ s.sense.ps.state = .present ∧ s.sense.pt.state = .present := by
  simp [threaded]

/-- The creep goes forward unless that is forbidden (R87). -/
theorem creepDir_eq {d : Dir} (hd : forbidden s d = false) (hr : d = .reverse → forbidden s .forward = true) : creepDir s = d := by
  unfold creepDir
  cases d with
  | forward => simp [hd]
  | reverse => simp [hr rfl]

theorem startLoad_loads :
    (startLoad s).planner.mode = .loading ∧ (startLoad s).planner.sub = some .release ∧
      (startLoad s).planner.brake.commandedApplied = false ∧ (startLoad s).lines.brakeS = false ∧
      (startLoad s).lines.brakeT = false ∧ (startLoad s).lines.pinch = s.lines.pinch ∧
      (startLoad s).fault.record = s.fault.record ∧ (startLoad s).planner.vRef = s.planner.vRef ∧
      (startLoad s).planner.stopInForce = s.planner.stopInForce := by
  simp [startLoad]

theorem startLoad_creep (s : State) : (startLoad s).planner.creep = creepDir s := by simp [startLoad]

theorem startUnload_unloads :
    (startUnload s).planner.mode = .unloading ∧ (startUnload s).planner.sub = some .rampDown ∧ (startUnload s).capstan.lock = .off ∧
      (startUnload s).capstan.driveCode = (if s.capstan.lock = .off then s.capstan.driveCode else 0) ∧
      (startUnload s).fault.record = s.fault.record := by
  by_cases h : s.capstan.lock = .off <;> simp [startUnload, stopCapstan, Capstan.stopped, h]

end Load

/-- Settles O24: the checks of LOAD in their order, then what an accepted LOAD, an UNLOAD from HOLD and one from BRAKED leave. -/
theorem loadAndUnloadAnswerByMode : Obligations.LoadAndUnloadAnswerByMode := by
  refine ⟨fun tag s hs => ⟨fun hm => ?wrongMode, fun hm => ⟨fun hf => ?latched, fun hf =>
      ⟨fun hc => ?notConfigured, fun hc ht => ?notLoaded, fun hc hps hpt => ⟨fun hfwd hrev => ?blocked, fun d hd hr => ?loads⟩⟩⟩⟩,
    fun tag s hs => ⟨fun hh hb => ?refused, fun hm => ?fromHold, fun hm => ?fromBraked⟩⟩
  case wrongMode => exact load_answered hs (if_pos (by simpa using hm))
  case latched =>
    exact load_answered hs (by simp [answerLoad, refuse, hm, FaultUnit.latched, Option.isSome_iff_ne_none, hf])
  case notConfigured => exact load_answered hs (by simp [answerLoad, refuse, hm, FaultUnit.latched, hf, hc])
  case notLoaded =>
    have hthread : threaded (restartLinkTimer s) = false := Bool.eq_false_iff.2 fun h => ht (by simpa using threaded_iff.1 h)
    exact load_answered hs (by simp [answerLoad, refuse, hm, FaultUnit.latched, hf, hc, hthread])
  case blocked =>
    have hthread : threaded (restartLinkTimer s) = true := threaded_iff.2 (by simp [hps, hpt])
    exact load_answered hs (by simp [answerLoad, refuse, creepDir, hm, FaultUnit.latched, hf, hc, hthread, hfwd, hrev])
  case loads =>
    have hthread : threaded (restartLinkTimer s) = true := threaded_iff.2 (by simp [hps, hpt])
    have hcreep : creepDir (restartLinkTimer s) = d := creepDir_eq (by simpa using hd) (by simpa using hr)
    obtain ⟨hmode, hsub, hbrake, hlineS, hlineT, hpinch, hrecord, hv, hstop⟩ := startLoad_loads (s := restartLinkTimer s)
    refine ⟨startLoad (restartLinkTimer s), load_answered hs ?_, ?_, hmode, hsub, ?_, hbrake, hlineS, hlineT, hpinch.trans (by simp),
      hrecord.trans (by simpa using hf), hv.trans (by simp), hstop.trans (by simp)⟩
    · simp [answerLoad, accept, hm, FaultUnit.latched, hf, hc, hthread, hcreep, hd]
    · intro b; cases b <;> simp [sameBlock, startLoad]
    · exact (startLoad_creep _).trans hcreep
  case refused =>
    refine unload_answered hs ?_
    unfold answerUnload refuse
    split <;> simp_all
  case fromHold =>
    obtain ⟨hmode, hsub, hlock, hcode, hrecord⟩ := startUnload_unloads (s := restartLinkTimer s)
    refine ⟨startUnload (restartLinkTimer s), unload_answered hs ?_, ?_, hmode, hsub, hlock, hcode.trans (by simp),
      hrecord.trans (by simp)⟩
    · simp [answerUnload, accept, hm]
    · intro b; cases b <;> simp [sameBlock, startUnload]
  case fromBraked =>
    obtain ⟨hmode, hsub, hv, hgoal, hstop, hdrives, hbrake, hpinch, hlineS, hlineT, hlineP, hlock, hrecord⟩ :=
      enterIdle_rest (restartLinkTimer s) .request
    obtain ⟨ha0, hmismatch, hpack, hprofile, htape⟩ := enterIdle_packs (restartLinkTimer s) .request
    refine ⟨enterIdle .request (restartLinkTimer s), unload_answered hs ?_, ?_, hmode, hsub, hv, hgoal, hstop, hdrives, hbrake, hpinch,
      hlineS, hlineT, hlineP, hlock, ha0, hmismatch, hpack, hprofile.trans (by simp), htape.trans (by simp),
      (enterIdle_cues ..).trans (by simp), hrecord.trans (by simp)⟩
    · simp [answerUnload, accept, hm]
    · intro b; cases b <;> simp [sameBlock]

end Sys2Proof.Machine

namespace Sys2Proof.Machine

/-! ## WIND, PLAY and STOP (O25, O26, O27) -/

section Units

variable {s : State}

theorem endChase_planner (cause : ChaseCause) (s : State) :
    ∃ points, (endChase cause s).planner = { s.planner with unitPoints := points } := by
  unfold endChase
  split
  · exact ⟨s.planner.unitPoints, rfl⟩
  · exact ⟨[], by simp⟩

theorem endSurvey_planner (outcome : SurveyOutcome) (reason : Option AbortReason) (by_ : EndedBy) (s : State) :
    ∃ points, (endSurvey outcome reason by_ s).planner = { s.planner with unitPoints := points } := by
  unfold endSurvey
  split
  · exact ⟨[], by simp⟩
  · exact ⟨s.planner.unitPoints, rfl⟩

/-- The end of a unit's operation withdraws its drop points, and leaves the rest of the planner (R96). -/
theorem endUnit_planner (cause : StopCause) (s : State) :
    ∃ points, (endUnit cause s).planner = { s.planner with unitPoints := points } := by
  unfold endUnit
  split
  · exact ⟨s.planner.unitPoints, by simp⟩
  · exact endChase_planner ..
  · cases cause <;> exact endSurvey_planner ..
  · exact ⟨s.planner.unitPoints, rfl⟩

theorem endUnit_linePinch (cause : StopCause) (s : State) : (endUnit cause s).lines.pinch = s.lines.pinch := by
  unfold endUnit endChase
  (repeat' split) <;> simp [setChaseState, refreshInhibit]

theorem endUnit_locate (cause : StopCause) (hm : s.planner.mode = .locate) : (endUnit cause s).locate = none := by
  simp only [endUnit, hm, finishLocate]
  split
  next h => exact h
  next => simp

theorem endChase_off (cause : ChaseCause) (s : State) : (endChase cause s).chase.state = .off := by
  unfold endChase
  split
  next h => exact h
  next => simp [setChaseState]

theorem endUnit_chase (cause : StopCause) (hm : s.planner.mode = .chase) : (endUnit cause s).chase.state = .off := by
  simp [endUnit, hm, endChase_off]

theorem endSurvey_ended (outcome : SurveyOutcome) (reason : Option AbortReason) (by_ : EndedBy) (s : State) :
    surveyRuns (endSurvey outcome reason by_ s).survey = false := by
  unfold endSurvey
  split
  · simp
  next h => simpa using h

theorem endUnit_survey (cause : StopCause) (hm : s.planner.mode = .survey) : surveyRuns (endUnit cause s).survey = false := by
  simp only [endUnit, hm]
  cases cause <;> exact endSurvey_ended ..

/-- A unit that does not own the mode stays as it is (R96). -/
theorem endUnit_chase_of_ne (cause : StopCause) (hm : s.planner.mode ≠ .chase) : (endUnit cause s).chase = s.chase := by
  unfold endUnit
  split <;> simp_all

theorem endUnit_survey_of_ne (cause : StopCause) (hm : s.planner.mode ≠ .survey) :
    (endUnit cause s).survey = s.survey ∧ (endUnit cause s).monitor = s.monitor := by
  unfold endUnit
  split <;> simp_all

/-- What the end of a unit's operation may change, outside a survey. -/
theorem endUnit_onlyChanges (cause : StopCause) (hm : s.planner.mode ≠ .survey) :
    OnlyChanges [.planner, .locate, .chase, .capstan, .lines, .link] s (endUnit cause s) := by
  obtain ⟨hsurvey, hmonitor⟩ := endUnit_survey_of_ne cause hm
  intro b; cases b <;> simp [sameBlock, hsurvey, hmonitor]

end Units

section Checks

variable {s : State}

theorem Mode.takesWind_iff (m : Mode) : m.takesWind = true ↔ m ∈ [Mode.hold, .wind, .locate, .engaging, .play, .chase, .stopping] := by
  cases m <;> simp [takesWind]

theorem Mode.takesPlay_iff (m : Mode) : m.takesPlay = true ↔ m ∈ [Mode.hold, .wind, .locate, .chase, .stopping] := by
  cases m <;> simp [takesPlay]

theorem Mode.ignoresStop_iff (m : Mode) : m.ignoresStop = true ↔ m ∈ [Mode.idle, .hold, .unloading, .braking, .braked] := by
  cases m <;> simp [ignoresStop]

/-- Check 2 of R86. -/
theorem faultHolds_iff :
    faultHolds s = true ↔ s.fault.record ≠ none ∨ (s.planner.mode = .stopping ∧ s.planner.stopCause = some .fault) := by
  simp [faultHolds, FaultUnit.latched, Option.isSome_iff_ne_none]

theorem goalForbidden_iff {g : Int} :
    goalForbidden s g = true ↔ (0 < g ∧ forbidden s .forward = true) ∨ (g < 0 ∧ forbidden s .reverse = true) := by
  unfold goalForbidden dirOf
  split
  next h =>
    split at h
    · cases h
    · split at h
      · cases h
      · simp; omega
  next d h =>
    split at h
    next hpos => cases h; simp [hpos]; omega
    next hpos =>
      split at h
      next hneg => cases h; simp [hneg]; omega
      next => cases h

end Checks

section Wind

variable {s : State}

theorem wind_answered {tag : Byte} {speed : Int} {code : ResultCode} {body : List Byte} {t : State} (hs : Ready s)
    (h : answerWind speed (restartLinkTimer s) = { state := t, code := code, body := body }) :
    Answered (.wind tag speed) s 0xAB tag code body t :=
  answered_of_ready hs rfl rfl rfl rfl h

/-- WIND's entry leaves the stop in force and opens the pinch (R92). -/
theorem startWind_planner (goal : Int) (s : State) :
    (startWind goal s).planner.mode = .wind ∧ (startWind goal s).planner.goal = goal ∧ (startWind goal s).planner.stopInForce = none ∧
      (startWind goal s).planner.stopCause = none ∧ (startWind goal s).planner.pinch.commandedClosed = false ∧
      (startWind goal s).lines.pinch = false ∧ (startWind goal s).planner.vRef = s.planner.vRef ∧
      (startWind goal s).fault.record = s.fault.record := by
  obtain ⟨points, hunit⟩ := endUnit_planner .request s
  simp [startWind, hunit]

theorem startWind_blocks (goal : Int) (s : State) :
    (startWind goal s).capstan.lock = s.capstan.lock ∧ (startWind goal s).zones.index = s.zones.index ∧
      (startWind goal s).zones.entries = s.zones.entries ∧ (startWind goal s).locate = (endUnit .request s).locate ∧
      (startWind goal s).chase = (endUnit .request s).chase := by
  simp [startWind, endUnit_lock]

theorem startWind_onlyChanges (goal : Int) (hm : s.planner.mode ≠ .survey) :
    OnlyChanges [.planner, .zones, .cues, .locate, .chase, .capstan, .lines, .fault, .link] s (startWind goal s) := by
  refine ((endUnit_onlyChanges .request hm).mono (by simp)).trans ?_
  intro b; cases b <;> simp [sameBlock, startWind]

end Wind

/-- Settles O25: the checks in their order, then what WIND's entry leaves. -/
theorem windTakesAGoal : Obligations.WindTakesAGoal := by
  intro tag speed goal s hs hgoal
  have hclamp : clampInt (-(vMaxEff s : Int)) (vMaxEff s) speed = goal := by rw [clampInt_eq (by omega), hgoal]
  refine ⟨fun hm => ?wrongMode, fun hm => ⟨fun hf => ?latched, fun hf hstop => ⟨fun hb => ?blocked, fun hfwd hrev => ?winds⟩⟩⟩
  case wrongMode =>
    rw [← Mode.takesWind_iff, Bool.not_eq_true] at hm
    exact wind_answered hs (by simp [answerWind, refuse, hm])
  all_goals rw [← Mode.takesWind_iff] at hm
  case latched =>
    have hholds : faultHolds s = true := faultHolds_iff.2 hf
    exact wind_answered hs (by simp [answerWind, refuse, hm, hholds])
  all_goals
    have hholds : faultHolds s = false := Bool.eq_false_iff.2 fun h => (faultHolds_iff.1 h).elim (· hf) hstop
  case blocked =>
    have hforbidden : goalForbidden (restartLinkTimer s) goal = true := goalForbidden_iff.2 (by simpa using hb)
    exact wind_answered hs (by simp [answerWind, refuse, hm, hholds, hclamp, hforbidden])
  case winds =>
    have hallowed : goalForbidden (restartLinkTimer s) goal = false :=
      Bool.eq_false_iff.2 fun h => (goalForbidden_iff.1 h).elim (by simpa using hfwd) (by simpa using hrev)
    have hsurvey : s.planner.mode ≠ .survey := fun h => by simp [h, Mode.takesWind] at hm
    obtain ⟨hmode, hg, hinForce, hcause, hpinch, hline, hv, hrecord⟩ := startWind_planner goal (restartLinkTimer s)
    obtain ⟨hlock, hindex, hentries, hlocate, hchase⟩ := startWind_blocks goal (restartLinkTimer s)
    refine ⟨startWind goal (restartLinkTimer s), wind_answered hs ?_, ?_, hmode, hg, hinForce, hcause, hpinch, hline,
      hv.trans (by simp), hlock.trans (by simp), hindex.trans (by simp), hentries.trans (by simp), hrecord.trans (by simpa using hf),
      fun h => hlocate.trans (endUnit_locate _ (by simpa using h)), fun h => hchase ▸ endUnit_chase _ (by simpa using h),
      fun h => hchase.trans ((endUnit_chase_of_ne _ (by simpa using h)).trans (by simp))⟩
    · simp [answerWind, accept, hm, hholds, hclamp, hallowed, okOr_not_bne]
    · exact ((restartLinkTimer_onlyChanges s).mono (by simp)).trans (startWind_onlyChanges goal (by simpa using hsurvey))

section Play

variable {s : State}

theorem play_answered {tag : Byte} {code : ResultCode} {t : State} (hs : Ready s)
    (h : answerPlay (restartLinkTimer s) = { state := t, code := code, body := [] }) :
    Answered (.play tag) s 0xAA tag code [] t :=
  answered_of_ready hs rfl rfl rfl rfl h

/-- R93: what the entry to ENGAGING, or to PLAY, leaves in the planner. -/
theorem enterEngaging_planner (cause : ModeCause) (s : State) :
    (enterEngaging cause s).planner.mode = (if s.planner.pinch = .closed then .play else .engaging) ∧
      (enterEngaging cause s).planner.pinch = s.planner.pinch ∧ (enterEngaging cause s).lines.pinch = s.lines.pinch ∧
      (enterEngaging cause s).planner.goal = mmPerS (enterEngaging cause s).capstan.vPlay ∧
      (enterEngaging cause s).planner.stopInForce = none ∧ (enterEngaging cause s).planner.matchRun = 0 ∧
      (enterEngaging cause s).planner.matchTimer = none ∧ (enterEngaging cause s).planner.vRef = s.planner.vRef ∧
      (enterEngaging cause s).fault.record = s.fault.record := by
  simp [enterEngaging, playGoal]

/-- PLAY starts a capstan that is OFF (R93). -/
theorem enterEngaging_lock (cause : ModeCause) (s : State) :
    (enterEngaging cause s).capstan.lock = if s.capstan.lock = .off then .spinup else s.capstan.lock := by
  by_cases h : s.capstan.lock = .off <;> simp [enterEngaging, startCapstan, Capstan.started, h]

theorem startPlay_onlyChanges (hm : s.planner.mode ≠ .survey) :
    OnlyChanges [.planner, .zones, .cues, .locate, .chase, .capstan, .lines, .fault, .link] s (startPlay s) := by
  refine ((endUnit_onlyChanges .request hm).mono (by simp)).trans ?_
  intro b; cases b <;> simp [sameBlock, startPlay]

end Play

/-- Settles O26: OK with no change, the checks in their order, then what PLAY's entry leaves. -/
theorem playEngages : Obligations.PlayEngages := by
  intro tag s hs
  refine ⟨fun hm => ?already, fun hm => ?wrongMode, fun hm => ⟨fun hf => ?latched, fun hf hstop => ⟨fun hb => ?blocked, fun hfwd => ?plays⟩⟩⟩
  case already => exact play_answered hs (by simp [answerPlay, accept, hm])
  case wrongMode =>
    have hnot : ¬(s.planner.mode = .engaging ∨ s.planner.mode = .play) := fun h => hm (by rcases h with h | h <;> simp [h])
    have htakes : s.planner.mode.takesPlay = false :=
      Bool.eq_false_iff.2 fun h => hm (List.mem_append_left [Mode.engaging, .play] ((Mode.takesPlay_iff _).1 h))
    exact play_answered hs (by simp [answerPlay, refuse, hnot, htakes])
  all_goals
    have hnot : ¬(s.planner.mode = .engaging ∨ s.planner.mode = .play) := fun h => by rcases h with h | h <;> simp [h] at hm
    rw [← Mode.takesPlay_iff] at hm
  case latched =>
    have hholds : faultHolds s = true := faultHolds_iff.2 hf
    exact play_answered hs (by simp [answerPlay, refuse, hnot, hm, hholds])
  all_goals
    have hholds : faultHolds s = false := Bool.eq_false_iff.2 fun h => (faultHolds_iff.1 h).elim (· hf) hstop
  case blocked => exact play_answered hs (by simp [answerPlay, refuse, hnot, hm, hholds, hb])
  case plays =>
    have hsurvey : s.planner.mode ≠ .survey := fun h => by simp [h, Mode.takesPlay] at hm
    obtain ⟨points, hunit⟩ := endUnit_planner .request (restartLinkTimer s)
    obtain ⟨hmode, hpinch, hline, hgoal, hinForce, hrun, htimer, hv, hrecord⟩ :=
      enterEngaging_planner .request (endUnit .request (restartLinkTimer s))
    refine ⟨startPlay (restartLinkTimer s), play_answered hs ?_, ?_, hmode.trans (by simp [hunit]), hpinch.trans (by simp [hunit]),
      hline.trans (by simp [endUnit_linePinch]), hgoal, hinForce, hrun, htimer,
      (enterEngaging_lock ..).trans (by simp [endUnit_lock]), hv.trans (by simp [hunit]), hrecord.trans (by simpa using hf),
      fun h => ?_, fun h => ?_⟩
    · simp [answerPlay, accept, hnot, hm, hholds, hfwd]
    · exact ((restartLinkTimer_onlyChanges s).mono (by simp)).trans (startPlay_onlyChanges (by simpa using hsurvey))
    · have hends : (endUnit .request (restartLinkTimer s)).locate = none := endUnit_locate _ (by simpa using h)
      simpa [startPlay] using hends
    · have hends : (endUnit .request (restartLinkTimer s)).chase.state = .off := endUnit_chase _ (by simpa using h)
      simpa [startPlay] using hends

section Stop

variable {s : State}

theorem stop_answered {tag : Byte} {kind : Nat} {code : ResultCode} {t : State} (hs : Ready s)
    (h : answerStop kind (restartLinkTimer s) = { state := t, code := code, body := [] }) :
    Answered (.stop tag kind) s 0xAC tag code [] t :=
  answered_of_ready hs rfl rfl rfl rfl h

/-- An accepted STOP is a stop demand, where the mode does not ignore it (R97). -/
theorem answerStop_demands {kind : Nat} {sev : Severity} (hk : stopKindOf kind = some sev) (hm : s.planner.mode.ignoresStop = false) :
    answerStop kind s = { state := stopDemand sev .request s, code := .ok, body := [] } := by
  simp [answerStop, hk, hm, accept]

/-- The severities of STOP's kinds. -/
theorem stopKindOf_le_one {kind : Nat} (h : kind ≤ 1) :
    stopKindOf kind = some (if kind = 0 then .controlled else .fast) ∧ (if kind = 0 then Severity.controlled else .fast) ≠ .brake ∧
      (if kind = 0 then Severity.controlled else .fast).code = kind + 1 := by
  obtain rfl | rfl : kind = 0 ∨ kind = 1 := by omega
  · exact ⟨rfl, nofun, rfl⟩
  · exact ⟨rfl, nofun, rfl⟩

/-- In STOPPING a demand of no higher severity than the stop in force changes nothing (R98). -/
theorem stopDemand_lower {sev now : Severity} (cause : StopCause) (hm : s.planner.mode = .stopping)
    (hn : s.planner.stopInForce = some now) (hle : sev.code ≤ now.code) : stopDemand sev cause s = s := by
  simp [stopDemand, hm, hn, Nat.not_lt.2 hle]

/-- In STOPPING a FAST demand escalates a CONTROLLED stop (R98). -/
theorem stopDemand_escalates (cause : StopCause) (hm : s.planner.mode = .stopping) (hn : s.planner.stopInForce = some .controlled) :
    stopDemand .fast cause s =
      publishStopCause cause (s.onPlanner fun p => { p with stopInForce := some .fast, stopCause := some cause }) := by
  simp [stopDemand, hm, hn, Severity.code]

/-- The modes in which a stop of severity below BRAKE begins by ending the unit that owns the mode (R98). -/
def Mode.startsStop (m : Mode) : Bool :=
  match m with
  | .idle | .loading | .unloading | .braking | .braked => false
  | _ => true

theorem stopDemand_begins {sev : Severity} (cause : StopCause) (hm : s.planner.mode.startsStop = true)
    (hn : s.planner.stopInForce = none) (hb : sev ≠ .brake) :
    stopDemand sev cause s = beginStopping sev cause (endUnit cause s) := by
  unfold stopDemand
  split <;> simp_all [Mode.startsStop]

theorem stopDemand_loading (sev : Severity) (cause : StopCause) (hm : s.planner.mode = .loading) :
    stopDemand sev cause s = failLoad (modeCauseOf cause) s := by
  simp [stopDemand, hm]

end Stop

/-- Settles O27: the refused kind, the modes that ignore STOP, STOPPING by the stop in force, LOADING, and the moving modes. -/
theorem stopBringsTheTapeToRest : Obligations.StopBringsTheTapeToRest := by
  intro tag kind s hs
  refine ⟨fun hk => ?badKind, fun hk hm => ?ignored, fun hm now hnow => ⟨fun hk hle => ?lower, fun hc => ?escalates⟩,
    fun hk hm => ?loading, fun hk hm hn => ?stops⟩
  case badKind =>
    obtain ⟨n, rfl⟩ : ∃ n, kind = n + 2 := ⟨kind - 2, by omega⟩
    exact stop_answered hs rfl
  case ignored =>
    rw [← Mode.ignoresStop_iff] at hm
    exact stop_answered hs (by simp [answerStop, (stopKindOf_le_one hk).1, accept, hm])
  case lower =>
    obtain ⟨hkind, -, hcode⟩ := stopKindOf_le_one hk
    refine stop_answered hs ((answerStop_demands hkind (by simp [hm, Mode.ignoresStop])).trans ?_)
    rw [stopDemand_lower (now := now) _ (by simpa using hm) (by simpa using hnow) (hcode ▸ hle)]
  case escalates =>
    subst hc
    refine ⟨stopDemand .fast .request (restartLinkTimer s),
      stop_answered hs (answerStop_demands rfl (by simp [hm, Mode.ignoresStop])), ?_, ?_⟩
    all_goals rw [stopDemand_escalates _ (by simpa using hm) (by simpa using hnow)]
    · intro b; cases b <;> simp [sameBlock]
    · simp
  case loading =>
    obtain ⟨hmode, hdrives, hbrake, hlineS, hlineT, hinForce, hv, hrecord⟩ := failLoad_rest (restartLinkTimer s) .request
    refine ⟨failLoad .request (restartLinkTimer s), stop_answered hs ?_, ?_, hmode, hdrives, hbrake, hlineS, hlineT, hinForce, hv,
      hrecord.trans (by simp)⟩
    · rw [answerStop_demands (stopKindOf_le_one hk).1 (by simp [hm, Mode.ignoresStop]), stopDemand_loading _ _ (by simpa using hm)]
      rfl
    · intro b; cases b <;> simp [sameBlock]
  case stops =>
    obtain ⟨hkind, hbrake, -⟩ := stopKindOf_le_one hk
    have hstarts : s.planner.mode.startsStop = true ∧ s.planner.mode.ignoresStop = false := by
      cases h : s.planner.mode <;> simp_all [Mode.startsStop, Mode.ignoresStop]
    generalize (if kind = 0 then Severity.controlled else .fast) = sev at hkind hbrake ⊢
    obtain ⟨points, hunit⟩ := endUnit_planner .request (restartLinkTimer s)
    obtain ⟨hmode, hinForce, hcause, hgoal, hv, hpinch, hline, hrecord⟩ :=
      beginStopping_motion (endUnit .request (restartLinkTimer s)) sev .request
    refine ⟨beginStopping sev .request (endUnit .request (restartLinkTimer s)), stop_answered hs ?_, ?_, hmode, hinForce, hcause, hgoal,
      hv.trans (by simp [hunit]), hpinch, hline, by simp [endUnit_lock], hrecord.trans (by simp), fun h => ?_, fun h => ?_, fun h => ?_⟩
    · rw [answerStop_demands hkind (by simpa using hstarts.2), stopDemand_begins _ (by simpa using hstarts.1) (by simpa using hn) hbrake]
    · intro b; cases b <;> simp [sameBlock]
    · have hends : (endUnit .request (restartLinkTimer s)).locate = none := endUnit_locate _ (by simpa using h)
      simpa using hends
    · have hends : (endUnit .request (restartLinkTimer s)).chase.state = .off := endUnit_chase _ (by simpa using h)
      simpa using hends
    · have hends : surveyRuns (endUnit .request (restartLinkTimer s)).survey = false := endUnit_survey _ (by simpa using h)
      simpa using hends

end Sys2Proof.Machine

namespace Sys2Proof.Machine

/-! ## POWER_FAIL and LINK_SILENCE (O46) -/

section Kept

variable (s : State)

/-! What a stop demand leaves of the supply lines, the Fault Unit and the monitor's freeze. -/

@[simp] theorem setMode_supply (m : Mode) (sub : Option SubStage) (cause : ModeCause) :
    (setMode m sub cause s).lines.powerFail = s.lines.powerFail ∧
      (setMode m sub cause s).fault.powerFailTaken = s.fault.powerFailTaken := by
  unfold setMode
  dsimp only
  split <;> simp [refreshInhibit, linkTimerOnMode]

/-- A link timer that stopped stays so while the modes pass that it counts in (R157). -/
theorem setMode_linkTimer (m : Mode) (sub : Option SubStage) (cause : ModeCause) (ht : s.fault.linkTimer = none)
    (hq : s.planner.mode.quiet = false) : (setMode m sub cause s).fault.linkTimer = none := by
  unfold setMode
  dsimp only
  split <;> simp [linkTimerOnMode, ht, hq]

@[simp] theorem endUnit_supply (cause : StopCause) :
    (endUnit cause s).lines.powerFail = s.lines.powerFail ∧ (endUnit cause s).monitor.frozen = s.monitor.frozen := by
  unfold endUnit endSurveyBy endSurvey endChase
  (repeat' split) <;> simp [setChaseState, refreshInhibit]

theorem stopDemand_supply (sev : Severity) (cause : StopCause) :
    (stopDemand sev cause s).lines.powerFail = s.lines.powerFail ∧
      (stopDemand sev cause s).fault.powerFailTaken = s.fault.powerFailTaken ∧
      (stopDemand sev cause s).monitor.frozen = s.monitor.frozen := by
  rcases stopDemand_cases sev cause s with ⟨h, -⟩ | ⟨-, h⟩ | ⟨-, h⟩ | ⟨-, -, h⟩ | ⟨-, -, h⟩ | ⟨-, -, h⟩ <;> rw [h] <;>
    simp [failLoad, enterBraking, beginStopping]

theorem stopDemand_linkTimer (sev : Severity) (cause : StopCause) (ht : s.fault.linkTimer = none)
    (hq : s.planner.mode.quiet = false) : (stopDemand sev cause s).fault.linkTimer = none := by
  obtain ⟨points, hunit⟩ := endUnit_planner cause s
  rcases stopDemand_cases sev cause s with ⟨h, -⟩ | ⟨-, h⟩ | ⟨-, h⟩ | ⟨-, -, h⟩ | ⟨-, -, h⟩ | ⟨-, -, h⟩ <;> rw [h]
  · exact ht
  · exact setMode_linkTimer _ _ _ _ (by simp [ht]) (by simp [hq])
  · exact setMode_linkTimer _ _ _ _ (by simp [ht]) (by simp [hq])
  · exact setMode_linkTimer _ _ _ _ (by simp [ht]) (by simp [hunit, hq])
  · exact setMode_linkTimer _ _ _ _ (by simp [ht]) (by simp [hunit, hq])
  · simp [ht]

/-- BRAKING is secured and at rest (R100). -/
theorem enterBraking_rest (cause : StopCause) :
    (enterBraking cause s).planner.mode = .braking ∧ (enterBraking cause s).planner.stopInForce = some .brake ∧
      (enterBraking cause s).planner.stopCause = some cause ∧ (enterBraking cause s).planner.pinch.commandedClosed = false ∧
      (enterBraking cause s).servo.enabled = false ∧ (enterBraking cause s).planner.vRef = 0 ∧
      (enterBraking cause s).lines.brakeS = true ∧ (enterBraking cause s).lines.brakeT = true ∧
      (enterBraking cause s).capstan.lock = .off := by
  have hlock (u : State) : (stopCapstan u).capstan.lock = .off := by
    by_cases h : u.capstan.lock = .off <;> simp [stopCapstan, Capstan.stopped, h]
  simp [enterBraking, hlock]

/-- In IDLE, BRAKING and BRAKED a stop demand does nothing (R98). -/
theorem stopDemand_rest {s : State} (sev : Severity) (cause : StopCause)
    (hm : s.planner.mode = .idle ∨ s.planner.mode = .braking ∨ s.planner.mode = .braked) : stopDemand sev cause s = s := by
  rcases hm with hm | hm | hm <;> simp [stopDemand, hm]

/-- In UNLOADING only a brake stop counts (R98). -/
theorem stopDemand_unloading {s : State} {sev : Severity} (cause : StopCause) (hm : s.planner.mode = .unloading) (hb : sev ≠ .brake) :
    stopDemand sev cause s = s := by
  simp [stopDemand, hm, hb]

/-- A BRAKE stop demand ends the unit that owns the mode and brakes (R98, R100). -/
theorem stopDemand_brakes {s : State} (cause : StopCause) (hm : s.planner.mode.startsStop = true) (hn : s.planner.stopInForce = none) :
    stopDemand .brake cause s = enterBraking cause (endUnit cause s) := by
  unfold stopDemand
  split <;> simp_all [Mode.startsStop]

theorem Severity.one_le_code (x : Severity) : 1 ≤ x.code := by cases x <;> decide

/-- The modes of a motion, or of HOLD, begin a stop on demand. -/
theorem Mode.startsStop_of_mem {m : Mode} (h : m ∈ [Mode.hold, .wind, .locate, .engaging, .play, .chase, .survey]) :
    m.startsStop = true := by
  cases m <;> simp_all [startsStop]

end Kept

section Primary

variable {s : State}

/-- The state from which a primary demands its stop: its record made and its notice posted (R149). -/
def latched (c : Condition) (sev : Severity) (s : State) : State :=
  postNotice (.fault false c true sev s.planner.mode (mmPerS s.tach.vMeas) s.tach.position)
    (s.onFault fun f =>
      { f with record := some
                 { primary := c, mode := s.planner.mode, sub := s.planner.sub, vMeas := mmPerS s.tach.vMeas,
                   position := s.tach.position, secondaries := [], lost := false, severity := sev },
               powerFailTaken := c.kind == .powerFail })

theorem latchPrimary_eq (c : Condition) (sev : Severity) (s : State) :
    latchPrimary c sev s = stopDemand sev .fault (latched c sev s) := rfl

theorem latched_onlyChanges (c : Condition) (sev : Severity) (s : State) : OnlyChanges [.fault, .link] s (latched c sev s) := by
  intro b; cases b <;> simp [sameBlock, latched]

@[simp] theorem latched_planner (c : Condition) (sev : Severity) (s : State) : (latched c sev s).planner = s.planner := rfl

theorem takeConditionAt_latches {c : Condition} {sev : Severity} (h : s.fault.record = none) :
    takeConditionAt c sev s = stopDemand sev .fault (latched c sev s) := by
  simp [takeConditionAt, h, latchPrimary_eq]

/-- A condition is listed where it is new and three are not listed yet, and lost where three are (R150). -/
theorem takeSecondary_record (r : FaultRecord) (c : Condition) (sev : Severity) (s : State) (hp : r.primary ≠ c)
    (hs : c ∉ r.secondaries) :
    (takeSecondary r c sev s).fault.record =
      some { r with
        secondaries := if r.secondaries.length < 3 then r.secondaries ++ [c] else r.secondaries
        lost := r.lost || decide (3 ≤ r.secondaries.length)
        severity := if r.severity.code < sev.code then sev else r.severity } := by
  have hknown : (r.primary == c || r.secondaries.contains c) = false := by simp [hp, hs]
  have hlost : (!decide (r.secondaries.length < 3)) = decide (3 ≤ r.secondaries.length) := by
    rw [Bool.eq_iff_iff]
    simp
  unfold takeSecondary
  simp only [hknown, Bool.not_false, Bool.true_and, hlost]
  by_cases hr : r.severity.code < sev.code
  · simp [hr]
  · simp only [hr, decide_false, Bool.or_false, Bool.false_eq_true, if_false]
    split <;> simp_all

/-- A condition of another kind than POWER_FAIL that is listed already, and raises nothing, changes nothing (R150). -/
theorem takeSecondary_known {r : FaultRecord} {c : Condition} {sev : Severity} (hr : s.fault.record = some r)
    (hk : r.primary = c ∨ c ∈ r.secondaries) (hsev : sev.code ≤ r.severity.code) (hc : (c.kind == .powerFail) = false) :
    takeSecondary r c sev s = s := by
  have hknown : (r.primary == c || r.secondaries.contains c) = true := by simpa using hk
  simp only [takeSecondary, hknown, hc, Nat.not_lt.2 hsev, decide_false, Bool.not_true, Bool.false_and, Bool.or_false,
    Bool.false_eq_true, if_false]
  rw [State.onFault, ← hr]

/-- A new one is listed while three are not, and its notice is posted (R150). -/
theorem takeSecondary_listed {r : FaultRecord} {c : Condition} {sev : Severity} (s : State) (hp : r.primary ≠ c)
    (hs : c ∉ r.secondaries) (hl : r.secondaries.length < 3) (hsev : sev.code ≤ r.severity.code)
    (hc : (c.kind == .powerFail) = false) :
    takeSecondary r c sev s =
      postNotice (.fault true c true r.severity s.planner.mode (mmPerS s.tach.vMeas) s.tach.position)
        (s.onFault fun f => { f with record := some { r with secondaries := r.secondaries ++ [c] } }) := by
  have hknown : (r.primary == c || r.secondaries.contains c) = false := by simp [hp, hs]
  simp only [takeSecondary, hknown, hc, hl, Nat.not_lt.2 hsev, decide_false, decide_true, Bool.not_false, Bool.true_and,
    Bool.not_true, Bool.and_false, Bool.or_false, Bool.false_eq_true, if_false, if_true]
  rfl

/-- A new one is lost where three are listed (R150). -/
theorem takeSecondary_lost {r : FaultRecord} {c : Condition} {sev : Severity} (s : State) (hp : r.primary ≠ c)
    (hs : c ∉ r.secondaries) (hl : 3 ≤ r.secondaries.length) (hsev : sev.code ≤ r.severity.code)
    (hc : (c.kind == .powerFail) = false) :
    takeSecondary r c sev s = s.onFault fun f => { f with record := some { r with lost := true } } := by
  have hknown : (r.primary == c || r.secondaries.contains c) = false := by simp [hp, hs]
  simp only [takeSecondary, hknown, hc, Nat.not_lt.2 hl, Nat.not_lt.2 hsev, decide_false, Bool.not_false, Bool.and_false,
    Bool.and_true, Bool.or_false, Bool.or_true, Bool.false_eq_true, if_false]

theorem takeConditionAt_taken {c : Condition} (sev : Severity) (s : State) (hc : c.kind = .powerFail) :
    (takeConditionAt c sev s).fault.powerFailTaken = true := by
  unfold takeConditionAt
  split
  · rw [latchPrimary_eq, (stopDemand_supply ..).2.1]
    simp [latched, hc]
  · unfold takeSecondary
    dsimp only
    split <;> split <;> simp [stopDemand_supply, hc]

theorem takeConditionAt_supply (c : Condition) (sev : Severity) (s : State) :
    (takeConditionAt c sev s).lines.powerFail = s.lines.powerFail ∧
      (takeConditionAt c sev s).monitor.frozen = s.monitor.frozen := by
  unfold takeConditionAt
  split
  · rw [latchPrimary_eq]
    simp [stopDemand_supply, latched]
  · unfold takeSecondary
    dsimp only
    split <;> split <;> simp [stopDemand_supply]

end Primary

section PowerFail

variable {s : State}

/-- The condition of POWER_FAIL. -/
abbrev powerFailCondition : Condition := { kind := .powerFail, reel := none }

/-- The line of POWER_FAIL asserted. -/
abbrev powerFailLine (s : State) : State := s.onLines fun l => { l with powerFail := true }

/-- The state with POWER_FAIL taken as its line is asserted. -/
abbrev powerFailed (s : State) : State :=
  takeConditionAt powerFailCondition (if s.lines.supplyLow then .brake else .fast) (powerFailLine s)

theorem exec_powerFailAssert (h : s.held = none) : exec .powerFailAssert s = .next (powerFailed s) :=
  congrArg Host.Outcome.next (if_neg (by simp [h]))

theorem exec_powerFailAssert_held (h : s.held ≠ none) :
    exec .powerFailAssert s = .next (powerFailLine s) :=
  congrArg Host.Outcome.next (if_pos (by simpa [Option.isSome_iff_ne_none] using h))

end PowerFail

section LinkSilence

variable {s : State}

/-- The condition of LINK_SILENCE. -/
abbrev silenceCondition : Condition := { kind := .linkSilence, reel := none }

theorem exec_linkSilence_stopped (h : s.fault.linkTimer = none) : exec .linkSilence s = .next s := by
  simp [exec, execLinkSilence, whileRunning, linkExpires, h]

theorem exec_linkSilence (hs : s.held = none) (h : s.fault.linkTimer ≠ none) :
    exec .linkSilence s = .next (takeConditionAt silenceCondition .controlled (s.onFault fun f => { f with linkTimer := none })) := by
  refine (whileRunning_of_running hs).trans ?_
  simp [linkExpires, Option.isSome_iff_ne_none, h, takeCondition, FaultKind.severity]

end LinkSilence

/-- Settles O46: POWER_FAIL as a primary by the mode of its moment and as a secondary, then LINK_SILENCE as each of them. -/
theorem faultsAreTaken : Obligations.FaultsAreTaken := by
  intro s sev f0 hsev hf0
  refine ⟨rfl, fun hh => exec_powerFailAssert_held hh, fun hh => ⟨?powerFail, fun ht => exec_linkSilence_stopped ht, ?silence, ?known⟩⟩
  case powerFail =>
    subst hsev
    obtain ⟨hline, hfrozen⟩ := takeConditionAt_supply powerFailCondition (if s.lines.supplyLow then .brake else .fast)
      (powerFailLine s)
    refine ⟨powerFailed s, exec_powerFailAssert hh, hline, takeConditionAt_taken _ _ rfl, by simp [powerFailed], by simp [powerFailed],
      hfrozen, fun hnone => ⟨?record, fun hm => ?rest, fun hm hn => ?stops⟩, fun f hf hp hsec => ?secondary⟩
    case record => exact hf0 ▸ takeConditionAt_primary (s := powerFailLine s) hnone
    case rest =>
      have hrest : powerFailed s = latched powerFailCondition (if s.lines.supplyLow then .brake else .fast)
          (powerFailLine s) :=
        (takeConditionAt_latches (s := powerFailLine s) hnone).trans (stopDemand_rest _ _ (hm.imp id Or.inr))
      rw [hrest, hf0]
      exact ⟨rfl, rfl⟩
    case stops =>
      have hstarts := Mode.startsStop_of_mem hm
      have htaken : powerFailed s = stopDemand (if s.lines.supplyLow then .brake else .fast) .fault (latched powerFailCondition
          (if s.lines.supplyLow then .brake else .fast) (powerFailLine s)) :=
        takeConditionAt_latches (s := powerFailLine s) hnone
      rw [htaken]
      generalize hu : latched powerFailCondition (if s.lines.supplyLow then .brake else .fast)
        (powerFailLine s) = u
      have hplanner : u.planner = s.planner := by rw [← hu]; rfl
      have hblocks : u.servo = s.servo ∧ u.capstan = s.capstan := by rw [← hu]; exact ⟨rfl, rfl⟩
      cases hsupply : s.lines.supplyLow with
      | true =>
        simp only [if_true]
        rw [stopDemand_brakes _ (by rwa [hplanner]) (by rwa [hplanner])]
        obtain ⟨hmode, hstop, hcause, hpinch, hdrives, hv, hlineS, hlineT, hlock⟩ := enterBraking_rest (endUnit .fault u) .fault
        exact ⟨hmode, hstop, hcause, hpinch, fun _ => ⟨hdrives, hv, hlineS, hlineT, hlock⟩, nofun⟩
      | false =>
        simp only [Bool.false_eq_true, if_false]
        rw [stopDemand_begins _ (by rwa [hplanner]) (by rwa [hplanner]) (by decide)]
        obtain ⟨points, hunit⟩ := endUnit_planner .fault u
        obtain ⟨hmode, hstop, hcause, -, hv, hpinch, -⟩ := beginStopping_motion (endUnit .fault u) .fast .fault
        exact ⟨hmode, hstop, hcause, hpinch, nofun,
          fun _ => ⟨by simp [hblocks], hv.trans (by simp [hunit, hplanner]), by simp [endUnit_lock, hblocks]⟩⟩
    case secondary =>
      have hnew : f.primary ≠ powerFailCondition ∧ powerFailCondition ∉ f.secondaries :=
        ⟨fun h => hp (by rw [h]), fun h => hsec _ h rfl⟩
      have htaken : powerFailed s = takeSecondary f powerFailCondition (if s.lines.supplyLow then .brake else .fast)
          (powerFailLine s) := by simp [powerFailed, takeConditionAt, hf]
      rw [htaken, takeSecondary_record _ _ _ _ hnew.1 hnew.2, hf0]
  case silence =>
    intro ht hnone hq
    have hrow := exec_linkSilence hh ht
    generalize hu : s.onFault (fun f => { f with linkTimer := none }) = u at hrow
    have hplanner : u.planner = s.planner := by rw [← hu]; rfl
    have htimer : (latched silenceCondition .controlled u).fault.linkTimer = none := by rw [← hu]; rfl
    have hchanges : OnlyChanges [.fault, .link] s (latched silenceCondition .controlled u) := by
      refine .trans (t := u) ?_ (latched_onlyChanges _ _ _)
      rw [← hu]
      intro b; cases b <;> simp [sameBlock]
    have htaken : takeConditionAt silenceCondition .controlled u = stopDemand .controlled .fault (latched silenceCondition .controlled u) :=
      takeConditionAt_latches (by rw [← hu]; exact hnone)
    have hrecord : (latched silenceCondition .controlled u).fault.record =
        some { f0 with primary := silenceCondition, severity := .controlled } := by
      rw [← hu, hf0]; rfl
    rw [htaken] at hrow
    generalize latched silenceCondition .controlled u = w at *
    have hw : w.planner = s.planner := (hchanges .planner).resolve_left (by decide)
    have hcapstan : w.capstan = s.capstan := (hchanges .capstan).resolve_left (by decide)
    have htach : w.tach = s.tach := (hchanges .tach).resolve_left (by decide)
    refine ⟨_, hrow, stopDemand_linkTimer _ _ _ htimer (by rw [hw]; exact hq), by simp [htach], by rw [stopDemand_record, hrecord],
      fun hm hn => ?stops, fun hm => ?loading, fun hm => ?kept⟩
    case stops =>
      have hstarts := Mode.startsStop_of_mem (List.mem_cons_of_mem _ hm)
      rw [stopDemand_begins _ (by rwa [hw]) (by rwa [hw]) (by decide)]
      obtain ⟨points, hunit⟩ := endUnit_planner .fault w
      obtain ⟨hmode, hstop, hcause, -, hv, hpinch, -⟩ := beginStopping_motion (endUnit .fault w) .controlled .fault
      refine ⟨(hchanges.mono (by simp)).trans ?_, hmode, hstop, hcause, hv.trans (by simp [hunit, hw]), hpinch,
        by simp [endUnit_lock, hcapstan]⟩
      intro b; cases b <;> simp [sameBlock]
    case loading =>
      rw [stopDemand_loading _ _ (by rwa [hw])]
      obtain ⟨hmode, hdrives, -, hlineS, hlineT, -⟩ := failLoad_rest w .fault
      exact ⟨hmode, hdrives, hlineS, hlineT⟩
    case kept =>
      have hsame : stopDemand .controlled .fault w = w := by
        rcases hm with hm | ⟨hm, hn⟩
        · exact stopDemand_unloading _ (by rwa [hw]) (by decide)
        · obtain ⟨now, hnow⟩ := Option.ne_none_iff_exists'.1 hn
          exact stopDemand_lower _ (by rwa [hw]) (by rwa [hw]) (Severity.one_le_code now)
      rw [hsame]
      exact hchanges
  case known =>
    intro f k isNew ht hf hk hnew
    subst hk
    have hrow := exec_linkSilence hh ht
    generalize hu : s.onFault (fun f => { f with linkTimer := none }) = u at hrow
    have hrecord : u.fault.record = some f := by rw [← hu]; exact hf
    have hfault : u.fault = { s.fault with linkTimer := none } := by rw [← hu]; rfl
    have htaken : takeConditionAt silenceCondition .controlled u = takeSecondary f silenceCondition .controlled u := by
      simp [takeConditionAt, hrecord]
    rw [htaken] at hrow
    have hsev : Severity.controlled.code ≤ f.severity.code := Severity.one_le_code _
    have hchanges : OnlyChanges [.fault, .link] s u := by
      rw [← hu]
      intro b; cases b <;> simp [sameBlock]
    have hlink : u.link = s.link := by rw [← hu]; rfl
    have hview : u.planner = s.planner ∧ u.tach = s.tach := by rw [← hu]; exact ⟨rfl, rfl⟩
    refine ⟨_, hrow, ?_, fun hold => ?_, fun hn hl => ?_, fun hn hl => ?_⟩
    · by_cases hn : f.primary ≠ silenceCondition ∧ silenceCondition ∉ f.secondaries
      · refine hchanges.trans ?_
        by_cases hl : f.secondaries.length < 3
        · rw [takeSecondary_listed u hn.1 hn.2 hl hsev rfl]
          intro b; cases b <;> simp [sameBlock]
        · rw [takeSecondary_lost u hn.1 hn.2 (by omega) hsev rfl]
          intro b; cases b <;> simp [sameBlock]
      · rw [takeSecondary_known hrecord (by rwa [ne_eq, ← not_or, not_not] at hn) hsev rfl]
        exact hchanges
    · rw [hnew, ne_eq, ← not_or, not_not] at hold
      rw [takeSecondary_known hrecord hold hsev rfl]
      exact ⟨hfault, hlink⟩
    · obtain ⟨hp, hsec⟩ := hnew.1 hn
      rw [takeSecondary_listed u hp hsec hl hsev rfl]
      simp [hfault, hlink, hview]
    · obtain ⟨hp, hsec⟩ := hnew.1 hn
      rw [takeSecondary_lost u hp hsec hl hsev rfl]
      simp [hfault, hlink]

end Sys2Proof.Machine

namespace Sys2Proof.Machine

/-! ## The planner step by mode (R82) -/

section StepByMode

variable {s : State}

theorem exec_plannerStep (h : s.held = none) : exec .plannerStep s = .next (plannerStep s) := whileRunning_of_running h

/-- Only a step in WIND, ENGAGING or PLAY takes up cues (R120). -/
theorem noteCues_other (hw : s.planner.mode ≠ .wind) (he : s.planner.mode ≠ .engaging) (hp : s.planner.mode ≠ .play) :
    noteCues s = s := by
  simp [noteCues, hw, he, hp]

theorem playCues_of_ne (h : s.planner.mode ≠ .play) : playCues s = [] := if_neg h

/-- Outside WIND no cue is a drop point, and none is missed (R104, R105). -/
theorem dropMissedCues_of_ne (h : s.planner.mode ≠ .wind) : dropMissedCues s = s := by
  unfold dropMissedCues
  split
  · rfl
  · simp [cuePoints, h]

/-- One profile step, outside WIND (R101). -/
theorem runProfile_of_ne (h : s.planner.mode ≠ .wind) :
    runProfile s =
      publishRef (profileStep s.planner.vRef (goalEff s * 1000) (accelRate s) (decelRate s)).1
        (profileStep s.planner.vRef (goalEff s * 1000) (accelRate s) (decelRate s)).2 s := by
  unfold runProfile
  rw [dropMissedCues_of_ne h, ite_self]

@[simp] theorem runProfile_mode (s : State) : (runProfile s).planner.mode = s.planner.mode := congrArg Units.mode runProfile_units

theorem moveRef_loading (hm : s.planner.mode = .loading) :
    moveRef s = if s.planner.sub = some .probeCreep then runProfile s else publishRef 0 0 s := by
  simp [moveRef, hm]

theorem plannerStep_loading (hm : s.planner.mode = .loading) (hs : s.planner.sub ≠ some .takeUp) :
    plannerStep s = if s.planner.sub = some .probeCreep then runProfile s else publishRef 0 0 s := by
  have hevents : plannerEvents s = s := by simp [plannerEvents, hm, hs]
  have hmode : (moveRef s).planner.mode = .loading := by
    rw [moveRef_loading hm]
    split <;> simp [hm, publishRef]
  rw [plannerStep, hevents, noteCues_other (by simp [hmode]) (by simp [hmode]) (by simp [hmode]), moveRef_loading hm]

theorem plannerEvents_takeUp (hm : s.planner.mode = .loading) (hs : s.planner.sub = some .takeUp) :
    plannerEvents s = takeUpStep s := by
  simp [plannerEvents, hm, hs]

/-- A change of sub-stage in one mode keeps the rest of the planner (R82). -/
theorem setMode_planner_of_eq {m : Mode} (sub : Option SubStage) (cause : ModeCause) (h : s.planner.mode = m) :
    (setMode m sub cause s).planner = { s.planner with sub := sub } := by
  subst h
  unfold setMode
  dsimp only
  split
  next h => rw [← h.2]
  next => simp

end StepByMode

/-! ## The stages of a load and of an unload (O51) -/

section Loading

variable {s : State}

theorem exec_brakeComplete (h : s.held = none) : exec .brakeComplete s = .next (brakeComplete s) := whileRunning_of_running h

theorem exec_loadTimeout (h : s.held = none) :
    exec .loadTimeout s =
      .next (if s.planner.mode = .loading ∧ s.planner.sub = some .takeUp then failLoad .loadFailed s else s) :=
  whileRunning_of_running h

theorem exec_loadTakeUpDone (h : s.held = none) :
    exec .loadTakeUpDone s = .next (if takeUpFalls s then plannerStep s else s) :=
  whileRunning_of_running h

theorem brakeComplete_releasing (hb : s.planner.brake = .releasing) :
    brakeComplete s =
      if s.planner.mode = .loading ∧ s.planner.sub = some .release then
        startTakeUp (s.onPlanner fun p => { p with brake := .released })
      else s.onPlanner fun p => { p with brake := .released } := by
  simp [brakeComplete, hb]

theorem brakeComplete_applying (hb : s.planner.brake = .applying) :
    brakeComplete s =
      if s.planner.mode = .unloading ∧ s.planner.sub = some .brakeSet then
        enterIdle .complete (s.onPlanner fun p => { p with brake := .applied })
      else s.onPlanner fun p => { p with brake := .applied } := by
  simp [brakeComplete, hb]

/-- An arm that is neither STALLED nor OUT_OF_RANGE is good (R10). -/
theorem armFailed_eq_false {a : ArmChannel} (h : a.outcome ≠ .stalled ∧ a.outcome ≠ .outOfRange) : armFailed a = false := by
  simp [armFailed, h]

/-- With both arms good, drives that go from DISABLED to ENABLED give no condition (R42, R10). -/
theorem enableDrives_good (hen : s.servo.enabled = false)
    (harms : ∀ r, (s.sense.arms.get r).outcome ≠ .stalled ∧ (s.sense.arms.get r).outcome ≠ .outOfRange) :
    enableDrives s = (s.onPlanner fun p => { p with drivesCmd := true }).onServo Servo.enable := by
  have hsupply : armFailed s.sense.arms.supply = false := armFailed_eq_false (harms .supply)
  have htakeup : armFailed s.sense.arms.takeup = false := armFailed_eq_false (harms .takeup)
  simp [enableDrives, hen, armConditionIf, hsupply, htakeup]

theorem Servo.enable_reel (v : Servo) (r : Reel) :
    v.enable.reels.get r = { v.reels.get r with integ := 0, sat := none, satRun := 0, slackRun := 0, overRun := 0 } := by
  cases r <;> rfl

/-- R87: TAKE_UP begins with its run and timer at 0 and the drives ENABLED. -/
theorem startTakeUp_good (hm : s.planner.mode = .loading) (hen : s.servo.enabled = false)
    (harms : ∀ r, (s.sense.arms.get r).outcome ≠ .stalled ∧ (s.sense.arms.get r).outcome ≠ .outOfRange) :
    (startTakeUp s).planner =
        { s.planner with sub := some .takeUp, armRun := 0, stageTimer := some 0, drivesCmd := true } ∧
      (startTakeUp s).servo = s.servo.enable ∧ OnlyChanges [.planner, .servo, .lines, .fault, .link] s (startTakeUp s) := by
  rw [startTakeUp, enableDrives_good (by simpa using hen) (by simpa using harms)]
  refine ⟨?_, by simp, ?_⟩
  · rw [State.onServo_planner, State.onPlanner_planner, setMode_planner_of_eq _ _ (by simpa using hm)]
    rfl
  · intro b; cases b <;> simp [sameBlock]

/-- The arm run reaches 40 (R88). -/
theorem takeUpFalls_iff :
    takeUpFalls s = true ↔ s.planner.mode = .loading ∧ s.planner.sub = some .takeUp ∧ 40 ≤ armRunNext s := by
  simp [takeUpFalls, and_assoc]

theorem armsSteady_iff : armsSteady s = true ↔ ∀ r, mag (s.sense.arms.get r).p ≤ 200 := by
  simp only [armsSteady, Bool.and_eq_true, decide_eq_true_eq]
  exact ⟨fun h r => by cases r <;> simp [PerReel.get, h], fun h => ⟨h .supply, h .takeup⟩⟩

theorem takeUpStep_probe (h : 40 ≤ armRunNext s) : takeUpStep s = startProbe s := if_pos h

/-- R88: the probe creep begins, with both records in PROBE. -/
theorem startProbe_planner (hm : s.planner.mode = .loading) :
    (startProbe s).planner =
      { s.planner with sub := some .probeCreep, armRun := 40, stageTimer := none, refPos := s.tach.position
                       goal := signedBy s.planner.creep 100 } :=
  setMode_planner_of_eq _ _ (by simpa using hm)

theorem startProbe_packs : (startProbe s).packs = { s.packs with pack := .both { Pack.unknown with status := .probe } } := by
  simp [startProbe]

theorem startProbe_onlyChanges : OnlyChanges [.planner, .packs, .lines, .fault, .link] s (startProbe s) := by
  intro b; cases b <;> simp [sameBlock, startProbe]

theorem publishRef_onlyChanges (v a : Int) : OnlyChanges [.planner] s (publishRef v a s) := State.onPlanner_onlyChanges s _

/-- The step that begins the probe creep moves v_ref in it (log entry 33). -/
theorem plannerStep_probe (hm : s.planner.mode = .loading) (hs : s.planner.sub = some .takeUp) (h : 40 ≤ armRunNext s) :
    ∃ v a, plannerStep s = publishRef v a (startProbe s) := by
  have hprobe := startProbe_planner hm
  have hmode : (startProbe s).planner.mode = .loading := by rw [hprobe]; exact hm
  have hmove : moveRef (startProbe s) = runProfile (startProbe s) := by
    rw [moveRef_loading hmode, if_pos (by rw [hprobe])]
  have hstep : plannerStep s = runProfile (startProbe s) := by
    rw [plannerStep, plannerEvents_takeUp hm hs, takeUpStep_probe h, hmove,
      noteCues_other (by simp [hmode]) (by simp [hmode]) (by simp [hmode])]
  exact ⟨_, _, hstep.trans (runProfile_of_ne (by simp [hmode]))⟩

theorem failLoad_stage (cause : ModeCause) (s : State) :
    (failLoad cause s).planner.sub = none ∧ (failLoad cause s).planner.stageTimer = none ∧ (failLoad cause s).lines.pinch = false := by
  simp [failLoad]

theorem enterIdle_brake (cause : ModeCause) (s : State) : (enterIdle cause s).planner.brake = s.planner.brake.toApply := by
  have hmismatch (u : State) : (clearMismatch u).planner.brake = u.planner.brake := by
    unfold clearMismatch; split <;> simp [recomputeLimits]
  have hmarks (u : State) : (clearMarks u).planner = { u.planner with missed := [], autoStopCap := false } := rfl
  simp [enterIdle, hmarks, hmismatch]

end Loading

/-- Settles O51: the completions of the brakes, then TAKE_UP by its arm run and its timer. -/
theorem loadingRunsThroughItsStages : Obligations.LoadingRunsThroughItsStages := by
  intro s hh
  refine ⟨fun hb => ?still, fun hb => ⟨fun hr => ?released, fun hm hs hen harms => ?takeUp⟩,
    fun hb => ⟨fun hr => ?applied, fun hm hs => ?idle⟩,
    fun hm hs => ⟨?fails, fun hrun harms => ?probes, fun hquiet => ?waits⟩, fun hother => ?elsewhere⟩
  case still =>
    rw [exec_brakeComplete hh]
    rcases hb with hb | hb <;> simp [brakeComplete, hb]
  case released => rw [exec_brakeComplete hh, brakeComplete_releasing hb, if_neg hr]
  case takeUp =>
    obtain ⟨hplanner, hservo, hchanges⟩ := startTakeUp_good (s := s.onPlanner fun p => { p with brake := .released })
      (by simpa using hm) (by simpa using hen) (by simpa using harms)
    refine ⟨_, (exec_brakeComplete hh).trans (by rw [brakeComplete_releasing hb, if_pos ⟨hm, hs⟩]), ?_, hplanner, ?_, fun r => ?_⟩
    · exact ((State.onPlanner_onlyChanges s _).mono (by simp)).trans hchanges
    · rw [hservo]; rfl
    · rw [hservo]; exact Servo.enable_reel _ r
  case applied => rw [exec_brakeComplete hh, brakeComplete_applying hb, if_neg hr]
  case idle =>
    obtain ⟨hmode, hsub, -, -, -, hdrives, -, -, -, -, -, hlock, hrecord⟩ :=
      enterIdle_rest (s.onPlanner fun p => { p with brake := .applied }) .complete
    obtain ⟨ha0, hmismatch, hpack, -⟩ := enterIdle_packs (s.onPlanner fun p => { p with brake := .applied }) .complete
    exact ⟨_, (exec_brakeComplete hh).trans (by rw [brakeComplete_applying hb, if_pos ⟨hm, hs⟩]), hmode, hsub,
      enterIdle_brake _ _, hdrives, hpack, ha0, hmismatch, hlock, by simp, by simp, hrecord⟩
  case fails =>
    obtain ⟨hmode, hdrives, -, hlineS, hlineT, -, hv, hrecord⟩ := failLoad_rest s .loadFailed
    obtain ⟨hsub, htimer, hpinch⟩ := failLoad_stage .loadFailed s
    refine ⟨failLoad .loadFailed s, (exec_loadTimeout hh).trans (by rw [if_pos ⟨hm, hs⟩]), ?_, hmode, hsub, hdrives, htimer, hv, hlineS,
      hlineT, hpinch, hrecord⟩
    intro b; cases b <;> simp [sameBlock]
  case probes =>
    have hreach : 40 ≤ armRunNext s := by simp [armRunNext, armsSteady_iff.2 harms, hrun]
    obtain ⟨v, a, hstep⟩ := plannerStep_probe hm hs hreach
    have hplanner := startProbe_planner hm
    refine ⟨plannerStep s, (exec_loadTakeUpDone hh).trans (by rw [if_pos (takeUpFalls_iff.2 ⟨hm, hs, hreach⟩)]), exec_plannerStep hh, ?_⟩
    rw [hstep]
    refine ⟨startProbe_onlyChanges.trans ((publishRef_onlyChanges v a).mono (by simp)), ?_⟩
    rw [publishRef, State.onPlanner_planner, State.onPlanner_packs, hplanner]
    exact ⟨hm, rfl, by cases s.planner.creep <;> rfl, rfl, rfl, startProbe_packs⟩
  case waits =>
    have hbelow : ¬40 ≤ armRunNext s := by
      unfold armRunNext
      split
      next hsteady =>
        rcases hquiet with hrun | ⟨r, hr⟩
        · omega
        · exact absurd (armsSteady_iff.1 hsteady r) (by omega)
      next => omega
    rw [exec_loadTakeUpDone hh, if_neg fun h => hbelow (takeUpFalls_iff.1 h).2.2]
  case elsewhere =>
    refine ⟨by rw [exec_loadTimeout hh, if_neg hother], ?_⟩
    rw [exec_loadTakeUpDone hh, if_neg fun h => hother ⟨(takeUpFalls_iff.1 h).1, (takeUpFalls_iff.1 h).2.1⟩]

end Sys2Proof.Machine

namespace Sys2Proof.Machine

/-! ## One step of the profile (R101) -/

section Profile

variable {v t k acc dec : Int}

theorem moveToward_up (h : v < t) : moveToward v t k = min t (v + k) := by
  unfold moveToward mag
  split <;> omega

theorem moveToward_down (h : t < v) : moveToward v t k = max t (v - k) := by
  unfold moveToward mag
  split <;> omega

theorem moveToward_self (h : 0 ≤ k) : moveToward v v k = v := by
  unfold moveToward mag
  rw [if_pos (by omega)]

/-- v of a step, and a_ref by its sign (R101). -/
theorem profileStep_of {w k : Int} (hk : k = if 0 ≤ v * t ∧ mag v < mag t then acc else dec)
    (hw : moveToward v (if v * t < 0 then 0 else t) (k / 4) = w) :
    profileStep v t acc dec = (w, if w = v then 0 else if v < w then k else -k) := by
  subst hw
  unfold profileStep
  by_cases hacc : 0 ≤ v * t ∧ mag v < mag t
  · rw [if_pos hacc] at hk ⊢
    rw [if_neg (not_lt.2 hacc.1), hk]
    rfl
  · rw [if_neg hacc] at hk ⊢
    rw [hk]
    rfl

/-- Where v has not the sign opposite to the target's, and more magnitude to gain, it gains speed. -/
theorem profileStep_faster (hs : 0 ≤ v * t) (hm : mag v < mag t) (ha : 4 ≤ acc) :
    profileStep v t acc dec = if 0 < t then (min t (v + acc / 4), acc) else (max t (v - acc / 4), -acc) := by
  have hk : acc = if 0 ≤ v * t ∧ mag v < mag t then acc else dec := (if_pos ⟨hs, hm⟩).symm
  have hnot : ¬v * t < 0 := not_lt.2 hs
  unfold mag at hm
  by_cases ht : 0 < t
  · have hv : v < t := by omega
    rw [profileStep_of hk (by rw [if_neg hnot, moveToward_up hv]), if_pos ht, if_neg (by omega), if_pos (by omega)]
  · have hv : t < v := by omega
    rw [profileStep_of hk (by rw [if_neg hnot, moveToward_down hv]), if_neg ht, if_neg (by omega), if_neg (by omega)]

/-- Of one sign with the target and of more magnitude, v loses speed. -/
theorem profileStep_slower (hs : 0 ≤ v * t) (hm : mag t < mag v) (hd : 4 ≤ dec) :
    profileStep v t acc dec = if 0 < v then (max t (v - dec / 4), -dec) else (min t (v + dec / 4), dec) := by
  have hk : dec = if 0 ≤ v * t ∧ mag v < mag t then acc else dec := (if_neg (by omega)).symm
  have hnot : ¬v * t < 0 := not_lt.2 hs
  unfold mag at hm
  by_cases hv : 0 < v
  · have ht : t < v := by omega
    rw [profileStep_of hk (by rw [if_neg hnot, moveToward_down ht]), if_pos hv, if_neg (by omega), if_neg (by omega)]
  · have ht : v < t := by omega
    rw [profileStep_of hk (by rw [if_neg hnot, moveToward_up ht]), if_neg hv, if_neg (by omega), if_pos (by omega)]

/-- Away from the target's sign, v goes toward 0 first. -/
theorem profileStep_turning (hs : v * t < 0) (hd : 4 ≤ dec) :
    profileStep v t acc dec = if 0 < v then (max 0 (v - dec / 4), -dec) else (min 0 (v + dec / 4), dec) := by
  have hk : dec = if 0 ≤ v * t ∧ mag v < mag t then acc else dec := (if_neg fun h => not_lt.2 h.1 hs).symm
  have hv0 : v ≠ 0 := by rintro rfl; simp at hs
  by_cases hv : 0 < v
  · rw [profileStep_of hk (by rw [if_pos hs, moveToward_down hv]), if_pos hv, if_neg (by omega), if_neg (by omega)]
  · have hneg : v < 0 := by omega
    rw [profileStep_of hk (by rw [if_pos hs, moveToward_up hneg]), if_neg hv, if_neg (by omega), if_pos (by omega)]

/-- At the target v stays. -/
theorem profileStep_steady (hd : 0 ≤ dec) : profileStep v v acc dec = (v, 0) := by
  have hk : dec = if 0 ≤ v * v ∧ mag v < mag v then acc else dec := (if_neg (by omega)).symm
  have hsq : ¬v * v < 0 := not_lt.2 (mul_self_nonneg v)
  rw [profileStep_of hk (by rw [if_neg hsq, moveToward_self (by omega)]), if_pos rfl]

/-- The magnitude that a step toward 0 takes away. -/
theorem profileStep_braking {d : Dir} (hv : dirOf v = some d) (hd : 4 ≤ dec) (hm : dec / 4 < mag v) :
    profileStep v 0 acc dec = (if d = .forward then v - dec / 4 else v + dec / 4, if d = .forward then -dec else dec) := by
  have hzero : mag (0 : Int) < mag v := by unfold mag at *; omega
  rw [profileStep_slower (by simp) hzero hd]
  unfold mag at hm
  unfold dirOf at hv
  split at hv
  next hpos => cases hv; rw [if_pos hpos, if_pos rfl, if_pos rfl, max_eq_right (by omega)]
  next hpos =>
    split at hv
    next hneg => cases hv; rw [if_neg hpos, if_neg nofun, if_neg nofun, min_eq_right (by omega)]
    next => cases hv

/-- The last step toward 0. -/
theorem profileStep_halting {d : Dir} (hv : dirOf v = some d) (hd : 4 ≤ dec) (hm : mag v ≤ dec / 4) :
    (profileStep v 0 acc dec).1 = 0 := by
  have hv0 : v ≠ 0 := by rintro rfl; cases hv
  have hzero : mag (0 : Int) < mag v := by unfold mag; omega
  rw [profileStep_slower (by simp) hzero hd]
  unfold mag at hm
  split
  · exact max_eq_left (by omega)
  · exact min_eq_left (by omega)

end Profile

/-! ## What a step does after its events -/

section AfterEvents

variable {s : State}

/-- The part of a planner step that follows what falls at it: v_ref moves, and the cues are taken up. -/
def afterEvents (s : State) : State := noteCues (moveRef s)

theorem plannerStep_eq (s : State) : plannerStep s = afterEvents (plannerEvents s) := rfl

/-- v_ref and a_ref of a step in a profile mode, by the state of the pinch. -/
def refStep (s : State) : Int × Int :=
  match s.planner.pinch with
  | .opened => profileStep s.planner.vRef (goalEff s * 1000) (accelRate s) (decelRate s)
  | .opening => (s.planner.vRef, 0)
  | .closing | .closed => (s.capstan.vPlay, 0)

theorem refStep_opened (hp : s.planner.pinch = .opened) :
    refStep s = profileStep s.planner.vRef (goalEff s * 1000) (accelRate s) (decelRate s) := by
  simp [refStep, hp]

theorem refStep_opening (hp : s.planner.pinch = .opening) : refStep s = (s.planner.vRef, 0) := by simp [refStep, hp]

theorem refStep_closed (hp : s.planner.pinch.commandedClosed = true) : refStep s = (s.capstan.vPlay, 0) := by
  unfold refStep
  split <;> simp_all [PinchState.commandedClosed]

/-- Where no cue is judged, a profile mode's step publishes v_ref and a_ref (R101). -/
theorem refByPinch_eq (h : s.planner.mode ≠ .wind ∨ s.planner.pinch ≠ .opened) :
    refByPinch s = publishRef (refStep s).1 (refStep s).2 s := by
  cases hp : s.planner.pinch with
  | opened => rw [refStep_opened hp]; simp only [refByPinch, hp]; exact runProfile_of_ne (h.resolve_right (not_not.2 hp))
  | opening => rw [refStep_opening hp]; simp only [refByPinch, hp]; rfl
  | closing | closed => rw [refStep_closed (by rw [hp]; rfl)]; simp only [refByPinch, hp]; rfl

@[simp] theorem publishRef_planner (v a : Int) (s : State) : (publishRef v a s).planner = { s.planner with vRef := v, aRef := a } := rfl

theorem afterEvents_still (hm : s.planner.mode = .idle ∨ s.planner.mode = .hold ∨ s.planner.mode = .unloading ∨
    s.planner.mode = .braking ∨ s.planner.mode = .braked) : afterEvents s = publishRef 0 0 s := by
  have hmove : moveRef s = publishRef 0 0 s := by rcases hm with h | h | h | h | h <;> simp [moveRef, h]
  rw [afterEvents, hmove]
  apply noteCues_other <;> rcases hm with h | h | h | h | h <;> simp [h]

theorem afterEvents_loading (hm : s.planner.mode = .loading) :
    afterEvents s = if s.planner.sub = some .probeCreep then runProfile s else publishRef 0 0 s := by
  have hmode : (moveRef s).planner.mode = .loading := by
    rw [moveRef_loading hm]
    split <;> simp [hm]
  rw [afterEvents, noteCues_other (by simp [hmode]) (by simp [hmode]) (by simp [hmode]), moveRef_loading hm]

/-- The modes of the unit steps: v_ref alone moves. -/
theorem afterEvents_unit (hm : s.planner.mode = .locate ∨ s.planner.mode = .survey ∨ s.planner.mode = .chase) :
    afterEvents s = publishRef (refStep s).1 (refStep s).2 s := by
  have hne : s.planner.mode ≠ .wind := by rcases hm with h | h | h <;> simp [h]
  have hmove : moveRef s = publishRef (refStep s).1 (refStep s).2 s := by
    rw [← refByPinch_eq (.inl hne)]
    rcases hm with h | h | h <;> simp [moveRef, h]
  rw [afterEvents, hmove]
  apply noteCues_other <;> rcases hm with h | h | h <;> simp [h]

/-- The memories of the AUTO_STOP cues after a step that takes them up in no PLAY (R120). -/
theorem noteCues_takes (hm : s.planner.mode = .wind ∨ s.planner.mode = .engaging) :
    noteCues s = s.onPlanner fun p => { p with inForce := autoStops s.cues.list, seen := [] } := by
  have hplay : playCues s = [] := playCues_of_ne (by rcases hm with h | h <;> simp [h])
  rcases hm with h | h <;> simp [noteCues, h, hplay]

theorem afterEvents_engaging (hm : s.planner.mode = .engaging) :
    afterEvents s = s.onPlanner fun p =>
      { p with goal := playGoal s, vRef := (refStep (s.onPlanner fun p => { p with goal := playGoal s })).1
               aRef := (refStep (s.onPlanner fun p => { p with goal := playGoal s })).2
               inForce := autoStops s.cues.list, seen := [] } := by
  have hmove : moveRef s = refByPinch (s.onPlanner fun p => { p with goal := playGoal s }) := by simp [moveRef, hm]
  rw [afterEvents, hmove, refByPinch_eq (.inl (by simp [hm])), noteCues_takes (.inr (by simp [hm]))]
  rfl

theorem afterEvents_play (hm : s.planner.mode = .play) :
    afterEvents s = s.onPlanner fun p =>
      { p with vRef := s.capstan.vPlay, aRef := 0, inForce := autoStops s.cues.list, seen := (playCues s).map Cue.key } := by
  have hmove : moveRef s = publishRef s.capstan.vPlay 0 s := by simp [moveRef, hm, followCapstan]
  have hcues : playCues (publishRef s.capstan.vPlay 0 s) = playCues s := rfl
  rw [afterEvents, hmove]
  simp only [noteCues, publishRef_planner, hm, or_true, if_true, hcues]
  rfl

/-- In STOPPING with the pinch OPEN, the profile runs toward 0, and the stop ends where it gets there (R99). -/
theorem afterEvents_stopping (hm : s.planner.mode = .stopping) (hp : s.planner.pinch = .opened) :
    afterEvents s =
      if (refStep s).1 = 0 then endStop (publishRef (refStep s).1 (refStep s).2 s)
      else publishRef (refStep s).1 (refStep s).2 s := by
  have hrun : runProfile s = publishRef (refStep s).1 (refStep s).2 s := by
    rw [refStep_opened hp]
    exact runProfile_of_ne (by simp [hm])
  have hends (u : State) : (endStop u).planner.mode = .hold := by
    have hauto (w : State) : (postAutoStop w).planner = w.planner := by unfold postAutoStop; split <;> simp
    have hzone (w : State) : (postZoneBlocked w).planner = w.planner := by unfold postZoneBlocked; split <;> simp [zoneNotice]
    have hhold (cause : ModeCause) : (enterHold cause u).planner.mode = .hold := by simp [enterHold]
    unfold endStop
    dsimp only
    split
    · rw [hauto, hhold]
    · rw [hzone, hhold]
    · exact hhold _
  have hmove : moveRef s = if (refStep s).1 = 0 then endStop (publishRef (refStep s).1 (refStep s).2 s)
      else publishRef (refStep s).1 (refStep s).2 s := by
    simp [moveRef, hm, hp, hrun]
  rw [afterEvents, hmove]
  split
  · exact noteCues_other (by simp [hends]) (by simp [hends]) (by simp [hends])
  · exact noteCues_other (by simp [hm]) (by simp [hm]) (by simp [hm])

theorem goalEff_stopping (hm : s.planner.mode = .stopping) : goalEff s = 0 := by simp [goalEff, hm, Mode.looksAhead]

theorem travel_of_dir {d : Dir} (h : dirOf s.planner.vRef = some d) : s.planner.travel = some d := by
  have hv : s.planner.vRef ≠ 0 := fun h0 => by rw [h0] at h; cases h
  rw [Planner.travel, if_neg hv, h]

/-- a_lim of a stop (R99). -/
theorem decelRate_stopping {d : Dir} (hm : s.planner.mode = .stopping) (h : dirOf s.planner.vRef = some d) :
    decelRate s = if s.planner.stopInForce = some .fast then s.planner.torque.dec d else aDecEff s d := by
  simp [decelRate, hm, Mode.looksAhead, travelDec, travel_of_dir h]

/-- A stop whose rate does not yet bring v_ref to 0 goes on. -/
theorem stopping_moves {d : Dir} {a : Int} (hm : s.planner.mode = .stopping) (hp : s.planner.pinch = .opened)
    (hd : dirOf s.planner.vRef = some d)
    (ha : a = if s.planner.stopInForce = some .fast then s.planner.torque.dec d else aDecEff s d) (h4 : 4 ≤ a)
    (hlt : a / 4 < mag s.planner.vRef) :
    afterEvents s =
      publishRef (if d = .forward then s.planner.vRef - a / 4 else s.planner.vRef + a / 4) (if d = .forward then -a else a) s := by
  have href : refStep s = (if d = .forward then s.planner.vRef - a / 4 else s.planner.vRef + a / 4, if d = .forward then -a else a) := by
    rw [refStep_opened hp, goalEff_stopping hm, decelRate_stopping hm hd, ← ha]
    exact profileStep_braking hd h4 hlt
  have hne : ¬(if d = .forward then s.planner.vRef - a / 4 else s.planner.vRef + a / 4) = 0 := by
    unfold mag at hlt
    split <;> omega
  rw [afterEvents_stopping hm hp, href, if_neg hne]

/-- A stop that comes to rest at this step ends. -/
theorem stopping_ends (hm : s.planner.mode = .stopping) (hp : s.planner.pinch = .opened)
    (h : (s.planner.vRef = 0 ∧ s.planner.goal = 0) ∨
      ∃ (d : Dir) (a : Int), dirOf s.planner.vRef = some d ∧ 4 ≤ a ∧ mag s.planner.vRef ≤ a / 4 ∧
        a = (if s.planner.stopInForce = some .fast then s.planner.torque.dec d else aDecEff s d)) :
    ∃ a, afterEvents s = endStop (publishRef 0 a s) := by
  have href : (refStep s).1 = 0 := by
    rw [refStep_opened hp, goalEff_stopping hm]
    rcases h with ⟨hv, hg⟩ | ⟨d, a, hd, h4, hle, ha⟩
    · have hrate : decelRate s = 0 := by
        simp [decelRate, hm, Mode.looksAhead, travelDec, Planner.travel, hv, hg, dirOf]
      rw [hv, hrate]
      exact congrArg Prod.fst (profileStep_steady (v := 0) (Int.le_refl 0))
    · rw [decelRate_stopping hm hd, ← ha]
      exact profileStep_halting hd h4 hle
  refine ⟨(refStep s).2, ?_⟩
  rw [afterEvents_stopping hm hp, if_pos href, href]

end AfterEvents
end Sys2Proof.Machine

namespace Sys2Proof.Machine

/-! ## What a stop that begins, and one that ends, leave -/

section Stops

variable {s : State}

theorem Link.posted_one (l : Link) (n : Notice) : l.posted [n] = txTake (enqueueNotice n l) := rfl

theorem Link.posted_two (l : Link) (n m : Notice) : l.posted [n, m] = (l.posted [n]).posted [m] := rfl

/-- RECORD_INHIBIT follows a change of mode (R118). -/
theorem setMode_lines_of_ne {m : Mode} (sub : Option SubStage) (cause : ModeCause) (h : s.planner.mode ≠ m) :
    (setMode m sub cause s).lines =
      { s.lines with recordInhibit :=
          s.zones.current.inhibit || !(m == .play || (m == .chase && s.chase.state == .locked)) } := by
  simp [setMode, h, refreshInhibit, inhibitLevel]

theorem setMode_posts_of_ne {m : Mode} (sub : Option SubStage) (cause : ModeCause) (h : s.planner.mode ≠ m) :
    (setMode m sub cause s).link = s.link.posted [.mode m sub s.planner.mode s.planner.stopInForce cause] :=
  setMode_posts fun hsame => h hsame.1

theorem beginStopping_planner_eq (sev : Severity) (cause : StopCause) (h : s.planner.mode ≠ .stopping) :
    (beginStopping sev cause s).planner =
      { s.planner with
        mode := .stopping, sub := none, stopInForce := some sev, stopCause := some cause, goal := 0, matchTimer := none
        pinch := s.planner.pinch.toOpen, unitPoints := [], autoStopCap := false } := by
  refine (setMode_planner_of_ne _ none (modeCauseOf cause) ?_).trans rfl
  exact h

theorem beginStopping_link (sev : Severity) (cause : StopCause) (h : s.planner.mode ≠ .stopping) :
    (beginStopping sev cause s).link =
      s.link.posted [.mode .stopping none s.planner.mode (some sev) (modeCauseOf cause)] := by
  refine (setMode_posts_of_ne none (modeCauseOf cause) ?_).trans rfl
  exact h

/-- A stop for neither a zone nor a cue leaves no pending record (R98). -/
theorem beginStopping_pending (sev : Severity) {cause : StopCause} (hz : cause ≠ .zone) (ha : cause ≠ .autoStop) :
    (beginStopping sev cause s).zones = { s.zones with pendingBlock := none } ∧
      (beginStopping sev cause s).cues = { s.cues with pendingStop := none } := by
  simp [beginStopping, publishStopCause, hz, ha]

@[simp] theorem beginStopping_record (sev : Severity) (cause : StopCause) :
    (beginStopping sev cause s).fault.record = s.fault.record := by
  simp [beginStopping]

theorem beginStopping_onlyChanges (sev : Severity) (cause : StopCause) :
    OnlyChanges [.planner, .zones, .cues, .lines, .fault, .link] s (beginStopping sev cause s) := by
  intro b; cases b <;> simp [sameBlock]

theorem enterHold_planner_eq (cause : ModeCause) (h : s.planner.mode ≠ .hold) :
    (enterHold cause s).planner =
      { s.planner with
        mode := .hold, sub := none, stopInForce := none, stopCause := none, goal := 0, matchTimer := none
        pinch := s.planner.pinch.toOpen, unitPoints := [], autoStopCap := false } := by
  refine (setMode_planner_of_ne _ none cause ?_).trans rfl
  exact h

theorem enterHold_link (cause : ModeCause) (h : s.planner.mode ≠ .hold) :
    (enterHold cause s).link = s.link.posted [.mode .hold none s.planner.mode none cause] := by
  refine (setMode_posts_of_ne none cause ?_).trans rfl
  exact h

@[simp] theorem enterHold_record (cause : ModeCause) : (enterHold cause s).fault.record = s.fault.record := by
  simp [enterHold]

/-- What the end of a running chase does (R146). -/
theorem endChase_running (cause : ChaseCause) (h : s.chase.state ≠ .off) :
    (endChase cause s).planner = { s.planner with unitPoints := [] } ∧
      (endChase cause s).chase = { s.chase with state := .off, master := none, silence := none } ∧
      (endChase cause s).capstan = { s.capstan with trim := 0 } ∧
      (endChase cause s).locate = s.locate.filter (fun l => l.owner ≠ .chase) ∧
      (endChase cause s).link =
        s.link.posted [.chase .off s.chase.state cause s.chase.e 0 s.chase.lead s.chase.doublings] := by
  have howner (o : LocateOwner) : (o != .chase) = !decide (o = .chase) := by cases o <;> rfl
  simp [endChase, h, howner, setChaseState, refreshInhibit, dropLocateOf, Link.posted_one]

end Stops

/-! ## The speed match (R94) -/

section Match

variable {s : State}

theorem matching_iff :
    matching s = true ↔
      (s.planner.mode = .engaging ∨ (s.planner.mode = .chase ∧ s.chase.state = .runup)) ∧ s.planner.pinch = .opened := by
  simp [matching]

theorem exec_engageMatch (h : s.held = none) : exec .engageMatch s = .next (if matchFalls s then plannerStep s else s) :=
  whileRunning_of_running h

theorem exec_pinchCloseCommand (h : s.held = none) :
    exec .pinchCloseCommand s = .next (if matching s && closesNow s then plannerStep s else s) :=
  whileRunning_of_running h

/-- The stop in which an engagement fails (R94). -/
def engagementFailed (s : State) : State :=
  stopDemand .controlled .engageFailed (s.onPlanner fun p => { p with matchTimer := none })

theorem exec_engageTimeout (h : s.held = none) :
    exec .engageTimeout s = .next (if matching s && s.planner.matchTimer.isSome then engagementFailed s else s) :=
  whileRunning_of_running h

theorem exec_pinchComplete (h : s.held = none) : exec .pinchComplete s = .next (pinchComplete s) := whileRunning_of_running h

theorem speedMatched_iff : speedMatched s = true ↔ (mag (s.tach.vMeas - s.capstan.vPlay) : Int) ≤ s.capstan.vPlay / 100 := by
  rw [speedMatched, decide_eq_true_iff]
  rfl

theorem LockState.fit_iff (l : LockState) : l.fit = true ↔ l = .locked ∨ l = .holdover := by simp [fit]

theorem matchRunNext_eq {near : Prop} {run : Nat}
    (hnear : near ↔ (mag (s.tach.vMeas - s.capstan.vPlay) : Int) ≤ s.capstan.vPlay / 100)
    (hrun : (near → run = min 40 (s.planner.matchRun + 1)) ∧ (¬near → run = 0)) : matchRunNext s = run := by
  rw [← speedMatched_iff] at hnear
  unfold matchRunNext
  split
  next h => rw [hrun.1 (hnear.2 h)]
  next h => rw [hrun.2 (mt hnear.1 h)]

theorem matchTimerNext_eq :
    matchTimerNext s =
      if s.planner.matchTimer = none ∧ matchRunNext s = 40 then some 0 else s.planner.matchTimer.map (· + 1) := by
  unfold matchTimerNext
  split
  next n h => simp [h]
  next h => simp [h]

theorem closesNow_iff : closesNow s = true ↔ matchRunNext s = 40 ∧ s.capstan.lock.fit = true := by simp [closesNow]

theorem matchStep_closes (h : closesNow s = true) :
    matchStep s = closePinch (s.onPlanner fun p => { p with matchRun := 40, matchTimer := none }) := if_pos h

theorem matchStep_fails (h : closesNow s = false) {k : Nat} (hk : s.planner.matchTimer = some k) (h12 : 12000 ≤ k + 1) :
    matchStep s = engagementFailed s := by
  have htimer : matchTimerNext s = some (k + 1) := by simp [matchTimerNext, hk]
  unfold matchStep
  rw [if_neg (by simp [h]), if_pos (by simpa [htimer, stageLimit] using h12)]
  rfl

theorem matchStep_counts (h : closesNow s = false) (ht : ∀ k, matchTimerNext s = some k → k < 12000) :
    matchStep s = s.onPlanner fun p => { p with matchRun := matchRunNext s, matchTimer := matchTimerNext s } := by
  have hany : ¬(matchTimerNext s).any (stageLimit ≤ ·) = true := by
    cases hn : matchTimerNext s with
    | none => simp
    | some k =>
      rw [Option.any_some, decide_eq_true_iff]
      exact Nat.not_le.2 (ht k hn)
  unfold matchStep
  rw [if_neg (by simp [h]), if_neg hany]

/-- With the pinch OPEN its own travel adds nothing to the stopping distance (R106). -/
theorem pinchDistance_opened (hp : s.planner.pinch = .opened) : pinchDistance s = 0 := by
  simp [pinchDistance, hp, PinchState.commandedClosed]

/-- A zone or a cue in the way is all that a play stop point is (R106). -/
theorem checkPlayStops_clear (hp : playCues s = [])
    (hz : ∀ n ∈ forbiddenPoints s, pinchDistance s + stopDistance s (aDecEff s .forward) < (n : Int)) : checkPlayStops s = s := by
  have hdrop : dropPlayCues s = s := by simp [dropPlayCues, hp]
  have hany : ¬((forbiddenPoints s).any fun n => (n : Int) ≤ pinchDistance s + stopDistance s (aDecEff s .forward)) = true := by
    simpa using hz
  unfold checkPlayStops
  dsimp only
  rw [hdrop, if_neg hany, hp]
  rfl

/-- In ENGAGING with a clear path, and in a chase with the pinch OPEN, no play stop point is met. -/
theorem checkPlayStops_matching (hm : matching s = true) (hclear : s.planner.mode = .engaging → ForwardPathClear s) :
    checkPlayStops s = s := by
  obtain ⟨hmode, hp⟩ := matching_iff.1 hm
  refine checkPlayStops_clear (playCues_of_ne (by rcases hmode with h | ⟨h, -⟩ <;> simp [h])) ?_
  rcases hmode with he | ⟨hc, -⟩
  · simp only [forbiddenPoints, he, List.forall_mem_map]
    intro b hb
    simpa [pinchDistance_opened hp, stopDistance, distanceTo, Planner.speed] using hclear he b hb
  · simp [forbiddenPoints, hc, hp, PinchState.commandedClosed]

theorem plannerEvents_matching (hm : matching s = true) (hclear : s.planner.mode = .engaging → ForwardPathClear s) :
    plannerEvents s = matchStep s := by
  have hstop := checkPlayStops_matching hm hclear
  obtain ⟨hmode, -⟩ := matching_iff.1 hm
  unfold plannerEvents
  rcases hmode with he | ⟨hc, -⟩
  · simp only [he, hstop, hm, if_true]
  · simp only [hc, hstop, hm, if_true]

end Match
end Sys2Proof.Machine

namespace Sys2Proof.Machine

/-! ## Obligation O52 -/

section Engagement

variable {s : State}

theorem engagementFailed_of_engaging (hm : s.planner.mode = .engaging) (hn : s.planner.stopInForce = none) :
    engagementFailed s = beginStopping .controlled .engageFailed (s.onPlanner fun p => { p with matchTimer := none }) := by
  refine (stopDemand_begins (sev := .controlled) (s := s.onPlanner fun p => { p with matchTimer := none }) .engageFailed ?_ hn nofun).trans ?_
  · simp [hm, Mode.startsStop]
  · simp [endUnit, hm]

theorem engagementFailed_of_chase (hm : s.planner.mode = .chase) (hn : s.planner.stopInForce = none) :
    engagementFailed s =
      beginStopping .controlled .engageFailed (endChase .engageFailed (s.onPlanner fun p => { p with matchTimer := none })) := by
  refine (stopDemand_begins (sev := .controlled) (s := s.onPlanner fun p => { p with matchTimer := none }) .engageFailed ?_ hn nofun).trans ?_
  · simp [hm, Mode.startsStop]
  · simp [endUnit, hm, chaseCauseOf]

/-- What a failed engagement does where it began in ENGAGING. -/
theorem engagementFails_engaging (hm : s.planner.mode = .engaging) (hp : s.planner.pinch = .opened)
    (hn : s.planner.stopInForce = none) : EngagementFails s (engagementFailed s) := by
  have hne : (s.onPlanner fun p => { p with matchTimer := none }).planner.mode ≠ .stopping := by simp [hm]
  obtain ⟨hzones, hcues⟩ := beginStopping_pending (s := s.onPlanner fun p => { p with matchTimer := none }) .controlled
    (cause := .engageFailed) nofun nofun
  rw [engagementFailed_of_engaging hm hn]
  refine ⟨?_, hzones, hcues, by simp, fun _ => ⟨?_, ?_⟩, fun h => absurd (hm.symm.trans h) nofun⟩
  · rw [beginStopping_planner_eq _ _ hne]
    simp [hp, PinchState.toOpen]
  · exact ((State.onPlanner_onlyChanges s _).mono (by simp)).trans (beginStopping_onlyChanges .controlled .engageFailed)
  · rw [beginStopping_link _ _ hne]
    simp [hm, modeCauseOf]

/-- What it does where it began in the run-up of a chase (R146). -/
theorem engagementFails_runup (hm : s.planner.mode = .chase) (hc : s.chase.state = .runup) (hp : s.planner.pinch = .opened)
    (hn : s.planner.stopInForce = none) : EngagementFails s (engagementFailed s) := by
  obtain ⟨hplanner, hchase, hcapstan, hlocate, hlink⟩ :=
    endChase_running (s := s.onPlanner fun p => { p with matchTimer := none }) .engageFailed (by simp [hc])
  have hne : (endChase .engageFailed (s.onPlanner fun p => { p with matchTimer := none })).planner.mode ≠ .stopping := by
    simp [hplanner, hm]
  obtain ⟨hzones, hcues⟩ := beginStopping_pending (s := endChase .engageFailed (s.onPlanner fun p => { p with matchTimer := none }))
    .controlled (cause := .engageFailed) nofun nofun
  rw [engagementFailed_of_chase hm hn]
  refine ⟨?_, ?_, ?_, by simp, fun h => absurd (hm.symm.trans h) nofun, fun _ => ⟨?_, ?_, ?_, ?_, ?_⟩⟩
  · rw [beginStopping_planner_eq _ _ hne, hplanner]
    simp [hp, PinchState.toOpen]
  · simpa using hzones
  · simpa using hcues
  · intro b; cases b <;> simp [sameBlock]
  · simpa using hchase
  · simpa using hcapstan
  · simpa using hlocate
  · rw [beginStopping_link _ _ hne, hlink, Link.posted_two]
    simp [hplanner, hm, hc, modeCauseOf]

theorem engagementFails (hm : matching s = true) (hn : s.planner.stopInForce = none) :
    EngagementFails s (engagementFailed s) := by
  obtain ⟨he | ⟨hc, hr⟩, hp⟩ := matching_iff.1 hm
  · exact engagementFails_engaging he hp hn
  · exact engagementFails_runup hc hr hp hn

/-- Whichever unit owned the engagement, its failure leaves what no unit owns. -/
theorem engagementFails_onlyChanges {t : State} (hm : matching s = true) (h : EngagementFails s t) :
    OnlyChanges [.planner, .zones, .cues, .locate, .chase, .capstan, .lines, .fault, .link] s t := by
  obtain ⟨-, -, -, -, hengaging, hchase⟩ := h
  obtain ⟨he | ⟨hc, -⟩, -⟩ := matching_iff.1 hm
  · exact (hengaging he).1.mono (by simp)
  · exact (hchase hc).1

/-- A planner step in STOPPING has no event of its own. -/
theorem plannerStep_stopping (hm : s.planner.mode = .stopping) : plannerStep s = afterEvents s := by
  rw [plannerStep_eq, plannerEvents]
  simp [hm]

/-- What a step of the engagement takes up: in ENGAGING the goal at v_play and the cues in force (R93, R120). -/
def takeUp (s : State) (p : Planner) : Planner :=
  if s.planner.mode = .engaging then { p with goal := playGoal s, inForce := autoStops s.cues.list, seen := [] } else p

theorem takeUp_engaging (hm : s.planner.mode = .engaging) :
    takeUp s = fun p => { p with goal := playGoal s, inForce := autoStops s.cues.list, seen := [] } :=
  funext fun _ => if_pos hm

theorem takeUp_chase (hm : s.planner.mode = .chase) : takeUp s = fun p => p := funext fun _ => if_neg (by simp [hm])

/-- After its events a step of the engagement takes up the cues and publishes v_ref, which is v_play with the pinch commanded closed. -/
theorem afterEvents_engagement (hm : s.planner.mode = .engaging ∨ s.planner.mode = .chase) :
    ∃ v a, afterEvents s = publishRef v a (s.onPlanner (takeUp s)) ∧
      (s.planner.pinch.commandedClosed = true → v = s.capstan.vPlay ∧ a = 0) := by
  rcases hm with hm | hm
  · refine ⟨(refStep (s.onPlanner fun p => { p with goal := playGoal s })).1,
      (refStep (s.onPlanner fun p => { p with goal := playGoal s })).2, ?_, fun hp => ?_⟩
    · rw [afterEvents_engaging hm, takeUp_engaging hm]; rfl
    · rw [refStep_closed (by exact hp)]; exact ⟨rfl, rfl⟩
  · refine ⟨(refStep s).1, (refStep s).2, ?_, fun hp => ?_⟩
    · rw [afterEvents_unit (.inr (.inr hm)), takeUp_chase hm]; rfl
    · rw [refStep_closed hp]; exact ⟨rfl, rfl⟩

theorem matching_mode (hm : matching s = true) : s.planner.mode = .engaging ∨ s.planner.mode = .chase :=
  (matching_iff.1 hm).1.imp_right And.left

/-- A step that commands the pinch closed (R94): v_ref is v_play from it on. -/
theorem plannerStep_closes (hm : matching s = true) (hclear : s.planner.mode = .engaging → ForwardPathClear s)
    (hc : closesNow s = true) :
    plannerStep s =
      (s.onPlanner fun p =>
          takeUp s { p with pinch := .closing, matchRun := 40, matchTimer := none, vRef := s.capstan.vPlay, aRef := 0 }).onLines
        fun l => { l with pinch := true } := by
  obtain ⟨-, hp⟩ := matching_iff.1 hm
  have hmode := matching_mode hm
  rw [plannerStep_eq, plannerEvents_matching hm hclear, matchStep_closes hc]
  obtain ⟨v, a, h, hv⟩ := afterEvents_engagement
    (s := closePinch (s.onPlanner fun p => { p with matchRun := 40, matchTimer := none })) hmode
  obtain ⟨rfl, rfl⟩ := hv (by simp)
  rw [h]
  rcases hmode with he | hchase
  · rw [takeUp_engaging he, takeUp_engaging (by exact he)]
    simp [closePinch, publishRef, State.onPlanner, State.onLines, hp, playGoal]
  · rw [takeUp_chase hchase, takeUp_chase (by exact hchase)]
    simp [closePinch, publishRef, State.onPlanner, State.onLines, hp]

/-- A step of the match that neither closes the pinch nor fails. -/
theorem plannerStep_counts (hm : matching s = true) (hclear : s.planner.mode = .engaging → ForwardPathClear s)
    (hc : closesNow s = false) (ht : ∀ k, matchTimerNext s = some k → k < 12000) :
    ∃ v a, plannerStep s = s.onPlanner fun p =>
      takeUp s { p with matchRun := matchRunNext s, matchTimer := matchTimerNext s, vRef := v, aRef := a } := by
  have hmode := matching_mode hm
  rw [plannerStep_eq, plannerEvents_matching hm hclear, matchStep_counts hc ht]
  obtain ⟨v, a, h, -⟩ := afterEvents_engagement
    (s := s.onPlanner fun p => { p with matchRun := matchRunNext s, matchTimer := matchTimerNext s }) hmode
  refine ⟨v, a, h.trans ?_⟩
  rcases hmode with he | hchase
  · rw [takeUp_engaging he, takeUp_engaging (by exact he)]; rfl
  · rw [takeUp_chase hchase, takeUp_chase (by exact hchase)]; rfl

theorem plannerStep_fails (hm : matching s = true) (hclear : s.planner.mode = .engaging → ForwardPathClear s)
    (hc : closesNow s = false) {k : Nat} (hk : s.planner.matchTimer = some k) (h12 : 12000 ≤ k + 1) :
    plannerStep s = afterEvents (engagementFailed s) := by
  rw [plannerStep_eq, plannerEvents_matching hm hclear, matchStep_fails hc hk h12]

/-- What a stop whose cause keeps no pending record leaves at its end (R99). -/
theorem endStop_plain {cause : StopCause} (hc : s.planner.stopCause = some cause) (hz : cause ≠ .zone) (ha : cause ≠ .autoStop) :
    endStop s = enterHold (modeCauseOf cause) s := by
  cases cause <;> simp_all [endStop]

theorem pinchComplete_closing (hp : s.planner.pinch = .closing) :
    pinchComplete s =
      if s.planner.mode = .engaging then setMode .play none .complete (s.onPlanner fun p => { p with pinch := .closed })
      else if s.planner.mode = .chase ∧ s.chase.state = .runup then enterMatch (s.onPlanner fun p => { p with pinch := .closed })
      else s.onPlanner fun p => { p with pinch := .closed } := by
  simp [pinchComplete, hp]

end Engagement

/-! The steps of an engagement that has failed: the stop moves v_ref toward 0 from the same step on (log entry 33). -/

section Failed

variable {s u : State}

/-- A failed engagement leaves v_ref, its rates and the pinch as they were. -/
theorem EngagementFails.rates (h : EngagementFails s u) (hm : matching s = true) :
    u.planner.mode = .stopping ∧ u.planner.pinch = .opened ∧ u.planner.vRef = s.planner.vRef ∧ u.planner.goal = 0 ∧
      u.planner.stopInForce = some .controlled ∧ u.planner.stopCause = some .engageFailed ∧
      (∀ d, aDecEff u d = aDecEff s d) ∧ u.held = s.held := by
  have hsame := engagementFails_onlyChanges hm h
  obtain ⟨-, hp⟩ := matching_iff.1 hm
  have hpacks : u.packs = s.packs := (hsame .packs).resolve_left (by decide)
  have hservo : u.servo = s.servo := (hsame .servo).resolve_left (by decide)
  have hheld : u.held = s.held := (hsame .held).resolve_left (by decide)
  obtain ⟨hplanner, -⟩ := h
  simp [hplanner, hp, aDecEff, hpacks, hservo, hheld]

/-- Until v_ref is at 0 the stop of a failed engagement goes on. -/
theorem EngagementFails.moves (h : EngagementFails s u) (hm : matching s = true) {d : Dir} {a : Int}
    (hd : dirOf s.planner.vRef = some d) (ha : a = aDecEff s d) (h4 : 4 ≤ a) (hlt : a / 4 < mag s.planner.vRef) :
    afterEvents u = u.onPlanner fun p =>
      { p with
        vRef := if d = .forward then s.planner.vRef - a / 4 else s.planner.vRef + a / 4
        aRef := if d = .forward then -a else a } := by
  obtain ⟨hmode, hpinch, hv, -, hstop, -, hrate, -⟩ := h.rates hm
  have hfast : a = if u.planner.stopInForce = some .fast then u.planner.torque.dec d else aDecEff u d := by
    rw [hstop, if_neg (by decide), hrate, ha]
  rw [stopping_moves hmode hpinch (by rw [hv]; exact hd) hfast h4 (by rw [hv]; exact hlt), hv]
  rfl

/-- At 0 it ends in HOLD (R99). -/
theorem EngagementFails.ends (h : EngagementFails s u) (hm : matching s = true)
    (hrest : s.planner.vRef = 0 ∨
      ∃ d, dirOf s.planner.vRef = some d ∧ 4 ≤ aDecEff s d ∧ (mag s.planner.vRef : Int) ≤ aDecEff s d / 4) :
    (afterEvents u).planner.mode = .hold ∧ (afterEvents u).planner.vRef = 0 ∧ (afterEvents u).planner.goal = 0 ∧
      (afterEvents u).planner.stopInForce = none ∧ (afterEvents u).planner.stopCause = none ∧
      (afterEvents u).planner.pinch = .opened ∧ (afterEvents u).chase = u.chase ∧ (afterEvents u).capstan = u.capstan ∧
      (afterEvents u).locate = u.locate ∧ (afterEvents u).fault.record = s.fault.record ∧
      (afterEvents u).link = u.link.posted [.mode .hold none .stopping none .engageFailed] := by
  obtain ⟨hmode, hpinch, hv, hgoal, hstop, hcause, hrate, -⟩ := h.rates hm
  obtain ⟨-, -, -, hrecord, -⟩ := h
  obtain ⟨a, hend⟩ := stopping_ends hmode hpinch <| hrest.imp (fun h0 => ⟨hv.trans h0, hgoal⟩)
    fun ⟨d, hd, h4, hle⟩ => ⟨d, aDecEff s d, by rw [hv]; exact hd, h4, by rw [hv]; exact hle, by
      rw [hstop, if_neg (by decide), hrate]⟩
  have hne : (publishRef 0 a u).planner.mode ≠ .hold := by simp [hmode]
  rw [hend, endStop_plain (cause := .engageFailed) (by exact hcause) nofun nofun, enterHold_planner_eq _ hne, enterHold_link _ hne]
  simp [hpinch, PinchState.toOpen, hmode, hrecord, publishRef, modeCauseOf]

end Failed

section O52

variable {s : State}

/-- What a closed pinch does to an engagement (R94). -/
theorem pinchComplete_plays (hp : s.planner.pinch = .closing) (hm : s.planner.mode = .engaging) :
    OnlyChanges [.planner, .lines, .fault, .link] s (pinchComplete s) ∧ (pinchComplete s).planner.mode = .play ∧
      (pinchComplete s).planner.pinch = .closed ∧
      (pinchComplete s).lines = { s.lines with recordInhibit := s.zones.current.inhibit } ∧
      (pinchComplete s).fault.record = s.fault.record ∧
      (pinchComplete s).link = s.link.posted [.mode .play none .engaging s.planner.stopInForce .complete] := by
  have hne : (s.onPlanner fun p => { p with pinch := .closed }).planner.mode ≠ .play := by simp [hm]
  rw [pinchComplete_closing hp, if_pos hm, setMode_lines_of_ne _ _ hne, setMode_posts_of_ne _ _ hne]
  refine ⟨?_, by simp, by simp, by simp, by simp, by simp [hm]⟩
  intro b; cases b <;> simp [sameBlock]

/-- What it does to the run-up of a chase (R142). -/
theorem pinchComplete_matches (hp : s.planner.pinch = .closing) (hm : s.planner.mode = .chase) (hc : s.chase.state = .runup) :
    OnlyChanges [.planner, .chase, .lines, .link] s (pinchComplete s) ∧
      (pinchComplete s).planner = { s.planner with pinch := .closed } ∧
      (pinchComplete s).chase =
        { s.chase with state := .matching, inRun := 0, outRun := 0, lead := s.params.lead, doublings := 0 } ∧
      (pinchComplete s).link =
        s.link.posted [.chase .matching .runup .acquire s.chase.e s.capstan.trim s.params.lead 0] := by
  rw [pinchComplete_closing hp, if_neg (by simp [hm]), if_pos ⟨hm, hc⟩]
  refine ⟨?_, by simp [enterMatch, setChaseState, refreshInhibit], by simp [enterMatch, setChaseState, refreshInhibit],
    by simp [enterMatch, setChaseState, refreshInhibit, hc, Link.posted_one]⟩
  intro b; cases b <;> simp [sameBlock, enterMatch]

theorem matchFalls_eq_false (h : matchRunNext s < 40 ∨ s.planner.matchTimer ≠ none) : matchFalls s = false := by
  rcases h with h | h
  · simp [matchFalls, Nat.ne_of_lt h]
  · simp [matchFalls, h]

theorem closesNow_eq_false (h : matchRunNext s < 40 ∨ ¬s.capstan.lock.fit = true) : closesNow s = false := by
  rcases h with h | h
  · simp [closesNow, Nat.ne_of_lt h]
  · simp [closesNow, h]

/-- Settles O52: a step of the match closes the pinch, fails, or counts; the closing and the failure of an engagement are each said once
above, for ENGAGING and for the run-up of a chase. -/
theorem engagingClosesThePinch : Obligations.EngagingClosesThePinch := by
  intro s hs
  refine ⟨fun near fit run timer taken hmode hp hnear hfit hrun htimer htaken => ?matching, fun hidle => ?idle, fun hp => ?still,
    fun hp => ?opens, fun hp => ⟨fun hm => ?plays, fun hm hc => ?acquires, fun he hc => ?closes⟩⟩
  case matching =>
    have hm : matching s = true := matching_iff.2 ⟨hmode, hp⟩
    obtain rfl : matchRunNext s = run := matchRunNext_eq hnear hrun
    obtain rfl : matchTimerNext s = timer := matchTimerNext_eq.trans htimer.symm
    obtain rfl : taken = takeUp s := funext htaken
    rw [← LockState.fit_iff] at hfit
    refine ⟨fun h => ?noMatch, fun h => ?noClose, fun ht => ?noTimer, fun ht hn => ?expires, fun hclear =>
      ⟨fun hr ht => ?falls, fun hr hf t ht => ?closing, fun h => ⟨fun ht => ?counts, fun k hk h12 hn => ?fails⟩⟩⟩
    case noMatch => simp [exec_engageMatch hs, matchFalls_eq_false h]
    case noClose => simp [exec_pinchCloseCommand hs, closesNow_eq_false (h.imp_right (mt hfit.2))]
    case noTimer => simp [exec_engageTimeout hs, ht]
    case expires =>
      refine ⟨engagementFailed s, ?_, engagementFails hm hn⟩
      rw [exec_engageTimeout hs, if_pos (by simpa [hm, Option.isSome_iff_ne_none] using ht)]
    case falls => rw [exec_engageMatch hs, if_pos (by simp [matchFalls, hm, ht, hr]), exec_plannerStep hs]
    case closing =>
      have hc : closesNow s = true := closesNow_iff.2 ⟨hr, hfit.1 hf⟩
      rw [exec_pinchCloseCommand hs, if_pos (by simp [hm, hc]), exec_plannerStep hs, plannerStep_closes hm hclear hc, ht]
      exact ⟨rfl, rfl⟩
    case counts =>
      obtain ⟨v, a, hstep⟩ := plannerStep_counts hm hclear (closesNow_eq_false (h.imp_right (mt hfit.2))) ht
      exact ⟨v, a, by rw [exec_plannerStep hs, hstep]⟩
    case fails =>
      have hu := engagementFails hm hn
      have hstep := plannerStep_fails hm hclear (closesNow_eq_false (h.imp_right (mt hfit.2))) hk h12
      obtain ⟨hstopping, -, -, -, -, -, -, hheld⟩ := hu.rates hm
      refine ⟨engagementFailed s, hu, ?_, ?_, fun d v a hv hd ha h4 hlt => ?_, fun hrest => ⟨_, ?_, hu.ends hm hrest⟩⟩
      · rw [exec_engageTimeout hs, if_pos (by simp [hm, hk])]
      · rw [exec_plannerStep hs, exec_plannerStep (hheld.trans hs), hstep, plannerStep_stopping hstopping]
      · subst hv
        rw [exec_plannerStep hs, hstep, hu.moves hm hd ha h4 hlt]
      · rw [exec_plannerStep hs, hstep]
  case idle =>
    have hm : matching s = false := Bool.eq_false_iff.2 fun h => by
      obtain ⟨hmode, hp⟩ := matching_iff.1 h
      exact hidle.elim (fun hne => hne hp) fun ⟨he, hc⟩ => hmode.elim he hc
    simp [exec_engageMatch hs, exec_pinchCloseCommand hs, exec_engageTimeout hs, matchFalls, hm]
  case still => rcases hp with hp | hp <;> simp [exec_pinchComplete hs, pinchComplete, hp]
  case opens => simp [exec_pinchComplete hs, pinchComplete, hp]
  case plays => exact ⟨_, exec_pinchComplete hs, pinchComplete_plays hp hm⟩
  case acquires => exact ⟨_, exec_pinchComplete hs, pinchComplete_matches hp hm hc⟩
  case closes => rw [exec_pinchComplete hs, pinchComplete_closing hp, if_neg he, if_neg hc]

end O52
end Sys2Proof.Machine

namespace Sys2Proof.Machine

/-! ## v_goal_eff under its limits (R104) -/

section Goal

variable {s : State}

theorem isqrtBits_sq_le (b : Nat) {n r : Nat} (h : r * r ≤ n) : isqrtBits b n r * isqrtBits b n r ≤ n := by
  induction b generalizing r with
  | zero => exact h
  | succ b ih =>
    unfold isqrtBits
    split
    next hbit => exact ih hbit
    next => exact ih h

theorem isqrt_sq_le (n : Nat) : isqrt n ^ 2 ≤ n := by
  rw [pow_two]
  exact isqrtBits_sq_le _ (Nat.zero_le n)

theorem foldr_min_le {α : Type} (f : α → Nat) (l : List α) (base : Nat) :
    l.foldr (fun q n => min (f q) n) base ≤ base ∧ ∀ q ∈ l, l.foldr (fun q n => min (f q) n) base ≤ f q := by
  induction l with
  | nil => simp
  | cons x l ih =>
    obtain ⟨hbase, hall⟩ := ih
    refine ⟨(Nat.min_le_right _ _).trans hbase, fun q hq => ?_⟩
    rcases List.mem_cons.1 hq with rfl | hq
    · exact Nat.min_le_left _ _
    · exact (Nat.min_le_right _ _).trans (hall q hq)

theorem mag_goalEff (hm : s.planner.mode.looksAhead = true) : mag (goalEff s) = cappedGoal s := by
  unfold goalEff mag
  rw [if_pos hm]
  split <;> simp

/-- v_allow of a drop point in force (R104). -/
def allowAt (s : State) (d : Dir) (q : DropPoint) : Nat :=
  vAllow q.limit (aDecEff s d) (distanceTo s.tach.position q.pos q.guard)

theorem cappedGoal_le_base : cappedGoal s ≤ min (min (mag s.planner.goal) (vMaxEff s)) s.zones.current.limit := by
  unfold cappedGoal
  dsimp only
  split
  · exact Nat.zero_le _
  · split
    next => exact Nat.le_refl _
    next d hd => exact (foldr_min_le (allowAt s d) (dropPoints s d) _).1

theorem cappedGoal_le_vAllow {d : Dir} {q : DropPoint} (hd : s.planner.travel = some d) (hq : q ∈ dropPoints s d) :
    cappedGoal s ≤ allowAt s d q := by
  unfold cappedGoal
  dsimp only
  split
  · exact Nat.zero_le _
  · simp only [hd]
    exact (foldr_min_le (allowAt s d) (dropPoints s d) _).2 q hq

theorem vAllow_sq_le (limit : Nat) (a : Int) (dist : Nat) : vAllow limit a dist ^ 2 ≤ limit ^ 2 + (a * dist / 40).toNat :=
  isqrt_sq_le _

/-- R104: v_goal_eff keeps below every limit, and below every drop point's v_allow. -/
theorem goalEff_bounded (s : State) (hm : s.planner.mode.looksAhead = true) :
    mag (goalEff s) ≤ mag s.planner.goal ∧ mag (goalEff s) ≤ vMaxEff s ∧ mag (goalEff s) ≤ s.zones.current.limit ∧
      ∀ d q, s.planner.travel = some d → q ∈ dropPoints s d →
        mag (goalEff s) ^ 2 ≤ q.limit ^ 2 + (aDecEff s d * distanceTo s.tach.position q.pos q.guard / 40).toNat := by
  have hbase := cappedGoal_le_base (s := s)
  rw [mag_goalEff hm]
  refine ⟨by omega, by omega, by omega, fun d q hd hq => ?_⟩
  exact (Nat.pow_le_pow_left (cappedGoal_le_vAllow hd hq) 2).trans (vAllow_sq_le ..)

end Goal

/-! ## Missed cues (R105, R106) -/

section Missed

variable {s : State}

theorem markMissed_foldl_planner (l : List Cue) (s : State) :
    (l.foldl (fun t c => markMissed c.id t) s).planner = { s.planner with missed := s.planner.missed ++ l.map Cue.id } := by
  induction l generalizing s with
  | nil => simp
  | cons c l ih =>
    refine (ih (markMissed c.id s)).trans ?_
    simp [markMissed]

theorem markMissed_foldl_pending (l : List Cue) (s : State) :
    (l.foldl (fun t c => markMissed c.id t) s).cues.pendingStop = s.cues.pendingStop :=
  foldl_keeps (fun t => t.cues.pendingStop) (fun t (c : Cue) => markMissed c.id t) (fun _ _ => rfl) l s

theorem dropPlayCues_planner (s : State) :
    (dropPlayCues s).planner =
      { s.planner with missed := s.planner.missed ++ ((playCues s).filter (seenTooLate s)).map Cue.id } :=
  markMissed_foldl_planner _ s

theorem dropPlayCues_onlyChanges (s : State) : OnlyChanges [.planner, .cues] s (dropPlayCues s) := by
  intro b; cases b <;> simp [sameBlock]

/-- The cues out of reach even at the torque-available limit (R105). -/
def lostCues (s : State) (d : Dir) : List Cue :=
  (cuePoints s d).filter fun c => !(inReach s (s.planner.torque.dec d) { pos := c.position, limit := 0, guard := 0 })

theorem dropMissedCues_eq {d : Dir} (h : s.planner.travel = some d) :
    dropMissedCues s = (lostCues s d).foldl (fun t c => markMissed c.id t) s := by
  simp only [dropMissedCues, h, lostCues]

theorem dropMissedCues_planner {d : Dir} (h : s.planner.travel = some d) :
    (dropMissedCues s).planner = { s.planner with missed := s.planner.missed ++ (lostCues s d).map Cue.id } := by
  rw [dropMissedCues_eq h, markMissed_foldl_planner]

theorem dropMissedCues_still (h : s.planner.travel = none) : dropMissedCues s = s := by simp only [dropMissedCues, h]

theorem dropMissedCues_pending (s : State) : (dropMissedCues s).cues.pendingStop = s.cues.pendingStop := by
  unfold dropMissedCues
  split
  · rfl
  · exact markMissed_foldl_pending _ s

theorem dropMissedCues_onlyChanges (s : State) : OnlyChanges [.planner, .cues] s (dropMissedCues s) := by
  intro b; cases b <;> simp [sameBlock]

theorem mem_lostCues_iff {d : Dir} {c : Cue} :
    c ∈ lostCues s d ↔ c ∈ cuePoints s d ∧
      (mag (c.position - s.tach.position) : Int) < neededDistance s.planner.speed 0 (s.planner.torque.dec d) := by
  simp [lostCues, inReach, distanceTo]

theorem lostCues_eq_nil {d : Dir}
    (h : ∀ c ∈ cuePoints s d, neededDistance s.planner.speed 0 (s.planner.torque.dec d) ≤ mag (c.position - s.tach.position)) :
    lostCues s d = [] :=
  List.eq_nil_iff_forall_not_mem.2 fun c hc => by
    obtain ⟨hmem, hlt⟩ := mem_lostCues_iff.1 hc
    exact absurd (h c hmem) (by omega)

end Missed

/-! ## Play stop points (R106) -/

section PlayStops

variable {s : State}

/-- A stop of a motion or of HOLD, by the planner it leaves (R98). -/
theorem stopDemand_planner_eq {sev : Severity} (cause : StopCause) (hm : s.planner.mode.startsStop = true)
    (hstop : s.planner.mode ≠ .stopping) (hn : s.planner.stopInForce = none) (hb : sev ≠ .brake) :
    (stopDemand sev cause s).planner =
      { s.planner with
        mode := .stopping, sub := none, stopInForce := some sev, stopCause := some cause, goal := 0, matchTimer := none
        pinch := s.planner.pinch.toOpen, unitPoints := [], autoStopCap := false } := by
  obtain ⟨points, hunit⟩ := endUnit_planner cause s
  rw [stopDemand_begins cause hm hn hb, beginStopping_planner_eq _ _ (by rw [hunit]; exact hstop), hunit]

theorem stopDemand_onlyChanges (cause : StopCause) (hm : s.planner.mode.startsStop = true) (hn : s.planner.stopInForce = none)
    {sev : Severity} (hb : sev ≠ .brake) (hs : s.planner.mode ≠ .survey) :
    OnlyChanges [.planner, .zones, .cues, .locate, .chase, .capstan, .lines, .fault, .link] s (stopDemand sev cause s) := by
  rw [stopDemand_begins cause hm hn hb]
  exact ((endUnit_onlyChanges cause hs).mono (by decide)).trans ((beginStopping_onlyChanges sev cause).mono (by decide))

/-- In ENGAGING and PLAY no unit ends with the motion. -/
theorem stopDemand_ofPlay (cause : StopCause) (hm : s.planner.mode = .engaging ∨ s.planner.mode = .play)
    (hn : s.planner.stopInForce = none) {sev : Severity} (hb : sev ≠ .brake) :
    stopDemand sev cause s = beginStopping sev cause s := by
  rw [stopDemand_begins cause (by rcases hm with h | h <;> rw [h] <;> rfl) hn hb]
  rcases hm with h | h <;> simp [endUnit, h]

/-- The distance within which a play stop point stops the tape (R106). -/
def playReach (s : State) : Int := pinchDistance s + stopDistance s (aDecEff s .forward)

theorem playReach_eq :
    playReach s = (if s.planner.pinch.commandedClosed then divCeil (mag s.planner.vRef / 1000 * 16) 5 else 0) +
      divCeil ((mag s.planner.vRef / 1000) ^ 2 * 40) (aDecEff s .forward) := rfl

theorem playReach_dropPlayCues (s : State) : playReach (dropPlayCues s) = playReach s := by
  simp [playReach, pinchDistance, stopDistance, aDecEff, Planner.speed, dropPlayCues_planner]

theorem forbiddenPoints_dropPlayCues (s : State) : forbiddenPoints (dropPlayCues s) = forbiddenPoints s := by
  simp [forbiddenPoints, unitPointsAhead, dropPlayCues_planner]

/-- A zone within reach stops the tape, whatever cue is due (log entry 32). -/
theorem checkPlayStops_zone (h : ∃ n ∈ forbiddenPoints s, (n : Int) ≤ playReach s) :
    checkPlayStops s = stopDemand .controlled .zone (dropPlayCues s) := by
  have hreach := playReach_dropPlayCues s
  unfold playReach at hreach h
  have hany : ((forbiddenPoints s).any fun n => (n : Int) ≤ pinchDistance s + stopDistance s (aDecEff s .forward)) = true := by
    simpa using h
  unfold checkPlayStops
  dsimp only
  rw [forbiddenPoints_dropPlayCues, hreach, if_pos hany]

/-- With no zone within reach the cues that are left decide. -/
theorem checkPlayStops_cues (h : ∀ n ∈ forbiddenPoints s, playReach s < (n : Int)) :
    checkPlayStops s =
      if (playCues (dropPlayCues s)).any fun c => (distanceTo s.tach.position c.position 0 : Int) ≤ playReach s then
        stopDemand .controlled .autoStop (dropPlayCues s)
      else dropPlayCues s := by
  have hreach := playReach_dropPlayCues s
  unfold playReach at hreach h
  have hany : ¬((forbiddenPoints s).any fun n => (n : Int) ≤ pinchDistance s + stopDistance s (aDecEff s .forward)) = true := by
    simpa using h
  unfold checkPlayStops playReach
  dsimp only
  rw [forbiddenPoints_dropPlayCues, hreach, if_neg hany]
  simp

/-- The modes whose steps check play stop points. -/
theorem plannerEvents_play (hm : s.planner.mode = .engaging ∨ s.planner.mode = .play ∨ s.planner.mode = .chase)
    (hmatch : matching (checkPlayStops s) = false) : plannerEvents s = checkPlayStops s := by
  unfold plannerEvents
  rcases hm with h | h | h <;> simp only [h, hmatch] <;> rfl

theorem matching_eq_false_of_pinch (h : s.planner.pinch ≠ .opened) : matching s = false := by simp [matching, h]

theorem matching_eq_false_of_mode (he : s.planner.mode ≠ .engaging) (hc : s.planner.mode ≠ .chase) : matching s = false := by
  simp [matching, he, hc]

theorem matching_eq_false_of_state (he : s.planner.mode ≠ .engaging) (hc : s.chase.state ≠ .runup) : matching s = false := by
  simp [matching, he, hc]

/-- A stop whose pinch is not yet OPEN holds v_ref (R99). -/
theorem afterEvents_stopping_held (hm : s.planner.mode = .stopping) (hp : s.planner.pinch ≠ .opened) : afterEvents s = holdRef s := by
  have hmove : moveRef s = holdRef s := by simp [moveRef, hm, hp]
  rw [afterEvents, hmove]
  exact noteCues_other (by simp [holdRef, hm]) (by simp [holdRef, hm]) (by simp [holdRef, hm])

end PlayStops
end Sys2Proof.Machine

namespace Sys2Proof.Machine

/-! ## Steps at rest, and in the stages of LOADING, UNLOADING and BRAKING (R88, R90, R100) -/

section Stages

variable {s : State}

theorem publishRef_self {v a : Int} (hv : s.planner.vRef = v) (ha : s.planner.aRef = a) : publishRef v a s = s := by
  subst hv ha
  rfl

theorem plannerStep_rest (hm : s.planner.mode = .idle ∨ s.planner.mode = .hold ∨ s.planner.mode = .braked) :
    plannerStep s = publishRef 0 0 s := by
  have hevents : plannerEvents s = s := by rcases hm with h | h | h <;> simp [plannerEvents, h]
  rw [plannerStep_eq, hevents]
  rcases hm with h | h | h <;> exact afterEvents_still (by simp [h])

theorem goalEff_plain (hl : s.planner.mode.looksAhead = false) (hm : s.planner.mode ≠ .stopping) : goalEff s = s.planner.goal := by
  simp [goalEff, hl, hm]

theorem accelRate_of {d : Dir} (h : s.planner.travel = some d) : accelRate s = aAccEff s d := by simp only [accelRate, h]

theorem decelRate_plain {d : Dir} (hl : s.planner.mode.looksAhead = false) (hm : s.planner.mode ≠ .stopping)
    (h : s.planner.travel = some d) : decelRate s = aDecEff s d := by
  simp [decelRate, hl, hm, travelDec, h]

theorem travel_forward (hv : 0 ≤ s.planner.vRef) (h : 0 < s.planner.vRef ∨ 0 < s.planner.goal) :
    s.planner.travel = some .forward := by
  unfold Planner.travel dirOf
  split
  · rw [if_pos (by omega)]
  · rw [if_pos (by omega)]

theorem travel_reverse (hv : s.planner.vRef < 0) : s.planner.travel = some .reverse := by
  unfold Planner.travel dirOf
  rw [if_neg (by omega), if_neg (by omega), if_pos hv]

/-- With a forward goal of g, v_ref from 0 up to g gains speed, and stays at g. -/
theorem profileStep_rising {v g acc dec : Int} (hg : 0 < g) (hv : 0 ≤ v) (hle : v ≤ g) (ha : 4 ≤ acc) (hd : 0 ≤ dec) :
    profileStep v g acc dec = (min g (v + acc / 4), if v = g then 0 else acc) := by
  rcases hle.eq_or_lt with rfl | hlt
  · rw [profileStep_steady hd, min_eq_left (by omega), if_pos rfl]
  · rw [profileStep_faster (mul_nonneg hv hg.le) (by unfold mag; omega) ha, if_pos hg, if_neg (by omega)]

theorem plannerStep_creeps {g v : Int} (hm : s.planner.mode = .loading) (hs : s.planner.sub = some .probeCreep)
    (hg : g = 1000 * s.planner.goal) (hv : v = s.planner.vRef) (hpos : 0 < g) (h0 : 0 ≤ v) (hle : v ≤ g)
    (ha : 4 ≤ aAccEff s .forward) (hd : 0 ≤ aDecEff s .forward) :
    plannerStep s = publishRef (min g (v + aAccEff s .forward / 4)) (if v = g then 0 else aAccEff s .forward) s := by
  have htravel := travel_forward (s := s) (by omega) (.inr (by omega))
  have hlook : s.planner.mode.looksAhead = false := by rw [hm]; rfl
  have hstop : s.planner.mode ≠ .stopping := by simp [hm]
  rw [plannerStep_loading hm (by simp [hs]), if_pos hs, runProfile_of_ne (by simp [hm]), goalEff_plain hlook hstop,
    accelRate_of htravel, decelRate_plain hlook hstop htravel, mul_comm, ← hg, ← hv, profileStep_rising hpos h0 hle ha hd]

theorem armRunNext_eq {run : Nat}
    (h : run = if mag s.sense.arms.supply.p ≤ 200 ∧ mag s.sense.arms.takeup.p ≤ 200 then s.planner.armRun + 1 else 0) :
    armRunNext s = run := by
  simp [armRunNext, armsSteady, h]

theorem plannerStep_takesUp {run time : Nat} (hm : s.planner.mode = .loading) (hs : s.planner.sub = some .takeUp)
    (ht : s.planner.stageTimer = some time) (hrun : armRunNext s = run) (h40 : run < 40) (h12 : time + 1 < 12000) :
    plannerStep s =
      s.onPlanner fun p => { p with armRun := run, stageTimer := some (time + 1), vRef := 0, aRef := 0 } := by
  have hstep : takeUpStep s = s.onPlanner fun p => { p with armRun := run, stageTimer := some (time + 1) } := by
    unfold takeUpStep
    dsimp only
    rw [hrun, if_neg (by omega), ht, Option.map_some, Option.any_some, if_neg (by simp [stageLimit]; omega)]
  rw [plannerStep_eq, plannerEvents_takeUp hm hs, hstep, afterEvents_loading (by simp [hm]), if_neg (by simp [hs])]
  rfl

theorem plannerStep_takeUpFails {run time : Nat} (hm : s.planner.mode = .loading) (hs : s.planner.sub = some .takeUp)
    (ht : s.planner.stageTimer = some time) (hrun : armRunNext s = run) (h40 : run < 40) (h12 : 12000 ≤ time + 1) :
    plannerStep s = failLoad .loadFailed s := by
  have hstep : takeUpStep s = failLoad .loadFailed s := by
    unfold takeUpStep
    dsimp only
    rw [hrun, if_neg (by omega), ht, Option.map_some, Option.any_some, if_pos (by simpa [stageLimit] using h12)]
  obtain ⟨hbraked, -⟩ := failLoad_rest s .loadFailed
  rw [plannerStep_eq, plannerEvents_takeUp hm hs, hstep, afterEvents_still (by simp [hbraked])]
  exact publishRef_self (by simp [failLoad]) (by simp [failLoad])

theorem plannerStep_unloading (hm : s.planner.mode = .unloading) (h : s.planner.sub ≠ some .rampDown ∨ s.servo.settled = false) :
    plannerStep s = publishRef 0 0 s := by
  have hevents : plannerEvents s = s := by rcases h with h | h <;> simp [plannerEvents, rampDownStep, hm, h]
  rw [plannerStep_eq, hevents]
  exact afterEvents_still (by simp [hm])

/-- The brakes are set at the end of RAMP_DOWN (R90). -/
theorem plannerStep_rampedDown (hm : s.planner.mode = .unloading) (hs : s.planner.sub = some .rampDown)
    (hset : s.servo.settled = true) :
    plannerStep s = publishRef 0 0 (setMode .unloading (some .brakeSet) .complete (applyBrakes s)) := by
  have hevents : plannerEvents s = setMode .unloading (some .brakeSet) .complete (applyBrakes s) := by
    simp [plannerEvents, rampDownStep, hm, hs, hset]
  rw [plannerStep_eq, hevents]
  exact afterEvents_still (by simp)

theorem rampedDown_sets :
    OnlyChanges [.planner, .lines, .fault, .link] s (publishRef 0 0 (setMode .unloading (some .brakeSet) .complete (applyBrakes s))) ∧
      (publishRef 0 0 (setMode .unloading (some .brakeSet) .complete (applyBrakes s))).lines.brakeS = true ∧
      (publishRef 0 0 (setMode .unloading (some .brakeSet) .complete (applyBrakes s))).lines.brakeT = true ∧
      (publishRef 0 0 (setMode .unloading (some .brakeSet) .complete (applyBrakes s))).fault.record = s.fault.record := by
  refine ⟨?_, by simp [publishRef], by simp [publishRef], by simp [publishRef]⟩
  intro b; cases b <;> simp [sameBlock, publishRef]

theorem exec_brakingStandstill (h : s.held = none) :
    exec .brakingStandstill s = .next (if standstillFalls s then plannerStep s else s) :=
  whileRunning_of_running h

theorem standstillFalls_iff : standstillFalls s = true ↔ s.planner.mode = .braking ∧ 40 ≤ standRunNext s := by
  simp [standstillFalls]

theorem plannerStep_braking (hm : s.planner.mode = .braking) (h : standRunNext s < 40) :
    plannerStep s = s.onPlanner fun p => { p with standRun := standRunNext s, vRef := 0, aRef := 0 } := by
  have hevents : plannerEvents s = s.onPlanner fun p => { p with standRun := standRunNext s } := by
    simp only [plannerEvents, hm, brakingStep]
    exact if_neg (by omega)
  rw [plannerStep_eq, hevents, afterEvents_still (by simp [hm])]
  rfl

theorem plannerStep_standstill (hm : s.planner.mode = .braking) (h : 40 ≤ standRunNext s) :
    plannerStep s = publishRef 0 0 (enterBraked s) := by
  have hevents : plannerEvents s = enterBraked s := by
    simp only [plannerEvents, hm, brakingStep]
    exact if_pos h
  rw [plannerStep_eq, hevents]
  exact afterEvents_still (by simp [enterBraked])

theorem enterBraked_rest (s : State) :
    OnlyChanges [.planner, .lines, .fault, .link] s (enterBraked s) ∧ (enterBraked s).planner.mode = .braked ∧
      (enterBraked s).planner.stopInForce = none ∧ (enterBraked s).planner.stopCause = none ∧
      (enterBraked s).planner.brake = s.planner.brake ∧ (enterBraked s).fault.record = s.fault.record := by
  refine ⟨?_, by simp [enterBraked], by simp [enterBraked], by simp [enterBraked], by simp [enterBraked], by simp [enterBraked]⟩
  intro b; cases b <;> simp [sameBlock, enterBraked]

end Stages

/-! ## Steps while the pinch opens (R92, R99), and in STOPPING -/

section Opening

variable {s : State}

theorem checkPlayStops_chase_open (hm : s.planner.mode = .chase) (hp : s.planner.pinch.commandedClosed = false) :
    checkPlayStops s = s :=
  checkPlayStops_clear (playCues_of_ne (by simp [hm])) (by simp [forbiddenPoints, hm, hp])

theorem plannerEvents_wind (hm : s.planner.mode = .wind) : plannerEvents s = s := by simp [plannerEvents, hm]

/-- A unit's step whose pinch is not commanded closed, with no match to run, has no event. -/
theorem plannerEvents_unit (hm : s.planner.mode = .locate ∨ s.planner.mode = .survey ∨ s.planner.mode = .chase)
    (hp : s.planner.pinch.commandedClosed = false) (hmatch : matching s = false) : plannerEvents s = s := by
  rcases hm with h | h | h
  · simp [plannerEvents, h]
  · simp [plannerEvents, h]
  · have hclear := checkPlayStops_chase_open h hp
    rw [plannerEvents_play (.inr (.inr h)) (by rw [hclear]; exact hmatch), hclear]

theorem holdRef_eq (s : State) : holdRef s = publishRef s.planner.vRef 0 s := rfl

theorem plannerStep_unit_opening (hm : s.planner.mode = .locate ∨ s.planner.mode = .survey ∨ s.planner.mode = .chase)
    (hp : s.planner.pinch = .opening) : plannerStep s = holdRef s := by
  rw [plannerStep_eq, plannerEvents_unit hm (by rw [hp]; rfl) (matching_eq_false_of_pinch (by simp [hp])), afterEvents_unit hm,
    refStep_opening hp]
  rfl

theorem plannerStep_stopping_held (hm : s.planner.mode = .stopping) (hp : s.planner.pinch ≠ .opened) : plannerStep s = holdRef s := by
  rw [plannerStep_stopping hm, afterEvents_stopping_held hm hp]

theorem plannerStep_wind_opening (hm : s.planner.mode = .wind) (hp : s.planner.pinch = .opening) :
    plannerStep s = s.onPlanner fun p => { p with aRef := 0, inForce := autoStops s.cues.list, seen := [] } := by
  have hmove : moveRef s = holdRef s := by simp [moveRef, hm, hp, refByPinch]
  rw [plannerStep_eq, plannerEvents_wind hm, afterEvents, hmove, noteCues_takes (.inl (by simp [holdRef, hm]))]
  rfl

theorem plannerStep_unit_still
    (hm : s.planner.mode = .locate ∨ s.planner.mode = .survey ∨ (s.planner.mode = .chase ∧ s.chase.state ≠ .runup))
    (hp : s.planner.pinch = .opened) (hv : s.planner.vRef = 0) (hg : s.planner.goal = 0) : plannerStep s = holdRef s := by
  have hunit : s.planner.mode = .locate ∨ s.planner.mode = .survey ∨ s.planner.mode = .chase :=
    hm.imp_right (Or.imp_right And.left)
  have hmatch : matching s = false := by
    rcases hm with h | h | ⟨-, h⟩
    · exact matching_eq_false_of_mode (by simp [h]) (by simp [h])
    · exact matching_eq_false_of_mode (by simp [h]) (by simp [h])
    · exact matching_eq_false_of_state (by rcases hunit with h | h | h <;> simp [h]) h
  have hlook : s.planner.mode.looksAhead = true := by rcases hunit with h | h | h <;> rw [h] <;> rfl
  have htravel : s.planner.travel = none := by simp [Planner.travel, hv, hg, dirOf]
  have hgoal : goalEff s = 0 := by
    have hle := (goalEff_bounded s hlook).1
    unfold mag at hle
    rw [hg] at hle
    omega
  have hrate : decelRate s = 0 := by simp [decelRate, hlook, lookAheadRate, htravel]
  rw [plannerStep_eq, plannerEvents_unit hunit (by rw [hp]; rfl) hmatch, afterEvents_unit hunit, refStep_opened hp, hgoal, hrate, hv,
    zero_mul, profileStep_steady (Int.le_refl 0), holdRef_eq, hv]

/-- What the end of a stop leaves (R99, R117, R126). -/
theorem endStop_rests (hm : s.planner.mode = .stopping) :
    OnlyChanges [.planner, .zones, .cues, .lines, .fault, .link] s (endStop s) ∧ (endStop s).planner.mode = .hold ∧
      (endStop s).planner.vRef = s.planner.vRef ∧ (endStop s).planner.goal = 0 ∧ (endStop s).planner.stopInForce = none ∧
      (endStop s).planner.stopCause = none ∧ (endStop s).lines.brakeS = s.lines.brakeS ∧
      (endStop s).zones.entries = s.zones.entries ∧ (endStop s).fault.record = s.fault.record := by
  have hne : s.planner.mode ≠ .hold := by simp [hm]
  have hzones (u : State) : (postZoneBlocked u).zones.entries = u.zones.entries := by
    unfold postZoneBlocked; split <;> simp
  have hauto (u : State) : (postAutoStop u).zones = u.zones := by unfold postAutoStop; split <;> simp
  have hbrake (cause : ModeCause) : (enterHold cause s).lines.brakeS = s.lines.brakeS := by simp [enterHold]
  refine ⟨fun b => by cases b <;> simp [sameBlock], ?_⟩
  unfold endStop
  dsimp only
  split <;> simp [enterHold_planner_eq _ hne, hzones, hbrake]

theorem postAutoStop_empties (s : State) : (postAutoStop s).cues.pendingStop = none := by
  unfold postAutoStop
  split
  next h => exact h
  next => simp

theorem postZoneBlocked_empties (s : State) : (postZoneBlocked s).zones.pendingBlock = none := by
  unfold postZoneBlocked
  split
  next h => exact h
  next => simp

theorem endStop_autoStop (h : s.planner.stopCause = some .autoStop) : (endStop s).cues.pendingStop = none := by
  simp [endStop, h, postAutoStop_empties]

theorem endStop_zone (h : s.planner.stopCause = some .zone) : (endStop s).zones.pendingBlock = none := by
  simp [endStop, h, postZoneBlocked_empties]

end Opening
end Sys2Proof.Machine

namespace Sys2Proof.Machine

/-! ## Steps of ENGAGING, PLAY and a chase that follows the capstan (R94, R95, R106) -/

section Playing

variable {s : State}

theorem forbiddenPoints_play (hm : s.planner.mode = .engaging ∨ s.planner.mode = .play) :
    forbiddenPoints s =
      (forbiddingAhead s.zones .forward s.tach.position).map fun b => distanceTo s.tach.position b s.planner.guard := by
  rcases hm with h | h <;> simp only [forbiddenPoints, h]

theorem forbiddenPoints_chase (hm : s.planner.mode = .chase) (hp : s.planner.pinch.commandedClosed = true) :
    forbiddenPoints s = (unitPointsAhead s .forward).map fun q => distanceTo s.tach.position q.pos q.guard := by
  simp only [forbiddenPoints, hm, hp, if_true]

/-- No boundary that forbids forward lies within reach. -/
def PlayClear (s : State) : Prop := ∀ n ∈ forbiddenPoints s, playReach s < (n : Int)

theorem not_playClear : ¬PlayClear s ↔ ∃ n ∈ forbiddenPoints s, (n : Int) ≤ playReach s := by
  simp [PlayClear]

theorem playClear_iff (hm : s.planner.mode = .engaging ∨ s.planner.mode = .play) :
    PlayClear s ↔ ∀ b ∈ forbiddingAhead s.zones .forward s.tach.position,
      playReach s < (mag (b - s.tach.position) - s.planner.guard : Nat) := by
  rw [PlayClear, forbiddenPoints_play hm, List.forall_mem_map]
  rfl

theorem playClear_chase_iff (hm : s.planner.mode = .chase) (hp : s.planner.pinch.commandedClosed = true) :
    PlayClear s ↔ ∀ q ∈ s.planner.unitPoints, s.tach.position < q.pos →
      playReach s < (mag (q.pos - s.tach.position) - q.guard : Nat) := by
  rw [PlayClear, forbiddenPoints_chase hm hp, List.forall_mem_map]
  simp [unitPointsAhead, aheadOf, distanceTo]

/-- A clear path with no cue due leaves the step without a stop. -/
theorem plannerEvents_clear (hm : s.planner.mode = .engaging ∨ s.planner.mode = .play ∨ s.planner.mode = .chase)
    (hfar : PlayClear s) (hcues : playCues s = []) (hmatch : matching s = false) : plannerEvents s = s := by
  have hclear : checkPlayStops s = s := checkPlayStops_clear hcues hfar
  rw [plannerEvents_play hm (by rw [hclear]; exact hmatch), hclear]

theorem plannerStep_plays (hm : s.planner.mode = .play) (hfar : PlayClear s) (hcues : s.cues.list = []) :
    plannerStep s = s.onPlanner fun p => { p with vRef := s.capstan.vPlay, aRef := 0, inForce := [], seen := [] } := by
  have hplay : playCues s = [] := by simp [playCues, stopCuesAhead, hcues]
  rw [plannerStep_eq, plannerEvents_clear (.inr (.inl hm)) hfar hplay (matching_eq_false_of_mode (by simp [hm]) (by simp [hm])),
    afterEvents_play hm, hplay, hcues]
  rfl

/-- ENGAGING with the pinch commanded closed or opening: no match runs. -/
theorem plannerStep_engaging_idle (hm : s.planner.mode = .engaging) (hfar : PlayClear s) (hp : s.planner.pinch ≠ .opened) {v a : Int}
    (href : refStep (s.onPlanner fun p => { p with goal := playGoal s }) = (v, a)) :
    plannerStep s = s.onPlanner fun p =>
      { p with goal := playGoal s, vRef := v, aRef := a, inForce := autoStops s.cues.list, seen := [] } := by
  rw [plannerStep_eq,
    plannerEvents_clear (.inl hm) hfar (playCues_of_ne (by simp [hm])) (matching_eq_false_of_pinch hp),
    afterEvents_engaging hm, href]

/-- The state in which an engagement that goes on moves v_ref. -/
def engaged (s : State) : State :=
  s.onPlanner fun p => { p with goal := playGoal s, matchRun := matchRunNext s, matchTimer := matchTimerNext s }

theorem refStep_engaged {d : Dir} (hm : s.planner.mode = .engaging) (hp : s.planner.pinch = .opened)
    (hd : (engaged s).planner.travel = some d) :
    refStep (engaged s) = profileStep s.planner.vRef (1000 * playGoal s) (aAccEff s d) (aDecEff s d) := by
  have hlook : (engaged s).planner.mode.looksAhead = false := by simp [engaged, hm, Mode.looksAhead]
  have hstop : (engaged s).planner.mode ≠ .stopping := by simp [engaged, hm]
  rw [refStep_opened (by simpa [engaged] using hp), goalEff_plain hlook hstop, accelRate_of hd, decelRate_plain hlook hstop hd,
    mul_comm]
  rfl

/-- ENGAGING with the match running moves v_ref by the profile toward v_play (R94). -/
theorem plannerStep_engaged {d : Dir} {v a : Int} (hm : s.planner.mode = .engaging) (hfar : PlayClear s) (hp : s.planner.pinch = .opened)
    (hc : closesNow s = false) (ht : ∀ k, matchTimerNext s = some k → k < 12000) (hd : (engaged s).planner.travel = some d)
    (hstep : profileStep s.planner.vRef (1000 * playGoal s) (aAccEff s d) (aDecEff s d) = (v, a)) :
    plannerStep s = s.onPlanner fun p =>
      { p with
        goal := playGoal s, matchRun := matchRunNext s, matchTimer := matchTimerNext s, vRef := v, aRef := a
        inForce := autoStops s.cues.list, seen := [] } := by
  have hmatch : matching s = true := matching_iff.2 ⟨.inl hm, hp⟩
  have hclear : checkPlayStops s = s := checkPlayStops_clear (playCues_of_ne (by simp [hm])) hfar
  have hevents : plannerEvents s = matchStep s := by simp only [plannerEvents, hm, hclear, hmatch, if_true]
  have href := (refStep_engaged hm hp hd).trans hstep
  rw [plannerStep_eq, hevents, matchStep_counts hc ht, afterEvents_engaging (by simp [hm])]
  have hstate : ((s.onPlanner fun p => { p with matchRun := matchRunNext s, matchTimer := matchTimerNext s }).onPlanner
      fun p => { p with goal := playGoal s }) = engaged s := rfl
  have hgoal : playGoal (s.onPlanner fun p => { p with matchRun := matchRunNext s, matchTimer := matchTimerNext s }) = playGoal s := rfl
  rw [hgoal, hstate, href]
  rfl

end Playing

/-! ## Stops of a planner step (R106) -/

section PlayStop

variable {s : State}

/-- A stop point in the way: the step's event is the stop. -/
theorem plannerStep_stops {cause : StopCause} {u : State}
    (hm : s.planner.mode = .engaging ∨ s.planner.mode = .play ∨ s.planner.mode = .chase)
    (hu : u.planner.mode = s.planner.mode) (hn : u.planner.stopInForce = none)
    (hcheck : checkPlayStops s = stopDemand .controlled cause u) : plannerStep s = afterEvents (stopDemand .controlled cause u) := by
  have hmode : (stopDemand .controlled cause u).planner.mode = .stopping := by
    rw [stopDemand_planner_eq cause ?_ ?_ hn (by decide)] <;> rw [hu] <;> rcases hm with h | h | h <;> simp [h, Mode.startsStop]
  rw [plannerStep_eq, plannerEvents_play hm, hcheck]
  rw [hcheck]
  exact matching_eq_false_of_mode (by simp [hmode]) (by simp [hmode])

theorem plannerStep_zoneStops (hm : s.planner.mode = .engaging ∨ s.planner.mode = .play ∨ s.planner.mode = .chase)
    (hn : s.planner.stopInForce = none) (h : ¬PlayClear s) :
    plannerStep s = afterEvents (stopDemand .controlled .zone (dropPlayCues s)) :=
  plannerStep_stops hm (by simp [dropPlayCues_planner]) (by simp [dropPlayCues_planner, hn]) (checkPlayStops_zone (not_playClear.1 h))

/-- The planner of a stop that a play stop point begins, with the cues that it has missed. -/
theorem zoneStop_planner (hm : s.planner.mode = .engaging ∨ s.planner.mode = .play ∨ s.planner.mode = .chase)
    (hn : s.planner.stopInForce = none) :
    ∃ ids, (stopDemand .controlled .zone (dropPlayCues s)).planner =
      { s.planner with
        mode := .stopping, sub := none, stopInForce := some .controlled, stopCause := some .zone, goal := 0, matchTimer := none
        pinch := s.planner.pinch.toOpen, unitPoints := [], autoStopCap := false, missed := s.planner.missed ++ ids } := by
  refine ⟨((playCues s).filter (seenTooLate s)).map Cue.id, ?_⟩
  have hmode : (dropPlayCues s).planner.mode = s.planner.mode := by simp [dropPlayCues_planner]
  rw [stopDemand_planner_eq .zone ?_ ?_ ?_ (by decide), dropPlayCues_planner]
  · rw [hmode]; rcases hm with h | h | h <;> rw [h] <;> rfl
  · rw [hmode]; rcases hm with h | h | h <;> simp [h]
  · simp [dropPlayCues_planner, hn]

theorem zoneStop_onlyChanges_play (hm : s.planner.mode = .engaging ∨ s.planner.mode = .play) (hn : s.planner.stopInForce = none) :
    OnlyChanges [.planner, .zones, .cues, .lines, .fault, .link] s (stopDemand .controlled .zone (dropPlayCues s)) := by
  rw [stopDemand_ofPlay .zone (by simpa [dropPlayCues_planner] using hm) (by simp [dropPlayCues_planner, hn]) (by decide)]
  exact ((dropPlayCues_onlyChanges s).mono (by decide)).trans (beginStopping_onlyChanges .controlled .zone)

/-- A stop begun with the pinch commanded closed holds v_ref while the pinch opens (R99). -/
theorem afterEvents_zoneStop (hm : s.planner.mode = .engaging ∨ s.planner.mode = .play ∨ s.planner.mode = .chase)
    (hn : s.planner.stopInForce = none) (hp : s.planner.pinch.commandedClosed = true) :
    afterEvents (stopDemand .controlled .zone (dropPlayCues s)) = holdRef (stopDemand .controlled .zone (dropPlayCues s)) := by
  obtain ⟨ids, hplanner⟩ := zoneStop_planner hm hn
  refine afterEvents_stopping_held (by rw [hplanner]) ?_
  rw [hplanner]
  cases hpinch : s.planner.pinch <;> simp_all [PinchState.commandedClosed, PinchState.toOpen]

theorem toOpen_of_closed {x : PinchState} (h : x.commandedClosed = true) : x.toOpen = .opening := by
  cases x <;> simp_all [PinchState.commandedClosed, PinchState.toOpen]

theorem holdRef_onlyChanges (s : State) : OnlyChanges [.planner] s (holdRef s) := State.onPlanner_onlyChanges s _

/-- R106: a zone within reach with the pinch commanded closed. -/
theorem zoneStops_closed (hm : s.planner.mode = .engaging ∨ s.planner.mode = .play) (hn : s.planner.stopInForce = none)
    (hp : s.planner.pinch.commandedClosed = true) (h : ¬PlayClear s) :
    OnlyChanges [.planner, .zones, .cues, .lines, .fault, .link] s (plannerStep s) ∧ (plannerStep s).planner.mode = .stopping ∧
      (plannerStep s).planner.stopInForce = some .controlled ∧ (plannerStep s).planner.stopCause = some .zone ∧
      (plannerStep s).planner.pinch = .opening ∧ (plannerStep s).planner.vRef = s.planner.vRef ∧
      (plannerStep s).fault.record = s.fault.record := by
  have hmode := hm.imp_right (Or.inl (b := s.planner.mode = .chase))
  obtain ⟨ids, hplanner⟩ := zoneStop_planner hmode hn
  rw [plannerStep_zoneStops hmode hn h, afterEvents_zoneStop hmode hn hp]
  refine ⟨(zoneStop_onlyChanges_play hm hn).trans ((holdRef_onlyChanges _).mono (by decide)), ?_⟩
  simp [holdRef, hplanner, toOpen_of_closed hp]

/-- R106, R142: the same of a chase, which it ends. -/
theorem zoneStops_chase (hm : s.planner.mode = .chase) (hn : s.planner.stopInForce = none)
    (hp : s.planner.pinch.commandedClosed = true) (h : ¬PlayClear s) :
    OnlyChanges [.planner, .zones, .cues, .locate, .chase, .capstan, .lines, .fault, .link] s (plannerStep s) ∧
      (plannerStep s).planner.mode = .stopping ∧ (plannerStep s).planner.stopInForce = some .controlled ∧
      (plannerStep s).planner.stopCause = some .zone ∧ (plannerStep s).planner.pinch = .opening ∧
      (plannerStep s).planner.vRef = s.planner.vRef ∧ (plannerStep s).chase.state = .off ∧
      (plannerStep s).fault.record = s.fault.record := by
  have hmode : s.planner.mode = .engaging ∨ s.planner.mode = .play ∨ s.planner.mode = .chase := .inr (.inr hm)
  have hchase : (dropPlayCues s).planner.mode = .chase := by simp [dropPlayCues_planner, hm]
  have hstart : (dropPlayCues s).planner.mode.startsStop = true := by rw [hchase]; rfl
  have hfree : (dropPlayCues s).planner.stopInForce = none := by simp [dropPlayCues_planner, hn]
  have hsurvey : (dropPlayCues s).planner.mode ≠ .survey := by simp [hchase]
  have hoff : (stopDemand .controlled .zone (dropPlayCues s)).chase.state = .off := by
    rw [stopDemand_begins .zone hstart hfree (by decide)]
    simpa using endUnit_chase .zone hchase
  obtain ⟨ids, hplanner⟩ := zoneStop_planner hmode hn
  rw [plannerStep_zoneStops hmode hn h, afterEvents_zoneStop hmode hn hp]
  refine ⟨((dropPlayCues_onlyChanges s).mono (by decide)).trans
    ((stopDemand_onlyChanges .zone hstart hfree (by decide) hsurvey).trans ((holdRef_onlyChanges _).mono (by decide))), ?_⟩
  simp [holdRef, hplanner, toOpen_of_closed hp, hoff]

/-- R106: a zone within reach in ENGAGING with the pinch OPEN: v_ref moves at the same step (log entry 33). -/
theorem zoneStops_opened (hm : s.planner.mode = .engaging) (hn : s.planner.stopInForce = none) (hp : s.planner.pinch = .opened)
    (h : ¬PlayClear s) (h4 : 4 ≤ aDecEff s .forward) (hlt : aDecEff s .forward / 4 < s.planner.vRef) :
    OnlyChanges [.planner, .zones, .cues, .lines, .fault, .link] s (plannerStep s) ∧ (plannerStep s).planner.mode = .stopping ∧
      (plannerStep s).planner.stopInForce = some .controlled ∧ (plannerStep s).planner.stopCause = some .zone ∧
      (plannerStep s).planner.vRef = s.planner.vRef - aDecEff s .forward / 4 ∧
      (plannerStep s).fault.record = s.fault.record := by
  have hmode : s.planner.mode = .engaging ∨ s.planner.mode = .play ∨ s.planner.mode = .chase := .inl hm
  obtain ⟨ids, hplanner⟩ := zoneStop_planner hmode hn
  have hsame := zoneStop_onlyChanges_play (.inl hm) hn
  have hpacks := (hsame .packs).resolve_left (by decide)
  have hservo := (hsame .servo).resolve_left (by decide)
  have hrate : aDecEff s .forward =
      if (stopDemand .controlled .zone (dropPlayCues s)).planner.stopInForce = some .fast then
        (stopDemand .controlled .zone (dropPlayCues s)).planner.torque.dec .forward
      else aDecEff (stopDemand .controlled .zone (dropPlayCues s)) .forward := by
    simp only [hplanner, aDecEff, hpacks, hservo]
    rfl
  have hv : (stopDemand .controlled .zone (dropPlayCues s)).planner.vRef = s.planner.vRef := by rw [hplanner]
  have hdir : dirOf (stopDemand .controlled .zone (dropPlayCues s)).planner.vRef = some .forward := by
    rw [hv]
    exact if_pos (by omega)
  have hmag : aDecEff s .forward / 4 < mag (stopDemand .controlled .zone (dropPlayCues s)).planner.vRef := by
    rw [hv, mag]
    omega
  rw [plannerStep_zoneStops hmode hn h,
    stopping_moves (by rw [hplanner]) (by rw [hplanner]; simp [hp, PinchState.toOpen]) hdir hrate h4 hmag]
  refine ⟨hsame.trans ((publishRef_onlyChanges _ _).mono (by decide)), ?_⟩
  simp [hplanner, publishRef]

end PlayStop
end Sys2Proof.Machine

namespace Sys2Proof.Machine

/-! ## A single AUTO_STOP cue in PLAY (R106, R125) -/

section PlayCue

variable {s : State} {c : Cue}

theorem boundariesAhead_eq_nil (h : ∀ z ∈ s.zones.entries, z.enabled = false) (d : Dir) (x : Int) :
    boundariesAhead s.zones d x = [] := by
  have hedges : s.zones.entries.flatMap (edgesOf d) = [] :=
    List.flatMap_eq_nil_iff.2 fun z hz => by simp [edgesOf, h z hz]
  simp [boundariesAhead, hedges]

theorem playClear_of_disabled (hm : s.planner.mode = .play) (h : ∀ z ∈ s.zones.entries, z.enabled = false) : PlayClear s :=
  (playClear_iff (.inr hm)).2 (by simp [forbiddingAhead, boundariesAhead_eq_nil h])

/-- The cue is the one play stop point there is. -/
def OnlyCue (s : State) (c : Cue) : Prop :=
  s.cues.list = [c] ∧ c.kind = .autoStop ∧ c.id ∉ s.planner.missed ∧ s.tach.position < c.position

theorem OnlyCue.ahead (h : OnlyCue s c) : stopCuesAhead s .forward s.tach.position = [c] := by
  obtain ⟨hlist, hkind, hmissed, hahead⟩ := h
  simp [stopCuesAhead, stopCueLive, aheadOf, hlist, hkind, hmissed, hahead]

theorem OnlyCue.playCues_eq (h : OnlyCue s c) (hm : s.planner.mode = .play) : playCues s = [c] := by
  rw [playCues, if_pos hm, h.ahead]

theorem OnlyCue.distance (h : OnlyCue s c) : (distanceTo s.tach.position c.position 0 : Int) = c.position - s.tach.position := by
  obtain ⟨-, -, -, hahead⟩ := h
  simp only [distanceTo, mag]
  omega

/-- The distance within which a cue first seen is too late (R106). -/
def lateReach (s : State) : Int := pinchDistance s + stopDistance s s.planner.torque.fwdDec

theorem OnlyCue.late_iff (h : OnlyCue s c) :
    seenTooLate s c = true ↔ (c.id, c.position) ∉ s.planner.seen ∧ c.position - s.tach.position < lateReach s := by
  rw [seenTooLate, h.distance, ← lateReach]
  simp [Cue.key]

/-- A cue seen too late is missed, and the tape plays on. -/
theorem OnlyCue.missed (h : OnlyCue s c) (hm : s.planner.mode = .play) (hfar : PlayClear s) (hlate : seenTooLate s c = true) :
    plannerStep s = afterEvents (markMissed c.id s) := by
  have hdrop : dropPlayCues s = markMissed c.id s := by simp [dropPlayCues, h.playCues_eq hm, hlate]
  have hgone : playCues (markMissed c.id s) = [] := by
    obtain ⟨hlist, -⟩ := h
    simp [playCues, stopCuesAhead, stopCueLive, markMissed, hlist]
  have hcheck : checkPlayStops s = markMissed c.id s := by
    rw [checkPlayStops_cues hfar, hdrop, hgone]
    rfl
  rw [plannerStep_eq, plannerEvents_play (.inr (.inl hm)), hcheck]
  rw [hcheck]
  exact matching_eq_false_of_mode (by simp [markMissed, hm]) (by simp [markMissed, hm])

theorem afterEvents_markMissed (h : OnlyCue s c) (hm : s.planner.mode = .play) :
    OnlyChanges [.planner, .cues] s (afterEvents (markMissed c.id s)) ∧ (afterEvents (markMissed c.id s)).planner.mode = .play ∧
      (afterEvents (markMissed c.id s)).planner.vRef = s.capstan.vPlay ∧
      (afterEvents (markMissed c.id s)).planner.missed = s.planner.missed ++ [c.id] ∧
      (afterEvents (markMissed c.id s)).cues = { s.cues with list := [{ c with mark := .missed }] } := by
  obtain ⟨hlist, -⟩ := h
  rw [afterEvents_play (s := markMissed c.id s) (by simpa [markMissed] using hm)]
  refine ⟨?_, by simp [markMissed, hm], by simp, by simp [markMissed], by simp [markMissed, hlist]⟩
  intro b; cases b <;> simp [sameBlock]

/-- A cue seen in time is no longer dropped. -/
theorem OnlyCue.kept (h : OnlyCue s c) (hm : s.planner.mode = .play) (hlate : seenTooLate s c = false) : dropPlayCues s = s := by
  simp [dropPlayCues, h.playCues_eq hm, hlate]

theorem OnlyCue.check (h : OnlyCue s c) (hm : s.planner.mode = .play) (hfar : PlayClear s) (hlate : seenTooLate s c = false) :
    checkPlayStops s =
      if c.position - s.tach.position ≤ playReach s then stopDemand .controlled .autoStop s else s := by
  rw [checkPlayStops_cues hfar, h.kept hm hlate, h.playCues_eq hm]
  simp [h.distance]

theorem beginStopping_autoStop (sev : Severity) :
    (beginStopping sev .autoStop s).cues =
      { s.cues with pendingStop := ((stopCuesAhead s .forward s.tach.position).head?).map fun c =>
          ({ id := c.id, position := c.position, label := c.label } : PendingStop) } := by
  simp [beginStopping, publishStopCause]
  rfl

/-- Within reach it stops the tape. -/
theorem OnlyCue.stops (h : OnlyCue s c) (hm : s.planner.mode = .play) (hp : s.planner.pinch = .closed)
    (hn : s.planner.stopInForce = none) (hfar : PlayClear s) (hlate : seenTooLate s c = false)
    (hle : c.position - s.tach.position ≤ playReach s) :
    OnlyChanges [.planner, .zones, .cues, .lines, .fault, .link] s (plannerStep s) ∧ (plannerStep s).planner.mode = .stopping ∧
      (plannerStep s).planner.stopInForce = some .controlled ∧ (plannerStep s).planner.stopCause = some .autoStop ∧
      (plannerStep s).planner.pinch = .opening ∧ (plannerStep s).planner.vRef = s.planner.vRef ∧
      (plannerStep s).planner.missed = s.planner.missed ∧
      (plannerStep s).cues = { s.cues with pendingStop := some { id := c.id, position := c.position, label := c.label } } ∧
      (plannerStep s).fault.record = s.fault.record := by
  have hne : s.planner.mode ≠ .stopping := by simp [hm]
  have hplanner := beginStopping_planner_eq (s := s) .controlled .autoStop hne
  have hopen : s.planner.pinch.toOpen = .opening := by rw [hp]; rfl
  rw [plannerStep_stops (.inr (.inl hm)) rfl hn ((h.check hm hfar hlate).trans (if_pos hle)),
    stopDemand_ofPlay .autoStop (.inr hm) hn (by decide),
    afterEvents_stopping_held (by rw [hplanner]) (by simp [hplanner, hopen])]
  refine ⟨(beginStopping_onlyChanges .controlled .autoStop).trans ((holdRef_onlyChanges _).mono (by decide)), ?_⟩
  simp [holdRef, hplanner, hopen, beginStopping_autoStop, h.ahead]

/-- Farther off the tape plays on. -/
theorem OnlyCue.playsOn (h : OnlyCue s c) (hm : s.planner.mode = .play) (hfar : PlayClear s) (hlate : seenTooLate s c = false)
    (hlt : playReach s < c.position - s.tach.position) :
    plannerStep s = s.onPlanner fun p =>
      { p with vRef := s.capstan.vPlay, aRef := 0, inForce := [(c.id, c.position)], seen := [(c.id, c.position)] } := by
  have hcheck : checkPlayStops s = s := (h.check hm hfar hlate).trans (if_neg (by omega))
  have hcues := h.playCues_eq hm
  obtain ⟨hlist, hkind, -⟩ := h
  rw [plannerStep_eq, plannerEvents_play (.inr (.inl hm)), hcheck, afterEvents_play hm, hcues, hlist]
  · simp [autoStops, hkind, Cue.key]
  · rw [hcheck]
    exact matching_eq_false_of_mode (by simp [hm]) (by simp [hm])

end PlayCue

/-! ## Steps that look ahead (R104, R105) -/

section LookAhead

variable {s : State} {d : Dir}

theorem profileStep_toZero (v acc dec : Int) : (profileStep v 0 acc dec).1 = moveToward v 0 (dec / 4) := by
  have hk : dec = if 0 ≤ v * 0 ∧ mag v < mag 0 then acc else dec := (if_neg (by simp [mag])).symm
  rw [profileStep_of hk rfl, mul_zero, if_neg (lt_irrefl _)]

/-- The last step toward 0, at any rate that suffices. -/
theorem profileStep_reaches {v acc dec : Int} (h : (mag v : Int) ≤ dec / 4) : (profileStep v 0 acc dec).1 = 0 := by
  rw [profileStep_toZero]
  exact if_pos (by simpa [mag] using h)

/-- A rate that does not suffice leaves v off 0. -/
theorem profileStep_short {v acc dec : Int} (h : dec / 4 < mag v) : (profileStep v 0 acc dec).1 ≠ 0 := by
  rw [profileStep_toZero]
  unfold moveToward mag at *
  split
  · omega
  · split <;> omega

theorem inReach_iff {a : Int} {q : DropPoint} :
    inReach s a q = true ↔
      neededDistance (mag s.planner.vRef / 1000) q.limit a ≤ distanceTo s.tach.position q.pos q.guard :=
  decide_eq_true_iff

theorem lookAheadRate_eq {dec : Int} (hd : s.planner.travel = some d)
    (hin : (∀ q ∈ dropPoints s d,
      neededDistance (mag s.planner.vRef / 1000) q.limit (aDecEff s d) ≤ distanceTo s.tach.position q.pos q.guard) → dec = aDecEff s d)
    (hout : (∃ q ∈ dropPoints s d,
      (distanceTo s.tach.position q.pos q.guard : Int) < neededDistance (mag s.planner.vRef / 1000) q.limit (aDecEff s d)) →
        dec = s.planner.torque.dec d) : lookAheadRate s = dec := by
  simp only [lookAheadRate, hd]
  split
  next hall => exact (hin fun q hq => inReach_iff.1 (List.all_eq_true.1 hall q hq)).symm
  next hall =>
    obtain ⟨q, hq, hfar⟩ : ∃ q ∈ dropPoints s d, ¬inReach s (aDecEff s d) q = true := by simpa using hall
    exact (hout ⟨q, hq, Int.not_le.1 (mt inReach_iff.2 hfar)⟩).symm

theorem aDecEff_le_torque (s : State) (d : Dir) : aDecEff s d ≤ s.planner.torque.dec d := min_le_right _ _

theorem aDecEff_le_lookAheadRate (hd : s.planner.travel = some d) : aDecEff s d ≤ lookAheadRate s := by
  simp only [lookAheadRate, hd]
  split
  · exact le_refl _
  · exact aDecEff_le_torque s d

/-- Marks change neither where a cue is nor what it is. -/
theorem markMissed_foldl_list (l : List Cue) (s : State) :
    ∃ f : Cue → Cue, (∀ c, (f c).id = c.id ∧ (f c).position = c.position ∧ (f c).kind = c.kind) ∧
      (l.foldl (fun t c => markMissed c.id t) s).cues.list = s.cues.list.map f := by
  induction l generalizing s with
  | nil => exact ⟨id, fun _ => ⟨rfl, rfl, rfl⟩, (List.map_id _).symm⟩
  | cons c l ih =>
    obtain ⟨f, hf, hlist⟩ := ih (markMissed c.id s)
    refine ⟨fun q => f (if q.id = c.id then { q with mark := .missed } else q), fun q => ?_, ?_⟩
    · obtain ⟨hid, hpos, hkind⟩ := hf (if q.id = c.id then { q with mark := .missed } else q)
      rw [hid, hpos, hkind]
      split <;> exact ⟨rfl, rfl, rfl⟩
    · rw [List.foldl_cons, hlist]
      simp [markMissed, Function.comp_def]

/-- Missing cues adds no drop point. -/
theorem dropPoints_dropMissedCues_subset (hd : s.planner.travel = some d) : dropPoints (dropMissedCues s) d ⊆ dropPoints s d := by
  obtain ⟨f, hf, hlist⟩ := markMissed_foldl_list (lostCues s d) s
  rw [← dropMissedCues_eq hd] at hlist
  have hplanner := dropMissedCues_planner hd
  have hzones : zonePoints (dropMissedCues s) d = zonePoints s d := by simp [zonePoints, hplanner]
  have hunit : unitPointsAhead (dropMissedCues s) d = unitPointsAhead s d := by simp [unitPointsAhead, hplanner]
  intro q hq
  simp only [dropPoints, hzones, hunit, List.mem_append, List.mem_map] at hq ⊢
  refine hq.imp_left (Or.imp_right fun ⟨c', hc', hq'⟩ => ?_)
  unfold cuePoints at hc' ⊢
  rw [hplanner] at hc'
  split at hc'
  next hm =>
    rw [if_pos hm]
    simp only [stopCuesAhead, hlist, List.mem_filter, List.mem_map] at hc'
    obtain ⟨⟨c, hc, rfl⟩, hlive⟩ := hc'
    obtain ⟨hid, hpos, hkind⟩ := hf c
    refine ⟨c, ?_, by rw [← hq', hpos]⟩
    simp [stopCueLive, hplanner, hid, hpos, hkind] at hlive
    simp [stopCuesAhead, stopCueLive, hc, hlive]
  next => cases hc'

theorem aDecEff_dropMissedCues (hd : s.planner.travel = some d) (e : Dir) : aDecEff (dropMissedCues s) e = aDecEff s e := by
  simp [aDecEff, dropMissedCues_planner hd]

theorem travel_dropMissedCues (hd : s.planner.travel = some d) : (dropMissedCues s).planner.travel = some d := by
  rw [dropMissedCues_planner hd]
  exact hd

/-- The rate with the lost cues put aside is no greater. -/
theorem lookAheadRate_dropMissedCues_le (hd : s.planner.travel = some d) : lookAheadRate (dropMissedCues s) ≤ lookAheadRate s := by
  have hsub := dropPoints_dropMissedCues_subset hd
  have hplanner := dropMissedCues_planner hd
  have hreach (q : DropPoint) : inReach (dropMissedCues s) (aDecEff s d) q = inReach s (aDecEff s d) q := by
    rw [Bool.eq_iff_iff, inReach_iff, inReach_iff, hplanner]
    simp
  have htorque : (dropMissedCues s).planner.torque = s.planner.torque := by rw [hplanner]
  simp only [lookAheadRate, hd, travel_dropMissedCues hd, aDecEff_dropMissedCues hd, htorque]
  by_cases hall : (dropPoints s d).all (inReach s (aDecEff s d)) = true
  · have hall' : (dropPoints (dropMissedCues s) d).all (inReach (dropMissedCues s) (aDecEff s d)) = true :=
      List.all_eq_true.2 fun q hq => (hreach q).trans (List.all_eq_true.1 hall q (hsub hq))
    rw [if_pos hall, if_pos hall']
  · rw [if_neg hall]
    split
    · exact aDecEff_le_torque s d
    · exact le_refl _

theorem refStep_look (hl : s.planner.mode.looksAhead = true) (hp : s.planner.pinch = .opened) (hd : s.planner.travel = some d) :
    refStep s = profileStep s.planner.vRef (1000 * goalEff s) (aAccEff s d) (lookAheadRate s) := by
  rw [refStep_opened hp, accelRate_of hd, decelRate, if_pos hl, mul_comm]

/-- Under the cap of a reached cue the goal is 0 (R105). -/
theorem goalEff_capped (hl : s.planner.mode.looksAhead = true) (hc : s.planner.autoStopCap = true) : goalEff s = 0 := by
  simp [goalEff, hl, cappedGoal, hc]

end LookAhead
end Sys2Proof.Machine

namespace Sys2Proof.Machine

/-! ## Steps of WIND, and of the units that look ahead (R102 to R105) -/

section Wind

variable {s : State} {d : Dir}

theorem runProfile_wind (hm : s.planner.mode = .wind) (hp : (dropMissedCues s).planner.pinch = .opened) :
    runProfile s =
      publishRef (refStep (dropMissedCues s)).1 (refStep (dropMissedCues s)).2 (dropMissedCues s) := by
  have hlook : s.planner.mode.looksAhead = true := by rw [hm]; rfl
  rw [refStep_opened hp, runProfile, if_pos hlook]

theorem dropMissedCues_same (s : State) :
    (dropMissedCues s).planner.mode = s.planner.mode ∧ (dropMissedCues s).planner.pinch = s.planner.pinch ∧
      (dropMissedCues s).planner.autoStopCap = s.planner.autoStopCap ∧ (dropMissedCues s).planner.vRef = s.planner.vRef ∧
      (dropMissedCues s).planner.travel = s.planner.travel := by
  cases hd : s.planner.travel with
  | none => rw [dropMissedCues_still hd]; exact ⟨rfl, rfl, rfl, rfl, hd⟩
  | some d => rw [dropMissedCues_planner hd]; exact ⟨rfl, rfl, rfl, rfl, hd⟩

theorem moveRef_wind (hm : s.planner.mode = .wind) (hp : s.planner.pinch = .opened) :
    moveRef s =
      windEnd (publishRef (refStep (dropMissedCues s)).1 (refStep (dropMissedCues s)).2 (dropMissedCues s)) := by
  obtain ⟨-, hpinch, -⟩ := dropMissedCues_same s
  rw [← runProfile_wind hm (hpinch.trans hp)]
  simp [moveRef, hm, hp]

theorem windEnd_goesOn (h : s.planner.autoStopCap = false ∨ s.planner.vRef ≠ 0) : windEnd s = s := by
  unfold windEnd
  rcases h with h | h <;> simp [h]

/-- A step in WIND that does not end it: the lost cues are missed, v_ref moves, and the cues are taken up. -/
theorem plannerStep_winds (hm : s.planner.mode = .wind) (hp : s.planner.pinch = .opened)
    (h : s.planner.autoStopCap = false ∨ (refStep (dropMissedCues s)).1 ≠ 0) :
    plannerStep s = (dropMissedCues s).onPlanner fun p =>
      { p with
        vRef := (refStep (dropMissedCues s)).1, aRef := (refStep (dropMissedCues s)).2
        inForce := autoStops (dropMissedCues s).cues.list, seen := [] } := by
  obtain ⟨hmode, -, hcap, -⟩ := dropMissedCues_same s
  rw [plannerStep_eq, plannerEvents_wind hm, afterEvents, moveRef_wind hm hp, windEnd_goesOn (by simpa [hcap] using h),
    noteCues_takes (.inl (by simp [hmode, hm]))]
  rfl

/-- A WIND under the cap that comes to rest at this step ends (R105, R126). -/
theorem plannerStep_windEnds (hm : s.planner.mode = .wind) (hp : s.planner.pinch = .opened) (hc : s.planner.autoStopCap = true)
    (h : (refStep (dropMissedCues s)).1 = 0) :
    ∃ a, plannerStep s = postAutoStop (enterHold .autoStop (publishRef 0 a (dropMissedCues s))) := by
  obtain ⟨hmode, -, hcap, -⟩ := dropMissedCues_same s
  have hend : windEnd (publishRef 0 (refStep (dropMissedCues s)).2 (dropMissedCues s)) =
      postAutoStop (enterHold .autoStop (publishRef 0 (refStep (dropMissedCues s)).2 (dropMissedCues s))) :=
    if_pos ⟨hmode.trans hm, hcap.trans hc, rfl⟩
  refine ⟨(refStep (dropMissedCues s)).2, ?_⟩
  rw [plannerStep_eq, plannerEvents_wind hm, afterEvents, moveRef_wind hm hp, h, hend]
  exact noteCues_other (by simp [enterHold]) (by simp [enterHold]) (by simp [enterHold])

/-- v_ref of a step under the cap (R105). -/
theorem refStep_capped (hm : s.planner.mode = .wind) (hp : s.planner.pinch = .opened) (hc : s.planner.autoStopCap = true) :
    refStep s = profileStep s.planner.vRef 0 (accelRate s) (lookAheadRate s) := by
  have hlook : s.planner.mode.looksAhead = true := by rw [hm]; rfl
  rw [refStep_opened hp, goalEff_capped hlook hc, decelRate, if_pos hlook, zero_mul]

theorem refStep_capped_ends (hm : s.planner.mode = .wind) (hp : s.planner.pinch = .opened) (hc : s.planner.autoStopCap = true)
    (h : ∀ d, s.planner.travel = some d → (mag s.planner.vRef : Int) ≤ aDecEff s d / 4) :
    (refStep (dropMissedCues s)).1 = 0 := by
  obtain ⟨hmode, hpinch, hcap, hv, htravel⟩ := dropMissedCues_same s
  rw [refStep_capped (hmode.trans hm) (hpinch.trans hp) (hcap.trans hc), hv]
  apply profileStep_reaches
  cases hd : s.planner.travel with
  | none =>
    have hv0 : s.planner.vRef = 0 := by
      by_contra hne
      rw [Planner.travel, if_neg hne, dirOf] at hd
      split at hd
      · cases hd
      · rw [if_pos (by omega)] at hd; cases hd
    simp [lookAheadRate, htravel, hd, hv0, mag]
  | some d =>
    have hle := aDecEff_le_lookAheadRate (travel_dropMissedCues hd)
    rw [aDecEff_dropMissedCues hd] at hle
    have hv := h d hd
    omega

theorem refStep_capped_goesOn (hm : s.planner.mode = .wind) (hp : s.planner.pinch = .opened) (hc : s.planner.autoStopCap = true)
    (hd : s.planner.travel = some d) (h : lookAheadRate s / 4 < mag s.planner.vRef) : (refStep (dropMissedCues s)).1 ≠ 0 := by
  obtain ⟨hmode, hpinch, hcap, hv, -⟩ := dropMissedCues_same s
  rw [refStep_capped (hmode.trans hm) (hpinch.trans hp) (hcap.trans hc), hv]
  have hle := lookAheadRate_dropMissedCues_le hd
  exact profileStep_short (by omega)

/-- A WIND that goes on at this step. -/
theorem windGoesOn (hm : s.planner.mode = .wind) (hp : s.planner.pinch = .opened) (hd : s.planner.travel = some d)
    (h : s.planner.autoStopCap = false ∨ lookAheadRate s / 4 < mag s.planner.vRef) :
    s.planner.autoStopCap = false ∨ (refStep (dropMissedCues s)).1 ≠ 0 := by
  cases hc : s.planner.autoStopCap with
  | false => exact .inl rfl
  | true => exact .inr (refStep_capped_goesOn hm hp hc hd (h.resolve_left (by simp [hc])))

/-- The cues missed at a step of WIND (R105). -/
theorem plannerStep_wind_missed (hm : s.planner.mode = .wind) (hp : s.planner.pinch = .opened) (hd : s.planner.travel = some d)
    (h : s.planner.autoStopCap = false ∨ lookAheadRate s / 4 < mag s.planner.vRef) :
    OnlyChanges [.planner, .cues] s (plannerStep s) ∧
      ∀ i, i ∈ (plannerStep s).planner.missed ↔ i ∈ s.planner.missed ∨ ∃ c ∈ cuePoints s d, c.id = i ∧
        (mag (c.position - s.tach.position) : Int) < neededDistance (mag s.planner.vRef / 1000) 0 (s.planner.torque.dec d) := by
  rw [plannerStep_winds hm hp (windGoesOn hm hp hd h)]
  refine ⟨(dropMissedCues_onlyChanges s).trans ((State.onPlanner_onlyChanges _ _).mono (by decide)), fun i => ?_⟩
  have hmissed : i ∈ (lostCues s d).map Cue.id ↔ ∃ c ∈ cuePoints s d, c.id = i ∧
      (mag (c.position - s.tach.position) : Int) < neededDistance (mag s.planner.vRef / 1000) 0 (s.planner.torque.dec d) := by
    simp only [List.mem_map, mem_lostCues_iff, Planner.speed]
    exact exists_congr fun c => ⟨fun ⟨⟨hc, hlt⟩, hi⟩ => ⟨hc, hi, hlt⟩, fun ⟨hc, hi, hlt⟩ => ⟨⟨hc, hlt⟩, hi⟩⟩
  simp [dropMissedCues_planner hd, ← hmissed]

theorem postAutoStop_link {r : PendingStop} (h : s.cues.pendingStop = some r) :
    (postAutoStop s).link = txTake (enqueueNotice
      (.autoStop r.id r.position s.tach.position (s.tach.position - r.position) r.label) s.link) := by
  simp [postAutoStop, h]

/-- What the end of a capped WIND leaves (R105, R126). -/
theorem windEnd_rests (hm : s.planner.mode = .wind) (hp : s.planner.pinch = .opened) (hc : s.planner.autoStopCap = true)
    (h : ∀ d, s.planner.travel = some d → (mag s.planner.vRef : Int) ≤ aDecEff s d / 4) :
    OnlyChanges [.planner, .cues, .lines, .fault, .link] s (plannerStep s) ∧ (plannerStep s).planner.mode = .hold ∧
      (plannerStep s).planner.vRef = 0 ∧ (plannerStep s).planner.goal = 0 ∧ (plannerStep s).planner.stopInForce = none ∧
      (plannerStep s).cues.pendingStop = none ∧ (plannerStep s).fault.record = s.fault.record ∧
      ∀ r, s.cues.pendingStop = some r →
        (plannerStep s).link = txTake (enqueueNotice
          (.autoStop r.id r.position s.tach.position (s.tach.position - r.position) r.label)
          (txTake (enqueueNotice (.mode .hold none .wind none .autoStop) s.link))) := by
  obtain ⟨a, hstep⟩ := plannerStep_windEnds hm hp hc (refStep_capped_ends hm hp hc h)
  obtain ⟨hmode, -⟩ := dropMissedCues_same s
  have hwind : (publishRef 0 a (dropMissedCues s)).planner.mode = .wind := hmode.trans hm
  have hne : (publishRef 0 a (dropMissedCues s)).planner.mode ≠ .hold := by rw [hwind]; decide
  have hposition : (enterHold .autoStop (publishRef 0 a (dropMissedCues s))).tach = s.tach := by simp [publishRef]
  have hlink : (enterHold .autoStop (publishRef 0 a (dropMissedCues s))).link =
      txTake (enqueueNotice (.mode .hold none .wind none .autoStop) s.link) := by
    rw [enterHold_link _ hne, hwind, Link.posted_one]
    simp [publishRef]
  rw [hstep]
  refine ⟨fun b => by cases b <;> simp [sameBlock, publishRef], ?_⟩
  simp only [postAutoStop_frame, enterHold_planner_eq _ hne, enterHold_record, postAutoStop_empties]
  refine ⟨trivial, rfl, trivial, trivial, trivial, by simp [publishRef], fun r hr => ?_⟩
  have hpending : (enterHold .autoStop (publishRef 0 a (dropMissedCues s))).cues.pendingStop = some r := by
    simpa [publishRef, dropMissedCues_pending] using hr
  rw [postAutoStop_link hpending, hlink, hposition]

end Wind

/-! The steps of the look-ahead modes together (R101 to R105). -/

section Looks

variable {s : State} {d : Dir}

/-- What a step that looks ahead leaves, v_ref and a_ref given: in WIND it takes up the cues, and in the run-up of a chase it counts the
match. -/
def lookMove (s : State) (v a : Int) : State :=
  s.onPlanner fun p =>
    { p with
      vRef := v, aRef := a
      inForce := if s.planner.mode = .wind then autoStops s.cues.list else p.inForce
      seen := if s.planner.mode = .wind then [] else p.seen
      matchRun := if s.planner.mode = .chase ∧ s.chase.state = .runup then matchRunNext s else p.matchRun
      matchTimer := if s.planner.mode = .chase ∧ s.chase.state = .runup then matchTimerNext s else p.matchTimer }

/-- The modes of a step that looks ahead, with the pinch OPEN and no event of its own. -/
def LooksOn (s : State) : Prop :=
  s.planner.mode = .locate ∨ s.planner.mode = .survey ∨
    (s.planner.mode = .chase ∧
      (s.chase.state = .runup → closesNow s = false ∧ ∀ k, matchTimerNext s = some k → k < 12000)) ∨
    (s.planner.mode = .wind ∧ (s.planner.autoStopCap = false ∨ lookAheadRate s / 4 < mag s.planner.vRef))

theorem LooksOn.looksAhead (h : LooksOn s) : s.planner.mode.looksAhead = true := by
  rcases h with h | h | ⟨h, -⟩ | ⟨h, -⟩ <;> rw [h] <;> rfl

theorem plannerStep_looks_unit (hm : s.planner.mode = .locate ∨ s.planner.mode = .survey ∨ s.planner.mode = .chase)
    (hp : s.planner.pinch = .opened) (hmatch : matching s = false) :
    plannerStep s = lookMove s (refStep s).1 (refStep s).2 := by
  have hwind : ¬s.planner.mode = .wind := by rcases hm with h | h | h <;> simp [h]
  have hrun : ¬(s.planner.mode = .chase ∧ s.chase.state = .runup) := fun h => by
    rw [matching_iff.2 ⟨.inr h, hp⟩] at hmatch
    cases hmatch
  rw [plannerStep_eq, plannerEvents_unit hm (by rw [hp]; rfl) hmatch, afterEvents_unit hm]
  simp only [lookMove, if_neg hwind, if_neg hrun]
  rfl

theorem plannerStep_looks_runup (hm : s.planner.mode = .chase) (hr : s.chase.state = .runup) (hp : s.planner.pinch = .opened)
    (hc : closesNow s = false) (ht : ∀ k, matchTimerNext s = some k → k < 12000) :
    plannerStep s = lookMove s (refStep s).1 (refStep s).2 := by
  have hwind : ¬s.planner.mode = .wind := by simp [hm]
  have hmatch : matching s = true := matching_iff.2 ⟨.inr ⟨hm, hr⟩, hp⟩
  have hsame : refStep (s.onPlanner fun p => { p with matchRun := matchRunNext s, matchTimer := matchTimerNext s }) = refStep s := rfl
  rw [plannerStep_eq, plannerEvents_matching hmatch (fun he => absurd (hm.symm.trans he) nofun), matchStep_counts hc ht,
    afterEvents_unit (by simp [hm]), hsame]
  simp only [lookMove, if_neg hwind, if_pos (And.intro hm hr)]
  rfl

theorem plannerStep_looks_wind (hm : s.planner.mode = .wind) (hp : s.planner.pinch = .opened) (hd : s.planner.travel = some d)
    (h : s.planner.autoStopCap = false ∨ lookAheadRate s / 4 < mag s.planner.vRef) (hlost : lostCues s d = []) :
    plannerStep s = lookMove s (refStep s).1 (refStep s).2 := by
  have hdrop : dropMissedCues s = s := by rw [dropMissedCues_eq hd, hlost]; rfl
  have hrun : ¬(s.planner.mode = .chase ∧ s.chase.state = .runup) := by simp [hm]
  rw [plannerStep_winds hm hp (windGoesOn hm hp hd h), hdrop]
  simp only [lookMove, if_pos hm, if_neg hrun]

/-- A step that looks ahead, with no cue lost at it, moves v_ref by the profile. -/
theorem plannerStep_looks (hm : LooksOn s) (hp : s.planner.pinch = .opened) (hd : s.planner.travel = some d)
    (hlost : lostCues s d = []) : plannerStep s = lookMove s (refStep s).1 (refStep s).2 := by
  rcases hm with h | h | ⟨h, hrun⟩ | ⟨h, hcap⟩
  · exact plannerStep_looks_unit (.inl h) hp (matching_eq_false_of_mode (by simp [h]) (by simp [h]))
  · exact plannerStep_looks_unit (.inr (.inl h)) hp (matching_eq_false_of_mode (by simp [h]) (by simp [h]))
  · by_cases hr : s.chase.state = .runup
    · obtain ⟨hc, ht⟩ := hrun hr
      exact plannerStep_looks_runup h hr hp hc ht
    · exact plannerStep_looks_unit (.inr (.inr h)) hp (matching_eq_false_of_state (by simp [h]) hr)
  · exact plannerStep_looks_wind h hp hd hcap hlost

/-- The same, v_ref and a_ref given. -/
theorem plannerStep_looks_to {v a : Int} (hm : LooksOn s) (hp : s.planner.pinch = .opened) (hd : s.planner.travel = some d)
    (hlost : lostCues s d = [])
    (h : profileStep s.planner.vRef (1000 * goalEff s) (aAccEff s d) (lookAheadRate s) = (v, a)) : plannerStep s = lookMove s v a := by
  rw [plannerStep_looks hm hp hd hlost, refStep_look hm.looksAhead hp hd, h]

/-! A WIND with no zone, cue or unit in the way (R102). -/

/-- WIND forward with nothing ahead. -/
def FreeWind (s : State) : Prop :=
  s.planner.mode = .wind ∧ s.planner.pinch = .opened ∧ s.planner.autoStopCap = false ∧ s.planner.unitPoints = [] ∧
    s.cues.list = [] ∧ (∀ z ∈ s.zones.entries, z.enabled = false) ∧ 0 < s.planner.goal

theorem FreeWind.dropPoints_eq (h : FreeWind s) : dropPoints s d = [] := by
  obtain ⟨hm, -, -, hunit, hcues, hzones, -⟩ := h
  simp [dropPoints, zonePoints, boundariesAhead_eq_nil hzones, cuePoints, stopCuesAhead, hcues, unitPointsAhead, hunit]

theorem FreeWind.lookAheadRate_eq (h : FreeWind s) (hd : s.planner.travel = some d) : lookAheadRate s = aDecEff s d := by
  simp [lookAheadRate, hd, h.dropPoints_eq]

theorem FreeWind.goalEff_eq (h : FreeWind s) (hd : s.planner.travel = some d) :
    1000 * goalEff s = 1000 * min (min s.planner.goal (vMaxEff s)) s.zones.current.limit := by
  have hpoints := h.dropPoints_eq (d := d)
  obtain ⟨hm, -, hcap, -, -, -, hgoal⟩ := h
  have hlook : s.planner.mode.looksAhead = true := by rw [hm]; rfl
  have habs : (mag s.planner.goal : Int) = s.planner.goal := by unfold mag; omega
  simp [goalEff, hlook, not_lt.2 hgoal.le, cappedGoal, hcap, hd, hpoints, habs]

/-- A free step in WIND, v_ref and a_ref given. -/
theorem FreeWind.moves (h : FreeWind s) (hv : 0 ≤ s.planner.vRef) {v a g : Int}
    (hg : g = 1000 * min (min s.planner.goal (vMaxEff s)) s.zones.current.limit)
    (hstep : profileStep s.planner.vRef g (aAccEff s .forward) (aDecEff s .forward) = (v, a)) :
    plannerStep s = s.onPlanner fun p => { p with vRef := v, aRef := a, inForce := [], seen := [] } := by
  obtain ⟨hm, hp, hcap, -, hcues, -, hgoal⟩ := id h
  have hd := travel_forward hv (.inr hgoal)
  have hlost : lostCues s .forward = [] := by simp [lostCues, cuePoints, stopCuesAhead, hcues]
  have hprofile : profileStep s.planner.vRef (1000 * goalEff s) (aAccEff s .forward) (lookAheadRate s) = (v, a) := by
    rw [h.goalEff_eq hd, h.lookAheadRate_eq hd, ← hg, hstep]
  rw [plannerStep_looks_to (.inr (.inr (.inr ⟨hm, .inl hcap⟩))) hp hd hlost hprofile]
  simp [lookMove, hm, hcues, autoStops]

end Looks
end Sys2Proof.Machine

namespace Sys2Proof.Machine

/-! ## Obligation O50, clause by clause -/

section Clauses

variable {s : State}

theorem exec_plannerStep_eq {t : State} (hs : s.held = none) (h : plannerStep s = t) : exec .plannerStep s = .next t := by
  rw [exec_plannerStep hs, h]

theorem closesNow_eq_false_of {run : Nat} (hrun : matchRunNext s = run)
    (h : ¬(run = 40 ∧ (s.capstan.lock = .locked ∨ s.capstan.lock = .holdover))) : closesNow s = false :=
  Bool.eq_false_iff.2 fun hc => by
    obtain ⟨h40, hfit⟩ := closesNow_iff.1 hc
    exact h ⟨hrun.symm.trans h40, (LockState.fit_iff _).1 hfit⟩

theorem matchRunNext_ite (s : State) :
    matchRunNext s =
      if (mag (s.tach.vMeas - s.capstan.vPlay) : Int) ≤ s.capstan.vPlay / 100 then min 40 (s.planner.matchRun + 1) else 0 :=
  matchRunNext_eq Iff.rfl ⟨fun h => by rw [if_pos h], fun h => by rw [if_neg h]⟩

/-- R94, R101: v_ref in ENGAGING with the pinch OPEN. -/
theorem engaging_moves {v g : Int} {move : Int → Int → State} (hs : s.held = none) (hm : s.planner.mode = .engaging)
    (hfar : PlayClear s) (hp : s.planner.pinch = .opened) (hc : closesNow s = false)
    (ht : ∀ k, matchTimerNext s = some k → k < 12000) (hv : v = s.planner.vRef) (hg : g = 1000 * playGoal s) (hpos : 0 < g)
    (hmove : ∀ v1 a1, move v1 a1 = s.onPlanner fun p =>
      { p with
        goal := playGoal s, matchRun := matchRunNext s, matchTimer := matchTimerNext s, vRef := v1, aRef := a1
        inForce := autoStops s.cues.list, seen := [] }) :
    (0 ≤ v → v < g → 4 ≤ aAccEff s .forward →
      exec .plannerStep s = .next (move (min g (v + aAccEff s .forward / 4)) (aAccEff s .forward))) ∧
    (g < v → 4 ≤ aDecEff s .forward →
      exec .plannerStep s = .next (move (max g (v - aDecEff s .forward / 4)) (-aDecEff s .forward))) ∧
    (v = g → 0 ≤ aDecEff s .forward → exec .plannerStep s = .next (move v 0)) ∧
    (v < 0 → 4 ≤ aDecEff s .reverse →
      exec .plannerStep s = .next (move (min 0 (v + aDecEff s .reverse / 4)) (aDecEff s .reverse))) := by
  subst hv
  have hfwd (h : 0 ≤ s.planner.vRef) : (engaged s).planner.travel = some .forward :=
    travel_forward h (.inr (show 0 < playGoal s by omega))
  have hstep {d : Dir} {v1 a1 : Int} (hd : (engaged s).planner.travel = some d)
      (h : profileStep s.planner.vRef g (aAccEff s d) (aDecEff s d) = (v1, a1)) : exec .plannerStep s = .next (move v1 a1) :=
    exec_plannerStep_eq hs ((plannerStep_engaged hm hfar hp hc ht hd (by rw [← hg]; exact h)).trans (hmove v1 a1).symm)
  refine ⟨fun h0 hlt ha => hstep (hfwd h0) ?_, fun hlt hd => hstep (hfwd (by omega)) ?_, fun heq hd => hstep (hfwd (by omega)) ?_,
    fun hneg hd => hstep (travel_reverse hneg) ?_⟩
  · rw [profileStep_faster (mul_nonneg h0 hpos.le) (by unfold mag; omega) ha, if_pos hpos]
  · rw [profileStep_slower (mul_nonneg (by omega) hpos.le) (by unfold mag; omega) hd, if_pos (by omega)]
  · rw [← heq, profileStep_steady hd]
  · rw [profileStep_turning (mul_neg_of_neg_of_pos hneg hpos) hd, if_neg (by omega)]

/-- R102: v_ref in a WIND with nothing ahead. -/
theorem freeWind_moves {v g : Int} (hs : s.held = none) (h : FreeWind s)
    (hg : g = 1000 * min (min s.planner.goal (vMaxEff s)) s.zones.current.limit) (hv : v = s.planner.vRef) (h0 : 0 ≤ v) :
    (v < g → 4 ≤ aAccEff s .forward →
      exec .plannerStep s =
        .next (s.onPlanner fun p =>
          { p with vRef := min g (v + aAccEff s .forward / 4), aRef := aAccEff s .forward, inForce := [], seen := [] })) ∧
    (g < v → 4 ≤ aDecEff s .forward →
      exec .plannerStep s =
        .next (s.onPlanner fun p =>
          { p with vRef := max g (v - aDecEff s .forward / 4), aRef := -aDecEff s .forward, inForce := [], seen := [] })) ∧
    (v = g → 0 ≤ aDecEff s .forward →
      exec .plannerStep s = .next (s.onPlanner fun p => { p with aRef := 0, inForce := [], seen := [] })) := by
  subst hv
  have hgoal : 0 ≤ g := by
    obtain ⟨-, -, -, -, -, -, hpos⟩ := h
    omega
  refine ⟨fun hlt ha => exec_plannerStep_eq hs (h.moves h0 hg ?_), fun hlt hd => exec_plannerStep_eq hs (h.moves h0 hg ?_),
    fun heq hd => exec_plannerStep_eq hs ((h.moves h0 hg (v := s.planner.vRef) (a := 0) ?_).trans rfl)⟩
  · rw [profileStep_faster (mul_nonneg h0 hgoal) (by unfold mag; omega) ha, if_pos (by omega)]
  · rw [profileStep_slower (mul_nonneg h0 hgoal) (by unfold mag; omega) hd, if_pos (by omega)]
  · rw [← heq, profileStep_steady hd]

/-- R101 to R105: v_ref of a step that looks ahead and loses no cue. -/
theorem looks_moves {d : Dir} {v g acc dec : Int} {move : Int → Int → State} (hs : s.held = none) (hm : LooksOn s)
    (hp : s.planner.pinch = .opened) (hd : s.planner.travel = some d) (hlost : lostCues s d = []) (hv : v = s.planner.vRef)
    (hg : g = 1000 * goalEff s) (hacc : acc = aAccEff s d) (hdec : lookAheadRate s = dec) (hmove : move = lookMove s) :
    (mag v < mag g → 0 ≤ v * g → 4 ≤ acc →
      exec .plannerStep s = .next (if 0 < g then move (min g (v + acc / 4)) acc else move (max g (v - acc / 4)) (-acc))) ∧
    (mag g < mag v → 0 ≤ v * g → 4 ≤ dec →
      exec .plannerStep s = .next (if 0 < v then move (max g (v - dec / 4)) (-dec) else move (min g (v + dec / 4)) dec)) ∧
    (v * g < 0 → 4 ≤ dec →
      exec .plannerStep s = .next (if 0 < v then move (max 0 (v - dec / 4)) (-dec) else move (min 0 (v + dec / 4)) dec)) ∧
    (v = g → 0 ≤ dec → exec .plannerStep s = .next (move v 0)) := by
  subst hv hacc hdec hmove
  have hstep {v1 a1 : Int} (h : profileStep s.planner.vRef g (aAccEff s d) (lookAheadRate s) = (v1, a1)) :
      exec .plannerStep s = .next (lookMove s v1 a1) :=
    exec_plannerStep_eq hs (plannerStep_looks_to hm hp hd hlost (by rw [← hg]; exact h))
  refine ⟨fun hlt hsign h4 => ?_, fun hlt hsign h4 => ?_, fun hsign h4 => ?_, fun heq h0 => hstep ?_⟩
  · have hprofile := profileStep_faster (dec := lookAheadRate s) hsign hlt h4
    split
    next h => exact hstep (hprofile.trans (if_pos h))
    next h => exact hstep (hprofile.trans (if_neg h))
  · have hprofile := profileStep_slower (acc := aAccEff s d) hsign hlt h4
    split
    next h => exact hstep (hprofile.trans (if_pos h))
    next h => exact hstep (hprofile.trans (if_neg h))
  · have hprofile := profileStep_turning (acc := aAccEff s d) hsign h4
    split
    next h => exact hstep (hprofile.trans (if_pos h))
    next h => exact hstep (hprofile.trans (if_neg h))
  · rw [← heq, profileStep_steady h0]

/-- R99: what the step leaves at which a stop comes to rest. -/
theorem stopping_rests (hm : s.planner.mode = .stopping) (hp : s.planner.pinch = .opened)
    (h : (s.planner.vRef = 0 ∧ s.planner.goal = 0) ∨
      ∃ (d : Dir) (a : Int), dirOf s.planner.vRef = some d ∧ 4 ≤ a ∧ mag s.planner.vRef ≤ a / 4 ∧
        a = (if s.planner.stopInForce = some .fast then s.planner.torque.dec d else aDecEff s d)) :
    OnlyChanges [.planner, .zones, .cues, .lines, .fault, .link] s (plannerStep s) ∧ (plannerStep s).planner.mode = .hold ∧
      (plannerStep s).planner.vRef = 0 ∧ (plannerStep s).planner.goal = 0 ∧ (plannerStep s).planner.stopInForce = none ∧
      (plannerStep s).planner.stopCause = none ∧ (plannerStep s).lines.brakeS = s.lines.brakeS ∧
      (plannerStep s).zones.entries = s.zones.entries ∧
      (s.planner.stopCause = some .autoStop → (plannerStep s).cues.pendingStop = none) ∧
      (s.planner.stopCause = some .zone → (plannerStep s).zones.pendingBlock = none) ∧
      (plannerStep s).fault.record = s.fault.record ∧
      ∀ k, s.planner.stopCause = some k → k ≠ .autoStop → k ≠ .zone →
        (plannerStep s).link = txTake (enqueueNotice (.mode .hold none .stopping none (modeCauseOf k)) s.link) := by
  obtain ⟨a, hend⟩ := stopping_ends hm hp h
  have hstop : (publishRef 0 a s).planner.mode = .stopping := hm
  have hne : (publishRef 0 a s).planner.mode ≠ .hold := by rw [hstop]; decide
  obtain ⟨hsame, hhold, hv, hgoal, hforce, hcause, hbrake, hzones, hrecord⟩ := endStop_rests hstop
  rw [plannerStep_stopping hm, hend]
  refine ⟨((publishRef_onlyChanges _ _).mono (by decide)).trans hsame, hhold, hv, hgoal, hforce, hcause, hbrake, hzones,
    fun hk => endStop_autoStop hk, fun hk => endStop_zone hk, hrecord, fun k hk ha hz => ?_⟩
  rw [endStop_plain (s := publishRef 0 a s) hk hz ha, enterHold_link _ hne, hstop]
  rfl

end Clauses
end Sys2Proof.Machine

namespace Sys2Proof.Machine

section O50

variable {s : State}

/-- R88: the steps of LOADING. -/
theorem loading_steps (hs : s.held = none) (hm : s.planner.mode = .loading) :
    (s.planner.sub ≠ some .takeUp → s.planner.sub ≠ some .probeCreep →
      exec .plannerStep s = .next (s.onPlanner fun p => { p with vRef := 0, aRef := 0 })) ∧
    (∀ run time : Nat, s.planner.sub = some .takeUp → s.planner.stageTimer = some time → run < 40 →
      run = (if mag s.sense.arms.supply.p ≤ 200 ∧ mag s.sense.arms.takeup.p ≤ 200 then s.planner.armRun + 1 else 0) →
      (time + 1 < 12000 →
        exec .plannerStep s =
          .next (s.onPlanner fun p => { p with armRun := run, stageTimer := some (time + 1), vRef := 0, aRef := 0 })) ∧
      (12000 ≤ time + 1 → exec .plannerStep s = exec .loadTimeout s)) ∧
    (∀ g v : Int, s.planner.sub = some .probeCreep → g = 1000 * s.planner.goal → v = s.planner.vRef → 0 < g → 0 ≤ v → v ≤ g →
      4 ≤ aAccEff s .forward → 0 ≤ aDecEff s .forward →
        exec .plannerStep s =
          .next (s.onPlanner fun p =>
            { p with
              vRef := min g (v + aAccEff s .forward / 4), aRef := if v = g then 0 else aAccEff s .forward })) := by
  refine ⟨fun ht hc => exec_plannerStep_eq hs ((plannerStep_loading hm ht).trans (if_neg hc)),
    fun run time hsub ht h40 hrun => ⟨fun h12 => ?_, fun h12 => ?_⟩,
    fun g v hsub hg hv hpos h0 hle ha hd => exec_plannerStep_eq hs (plannerStep_creeps hm hsub hg hv hpos h0 hle ha hd)⟩
  · exact exec_plannerStep_eq hs (plannerStep_takesUp hm hsub ht (armRunNext_eq hrun) h40 h12)
  · rw [exec_plannerStep hs, exec_loadTimeout hs, if_pos ⟨hm, hsub⟩,
      plannerStep_takeUpFails hm hsub ht (armRunNext_eq hrun) h40 h12]

/-- R90: the steps of UNLOADING. -/
theorem unloading_steps (hs : s.held = none) (hm : s.planner.mode = .unloading) :
    (s.planner.sub ≠ some .rampDown ∨ s.servo.settled = false →
      exec .plannerStep s = .next (s.onPlanner fun p => { p with vRef := 0, aRef := 0 })) ∧
    (s.planner.sub = some .rampDown → s.servo.settled = true →
      ∃ t, exec .plannerStep s = .next t ∧ OnlyChanges [.planner, .lines, .fault, .link] s t ∧
        t.planner.mode = .unloading ∧ t.planner.sub = some .brakeSet ∧ t.planner.vRef = 0 ∧
        t.planner.brake = (if s.planner.brake = .applied then .applied else .applying) ∧ t.lines.brakeS = true ∧
        t.lines.brakeT = true ∧ t.fault.record = s.fault.record) := by
  refine ⟨fun h => exec_plannerStep_eq hs (plannerStep_unloading hm h), fun hsub hset =>
    ⟨_, exec_plannerStep_eq hs (plannerStep_rampedDown hm hsub hset), ?_⟩⟩
  obtain ⟨hsame, hbrakeS, hbrakeT, hrecord⟩ := rampedDown_sets (s := s)
  exact ⟨hsame, by simp, by simp, rfl, by simp [BrakeState.toApply], hbrakeS, hbrakeT, hrecord⟩

/-- R100: the steps of BRAKING. -/
theorem braking_steps {run : Nat} (hs : s.held = none) (hm : s.planner.mode = .braking) (hrun : standRunNext s = run) :
    (run < 40 →
      exec .plannerStep s = .next (s.onPlanner fun p => { p with standRun := run, vRef := 0, aRef := 0 }) ∧
      exec .brakingStandstill s = .next s) ∧
    (run = 40 →
      ∃ t, exec .plannerStep s = .next t ∧ exec .brakingStandstill s = .next t ∧
        OnlyChanges [.planner, .lines, .fault, .link] s t ∧ t.planner.mode = .braked ∧ t.planner.vRef = 0 ∧
        t.planner.stopInForce = none ∧ t.planner.stopCause = none ∧ t.planner.brake = s.planner.brake ∧
        t.fault.record = s.fault.record) := by
  subst hrun
  refine ⟨fun h => ⟨exec_plannerStep_eq hs (plannerStep_braking hm h), ?_⟩, fun h => ?_⟩
  · rw [exec_brakingStandstill hs, if_neg (by simp [standstillFalls_iff, hm, h])]
  · obtain ⟨hsame, hbraked, hforce, hcause, hbrake, hrecord⟩ := enterBraked_rest s
    refine ⟨_, exec_plannerStep_eq hs (plannerStep_standstill hm h.ge), ?_, ?_⟩
    · rw [exec_brakingStandstill hs, if_pos (standstillFalls_iff.2 ⟨hm, h.ge⟩), plannerStep_standstill hm h.ge]
    · exact ⟨hsame.trans ((publishRef_onlyChanges _ _).mono (by decide)), hbraked, rfl, hforce, hcause, hbrake, hrecord⟩

/-- R106: the steps of PLAY with one AUTO_STOP cue, which lies ahead. -/
theorem playCue_steps {c : Cue} {dist : Int} (hs : s.held = none) (h : OnlyCue s c) (hm : s.planner.mode = .play)
    (hp : s.planner.pinch = .closed) (hn : s.planner.stopInForce = none) (hzones : ∀ z ∈ s.zones.entries, z.enabled = false)
    (hdist : dist = c.position - s.tach.position) :
    ((c.id, c.position) ∉ s.planner.seen → dist < lateReach s →
      ∃ t, exec .plannerStep s = .next t ∧ OnlyChanges [.planner, .cues] s t ∧ t.planner.mode = .play ∧
        t.planner.vRef = s.capstan.vPlay ∧ t.planner.missed = s.planner.missed ++ [c.id] ∧
        t.cues = { s.cues with list := [{ c with mark := .missed }] }) ∧
    ((c.id, c.position) ∈ s.planner.seen ∨ lateReach s ≤ dist →
      (dist ≤ playReach s →
        ∃ t, exec .plannerStep s = .next t ∧ OnlyChanges [.planner, .zones, .cues, .lines, .fault, .link] s t ∧
          t.planner.mode = .stopping ∧ t.planner.stopInForce = some .controlled ∧ t.planner.stopCause = some .autoStop ∧
          t.planner.pinch = .opening ∧ t.planner.vRef = s.planner.vRef ∧ t.planner.missed = s.planner.missed ∧
          t.cues = { s.cues with pendingStop := some { id := c.id, position := c.position, label := c.label } } ∧
          t.fault.record = s.fault.record) ∧
      (playReach s < dist →
        exec .plannerStep s =
          .next (s.onPlanner fun p =>
            { p with vRef := s.capstan.vPlay, aRef := 0, inForce := [(c.id, c.position)], seen := [(c.id, c.position)] }))) := by
  subst hdist
  have hfar := playClear_of_disabled hm hzones
  refine ⟨fun hnew hlt => ?_, fun hseen => ?_⟩
  · exact ⟨_, exec_plannerStep_eq hs (h.missed hm hfar (h.late_iff.2 ⟨hnew, hlt⟩)), afterEvents_markMissed h hm⟩
  · have hlate : seenTooLate s c = false := Bool.eq_false_iff.2 fun hl => by
      obtain ⟨hnew, hlt⟩ := h.late_iff.1 hl
      exact hseen.elim (fun hin => hnew hin) fun hle => absurd hlt (by omega)
    exact ⟨fun hle => ⟨_, exec_plannerStep hs, h.stops hm hp hn hfar hlate hle⟩,
      fun hlt => exec_plannerStep_eq hs (h.playsOn hm hfar hlate hlt)⟩

/-- Settles O50: each mode's step by its own lemma above; the order inside a step, events first and then v_ref, is `plannerStep_eq`. -/
theorem plannerStepsMoveTheReference : Obligations.PlannerStepsMoveTheReference := by
  refine ⟨goalEff_bounded, fun s hs => ⟨fun hm => exec_plannerStep_eq hs (plannerStep_rest hm),
    fun dist far stops hdist hfar hstops => ⟨fun hf hm hcues => ?plays, fun hf hm => ⟨fun hp => ?closed, fun hp => ?opening,
      fun run timer v g move hp hrun htimer hfit ht hv hg hpos hmove => ?engaging⟩, fun hf hm hp hn => ?zone,
      fun hf hm hp hn h4 hlt => ?zoneOpen, fun clear hm hp hclear => ⟨fun hc => ?follows, fun hc hn => ?chaseStops⟩⟩,
    fun g v hm hp hcap hunit hcues hzones hgoal hg hv h0 => ?wind, fun hm => loading_steps hs hm, fun hm => unloading_steps hs hm,
    fun hm hp => exec_plannerStep_eq hs (plannerStep_unit_opening hm hp),
    fun hm hp => exec_plannerStep_eq hs (plannerStep_stopping_held hm hp),
    fun hm hp => exec_plannerStep_eq hs (plannerStep_wind_opening hm hp),
    fun hm hp hv hg => exec_plannerStep_eq hs (plannerStep_unit_still hm hp hv hg),
    fun d v g acc dec run timer move hp hrun htimer hm hv hg hd hacc hin hout hmove => ?looks,
    fun hm hp hcap h => ⟨_, exec_plannerStep hs, windEnd_rests hm hp hcap h⟩,
    fun c dist slow fast hm hp hn hzones hlist hkind hmissed hdist hpos hslow hfast => ?playCue,
    fun d v a hm hp hv hd ha h4 hlt => ?stops, fun hm hp h => ⟨_, exec_plannerStep hs, stopping_rests hm hp h⟩,
    fun run hm _ hrun => braking_steps hs hm hrun.symm⟩⟩
  case plays =>
    rw [hfar, hdist, ← playReach_eq, ← playClear_iff (.inr hm)] at hf
    exact exec_plannerStep_eq hs (plannerStep_plays hm hf hcues)
  case closed =>
    rw [hfar, hdist, ← playReach_eq, ← playClear_iff (.inl hm)] at hf
    subst hstops
    refine exec_plannerStep_eq hs (plannerStep_engaging_idle hm hf (fun h => ?_) (refStep_closed hp))
    rw [h] at hp
    cases hp
  case opening =>
    rw [hfar, hdist, ← playReach_eq, ← playClear_iff (.inl hm)] at hf
    subst hstops
    exact exec_plannerStep_eq hs (plannerStep_engaging_idle hm hf (by simp [hp]) (refStep_opening hp))
  case engaging =>
    rw [hfar, hdist, ← playReach_eq, ← playClear_iff (.inl hm)] at hf
    obtain rfl : matchRunNext s = run := (matchRunNext_ite s).trans hrun.symm
    obtain rfl : matchTimerNext s = timer := matchTimerNext_eq.trans htimer.symm
    subst hstops
    exact engaging_moves hs hm hf hp (closesNow_eq_false_of rfl hfit) ht hv hg hpos hmove
  case zone =>
    rw [hfar, hdist, ← playReach_eq, ← playClear_iff hm] at hf
    exact ⟨_, exec_plannerStep hs, zoneStops_closed hm hn hp hf⟩
  case zoneOpen =>
    rw [hfar, hdist, ← playReach_eq, ← playClear_iff (.inl hm)] at hf
    exact ⟨_, exec_plannerStep hs, zoneStops_opened hm hn hp hf h4 hlt⟩
  case follows =>
    rw [hclear, hdist, ← playReach_eq, ← playClear_chase_iff hm hp] at hc
    have hevents := plannerEvents_clear (.inr (.inr hm)) hc (playCues_of_ne (by simp [hm]))
      (matching_eq_false_of_pinch fun h => by rw [h] at hp; cases hp)
    rw [exec_plannerStep hs, plannerStep_eq, hevents, afterEvents_unit (.inr (.inr hm)), refStep_closed hp]
    rfl
  case chaseStops =>
    rw [hclear, hdist, ← playReach_eq, ← playClear_chase_iff hm hp] at hc
    exact ⟨_, exec_plannerStep hs, zoneStops_chase hm hn hp hc⟩
  case wind => exact freeWind_moves hs ⟨hm, hp, hcap, hunit, hcues, hzones, hgoal⟩ hg hv h0
  case looks =>
    obtain rfl : matchRunNext s = run := (matchRunNext_ite s).trans hrun.symm
    obtain rfl : matchTimerNext s = timer := matchTimerNext_eq.trans htimer.symm
    subst hv
    have hrate : lookAheadRate s = dec := lookAheadRate_eq hd hin hout
    refine ⟨fun hreach => looks_moves hs ?_ hp hd (lostCues_eq_nil hreach) rfl hg hacc hrate ?_, fun hw => ?_⟩
    · refine hm.imp_right (Or.imp_right (Or.imp (And.imp_right fun h hr => ?_) (And.imp_right fun h => by rw [hrate]; exact h)))
      obtain ⟨hfit, ht⟩ := h hr
      exact ⟨closesNow_eq_false_of rfl hfit, ht⟩
    · funext v1 a1
      exact hmove v1 a1
    · have hcap : s.planner.autoStopCap = false ∨ lookAheadRate s / 4 < mag s.planner.vRef := by
        rcases hm with h | h | ⟨h, -⟩ | ⟨-, h⟩
        · exact absurd (hw.symm.trans h) nofun
        · exact absurd (hw.symm.trans h) nofun
        · exact absurd (hw.symm.trans h) nofun
        · rw [hrate]; exact h
      exact ⟨_, exec_plannerStep hs, plannerStep_wind_missed hw hp hd hcap⟩
  case playCue =>
    have hcue : OnlyCue s c := ⟨hlist, hkind, hmissed, by omega⟩
    have hclosed : s.planner.pinch.commandedClosed = true := by rw [hp]; rfl
    have hslow' : slow = playReach s := by rw [hslow, playReach_eq, if_pos hclosed]
    have hfast' : fast = lateReach s := by
      rw [hfast, lateReach, pinchDistance, if_pos hclosed]
      rfl
    rw [hslow', hfast']
    exact playCue_steps hs hcue hm hp hn hzones hdist
  case stops =>
    subst hv
    exact exec_plannerStep_eq hs ((plannerStep_stopping hm).trans (stopping_moves hm hp hd ha h4 hlt))

end O50
end Sys2Proof.Machine

namespace Sys2Proof.Machine

/-! # Proofs of family 06, zones and cues

First the two invariants of every step (O54, O57): the items they read, what each shared operation makes of them, and what every command
does. Then the requests to the Zone Table (O29) and to the Cue List (O30). -/

/-! ## What the invariants of zones and cues read (R111, R113, R114, R118, R120) -/

/-- A cue without its mark. -/
def Cue.unmarked (c : Cue) : Cue := { c with mark := .none }

/-- The items of a state that O54 and O57 speak of: no pending block record, and no mark of a cue. -/
structure Chart where
  zones : Zones
  position : Int
  cues : List Cue
  mode : Mode
  chase : ChaseState
  inhibit : Bool

def State.chart (s : State) : Chart :=
  { zones := { s.zones with pendingBlock := none }, position := s.tach.position, cues := s.cues.list.map Cue.unmarked,
    mode := s.planner.mode, chase := s.chase.state, inhibit := s.lines.recordInhibit }

namespace Chart

/-- R118 as the chart has it. -/
def level (c : Chart) : Bool := c.zones.current.inhibit || !(c.mode == .play || (c.mode == .chase && c.chase == .locked))

/-- The line follows (R118). -/
def refreshed (c : Chart) : Chart := { c with inhibit := c.level }

/-- The zone is evaluated at the position, and the line follows (R114, R118). -/
def rezoned (c : Chart) : Chart := ({ c with zones := { c.zones with index := zoneAt c.zones c.position } } : Chart).refreshed

def InhibitRight (c : Chart) : Prop := c.inhibit = c.level

def ZoneRight (c : Chart) : Prop := c.zones.index = zoneAt c.zones c.position

/-- A change of the chart keeps each of the four invariants. -/
structure Sustains (o p : Chart) : Prop where
  inhibit : o.InhibitRight → p.InhibitRight
  zone : o.ZoneRight → p.ZoneRight
  table : ZonesInRange o.zones → ZonesInRange p.zones
  cues : CuesOrdered o.cues → CuesOrdered p.cues

namespace Sustains

variable {o p q : Chart}

theorem refl (o : Chart) : Sustains o o := ⟨id, id, id, id⟩

theorem of_eq (h : p = o) : Sustains o p := h ▸ refl p

theorem trans (h : Sustains o p) (k : Sustains p q) : Sustains o q :=
  ⟨k.inhibit ∘ h.inhibit, k.zone ∘ h.zone, k.table ∘ h.table, k.cues ∘ h.cues⟩

/-- A new mode and a new chase state, with the line after them (R118). -/
theorem inMode (h : Sustains o p) (m : Mode) (c : ChaseState) : Sustains o ({ p with mode := m, chase := c } : Chart).refreshed :=
  ⟨fun _ => rfl, h.zone, h.table, h.cues⟩

/-- After an evaluation of the zone only the tables matter. -/
theorem rezoned (ht : ZonesInRange o.zones → ZonesInRange p.zones) (hc : CuesOrdered o.cues → CuesOrdered p.cues) :
    Sustains o p.rezoned :=
  ⟨fun _ => rfl, fun _ => rfl, ht, hc⟩

theorem ite {c : Prop} [Decidable c] {s u : State} (hu : Sustains o u.chart) (hs : Sustains o s.chart) :
    Sustains o (if c then u else s).chart := by
  split <;> assumption

end Sustains

end Chart

open Chart (Sustains)

theorem inhibitFollows_iff (s : State) : InhibitFollows s ↔ (s.held = none → s.chart.InhibitRight) := Iff.rfl

theorem zoneInForce_iff (s : State) : ZoneInForce s ↔ (s.held = none → s.chart.ZoneRight) := Iff.rfl

theorem zonesInRange_iff (s : State) : ZonesInRange s.zones ↔ ZonesInRange s.chart.zones := Iff.rfl

theorem cuesOrdered_iff (s : State) : CuesOrdered s.cues.list ↔ CuesOrdered s.chart.cues := by
  simp [CuesOrdered, State.chart, List.pairwise_map, Cue.unmarked]

/-! ## Updates of one block -/

section Updates

variable (s : State)

@[simp] theorem State.onSense_chart (f : Sense → Sense) : (s.onSense f).chart = s.chart := (rfl)
@[simp] theorem State.onPacks_chart (f : Packs → Packs) : (s.onPacks f).chart = s.chart := (rfl)
@[simp] theorem State.onServo_chart (f : Servo → Servo) : (s.onServo f).chart = s.chart := (rfl)
@[simp] theorem State.onCapstan_chart (f : Capstan → Capstan) : (s.onCapstan f).chart = s.chart := (rfl)
@[simp] theorem State.onParams_chart (f : LocateParams → LocateParams) : (s.onParams f).chart = s.chart := (rfl)
@[simp] theorem State.onFault_chart (f : FaultUnit → FaultUnit) : (s.onFault f).chart = s.chart := (rfl)
@[simp] theorem State.onMonitor_chart (f : Monitor → Monitor) : (s.onMonitor f).chart = s.chart := (rfl)
@[simp] theorem State.onSurvey_chart (f : Survey → Survey) : (s.onSurvey f).chart = s.chart := (rfl)
@[simp] theorem State.onLink_chart (f : Link → Link) : (s.onLink f).chart = s.chart := (rfl)
@[simp] theorem State.onArm_chart (r : Reel) (f : ArmChannel → ArmChannel) : (s.onArm r f).chart = s.chart := (rfl)
@[simp] theorem State.onPresence_chart (i : PresenceId) (f : PresenceChannel → PresenceChannel) :
    (s.onPresence i f).chart = s.chart := (rfl)
@[simp] theorem State.onReelTach_chart (r : Reel) (f : ReelTach → ReelTach) : (s.onReelTach r f).chart = s.chart := (rfl)
@[simp] theorem State.onPack_chart (r : Reel) (f : Pack → Pack) : (s.onPack r f).chart = s.chart := (rfl)

/-- An update of the position unit that leaves the position. -/
@[simp] theorem State.onTach_chart {f : Tach → Tach} (h : ∀ x, (f x).position = x.position) : (s.onTach f).chart = s.chart := by
  simp [State.chart, h]

/-- An update of the planner that leaves the mode. -/
@[simp] theorem State.onPlanner_chart {f : Planner → Planner} (h : ∀ p, (f p).mode = p.mode) : (s.onPlanner f).chart = s.chart := by
  simp [State.chart, h]

/-- An update of the chase that leaves its state. -/
@[simp] theorem State.onChase_chart {f : Chase → Chase} (h : ∀ c, (f c).state = c.state) : (s.onChase f).chart = s.chart := by
  simp [State.chart, h]

/-- An update of the lines that leaves RECORD_INHIBIT. -/
@[simp] theorem State.onLines_chart {f : Lines → Lines} (h : ∀ l, (f l).recordInhibit = l.recordInhibit) :
    (s.onLines f).chart = s.chart := by
  simp [State.chart, h]

/-- An update of the pending block record. -/
@[simp] theorem State.onZones_chart_block (b : Option (Nat × Dir)) :
    (s.onZones fun z => { z with pendingBlock := b }).chart = s.chart := (rfl)

/-- An update of the cues that leaves all but the marks of the list. -/
theorem State.onCues_chart_marks {f : Cues → Cues} (h : (f s.cues).list.map Cue.unmarked = s.cues.list.map Cue.unmarked) :
    (s.onCues f).chart = s.chart := by
  simp [State.chart, h]

/-- An update of the cues that leaves the list. -/
@[simp] theorem State.onCues_chart {f : Cues → Cues} (h : ∀ c, (f c).list = c.list) : (s.onCues f).chart = s.chart :=
  onCues_chart_marks s (by rw [h])

end Updates

/-- New marks leave the cues as the chart has them. -/
theorem map_unmarked_of_marks {g : Cue → Cue} (h : ∀ c, (g c).unmarked = c.unmarked) (l : List Cue) :
    (l.map g).map Cue.unmarked = l.map Cue.unmarked := by
  rw [List.map_map]
  exact List.map_congr_left fun c _ => h c

/-! ## What the shared operations make of the chart -/

section Operations

variable (s : State)

@[simp] theorem postNotice_chart (n : Notice) : (postNotice n s).chart = s.chart := (rfl)
@[simp] theorem addCounts_chart (adds : Four Nat) : (addCounts adds s).chart = s.chart := by simp [State.chart]
@[simp] theorem monitorEvent_chart (ev : MonEvent) (source : EventSource) : (monitorEvent ev source s).chart = s.chart :=
  addCounts_chart s _
@[simp] theorem refreshInhibit_chart : (refreshInhibit s).chart = s.chart.refreshed := (rfl)
@[simp] theorem applyBrakes_chart : (applyBrakes s).chart = s.chart := (rfl)
@[simp] theorem releaseBrakes_chart : (releaseBrakes s).chart = s.chart := (rfl)
@[simp] theorem openPinch_chart : (openPinch s).chart = s.chart := (rfl)
@[simp] theorem closePinch_chart : (closePinch s).chart = s.chart := (rfl)
@[simp] theorem disableDrives_chart : (disableDrives s).chart = s.chart := (rfl)
@[simp] theorem stopCapstan_chart : (stopCapstan s).chart = s.chart := (rfl)
@[simp] theorem startCapstan_chart : (startCapstan s).chart = s.chart := (rfl)
@[simp] theorem recomputeLimits_chart : (recomputeLimits s).chart = s.chart := (rfl)
@[simp] theorem refuse_chart (code : ResultCode) : (refuse s code).state.chart = s.chart := (rfl)
@[simp] theorem accept_chart (clamped : Bool) (body : List Byte) : (accept s clamped body).state.chart = s.chart := (rfl)
@[simp] theorem publishStopCause_chart (cause : StopCause) : (publishStopCause cause s).chart = s.chart := (rfl)
@[simp] theorem abandonStop_chart : (abandonStop s).chart = s.chart := (rfl)
@[simp] theorem dropLocateOf_chart (owner : LocateOwner) : (dropLocateOf owner s).chart = s.chart := (rfl)

@[simp] theorem finishLocate_chart (outcome : LocateOutcome) (playStarted : Bool) :
    (finishLocate outcome playStarted s).chart = s.chart := by
  unfold finishLocate; split <;> rfl

@[simp] theorem endSurvey_chart (outcome : SurveyOutcome) (reason : Option AbortReason) (by_ : EndedBy) :
    (endSurvey outcome reason by_ s).chart = s.chart := by
  unfold endSurvey; split <;> rfl

@[simp] theorem endSurveyBy_chart (cause : StopCause) : (endSurveyBy cause s).chart = s.chart := by
  unfold endSurveyBy; split <;> simp

@[simp] theorem clearMismatch_chart : (clearMismatch s).chart = s.chart := by
  unfold clearMismatch; split <;> rfl

@[simp] theorem clearMarks_chart : (clearMarks s).chart = s.chart := by
  rw [clearMarks, State.onPlanner_chart, State.onCues_chart_marks]
  · exact map_unmarked_of_marks (g := fun q => { q with mark := .none }) (fun _ => rfl) _
  · exact fun _ => rfl

@[simp] theorem startMotion_chart : (startMotion s).chart = s.chart := by
  rw [startMotion, State.onPlanner_chart, State.onCues_chart_marks, clearMarks_chart]
  · exact map_unmarked_of_marks (fun c => by split <;> rfl) _
  · exact fun _ => rfl

@[simp] theorem markMissed_chart (id : Nat) : (markMissed id s).chart = s.chart := by
  rw [markMissed, State.onPlanner_chart, State.onCues_chart_marks]
  · exact map_unmarked_of_marks (fun c => by split <;> rfl) _
  · exact fun _ => rfl

end Operations

section Stops

variable {o : Chart} {s : State}

/-- Every change of mode sets the line (R109, R118). -/
@[simp] theorem setMode_sustains (m : Mode) (sub : Option SubStage) (cause : ModeCause) (h : Sustains o s.chart) :
    Sustains o (setMode m sub cause s).chart := by
  unfold setMode
  dsimp only
  split
  · exact h
  · exact h.inMode m s.chase.state

/-- Every change of the chase state sets the line (R118, R146). -/
@[simp] theorem setChaseState_sustains (st : ChaseState) (cause : ChaseCause) (h : Sustains o s.chart) :
    Sustains o (setChaseState st cause s).chart :=
  h.inMode s.planner.mode st

@[simp] theorem endChase_sustains (cause : ChaseCause) (h : Sustains o s.chart) : Sustains o (endChase cause s).chart := by
  unfold endChase; split <;> simp [h]

@[simp] theorem endUnit_sustains (cause : StopCause) (h : Sustains o s.chart) : Sustains o (endUnit cause s).chart := by
  unfold endUnit; split <;> simp [h]

/-! ## Entries to modes -/

@[simp] theorem beginStopping_sustains (sev : Severity) (cause : StopCause) (h : Sustains o s.chart) :
    Sustains o (beginStopping sev cause s).chart := by
  simp [beginStopping, h]

@[simp] theorem enterBraking_sustains (cause : StopCause) (h : Sustains o s.chart) : Sustains o (enterBraking cause s).chart := by
  simp [enterBraking, h]

@[simp] theorem failLoad_sustains (cause : ModeCause) (h : Sustains o s.chart) : Sustains o (failLoad cause s).chart := by
  simp [failLoad, h]

@[simp] theorem enterHold_sustains (cause : ModeCause) (h : Sustains o s.chart) : Sustains o (enterHold cause s).chart := by
  simp [enterHold, h]

@[simp] theorem enterIdle_sustains (cause : ModeCause) (h : Sustains o s.chart) : Sustains o (enterIdle cause s).chart := by
  simp [enterIdle, h]

@[simp] theorem enterEngaging_sustains (cause : ModeCause) (h : Sustains o s.chart) : Sustains o (enterEngaging cause s).chart := by
  simp [enterEngaging, h]

@[simp] theorem completeLoad_sustains (h : Sustains o s.chart) : Sustains o (completeLoad s).chart := by
  simp [completeLoad, h]

/-! ## Stop demands, conditions and the enabling of the drives -/

@[simp] theorem stopDemand_sustains (sev : Severity) (cause : StopCause) (h : Sustains o s.chart) :
    Sustains o (stopDemand sev cause s).chart := by
  rcases stopDemand_cases sev cause s with ⟨e, -⟩ | ⟨-, e⟩ | ⟨-, e⟩ | ⟨-, -, e⟩ | ⟨-, -, e⟩ | ⟨-, -, e⟩ <;> rw [e] <;> simp [h]

@[simp] theorem restOrStop_sustains (cause : StopCause) (h : Sustains o s.chart) : Sustains o (restOrStop cause s).chart := by
  rcases restOrStop_cases cause s with ⟨-, e⟩ | ⟨-, e⟩ <;> rw [e] <;> simp [h]

@[simp] theorem takeSecondary_sustains (r : FaultRecord) (c : Condition) (sev : Severity) (h : Sustains o s.chart) :
    Sustains o (takeSecondary r c sev s).chart := by
  unfold takeSecondary; dsimp only; split <;> split <;> simp [h]

@[simp] theorem takeConditionAt_sustains (c : Condition) (sev : Severity) (h : Sustains o s.chart) :
    Sustains o (takeConditionAt c sev s).chart := by
  rcases takeConditionAt_cases c sev s with ⟨-, e⟩ | ⟨r, -, e⟩ <;> rw [e] <;> simp [latchPrimary, h]

@[simp] theorem takeCondition_sustains (kind : FaultKind) (reel : Option Reel) (h : Sustains o s.chart) :
    Sustains o (takeCondition kind reel s).chart :=
  takeConditionAt_sustains _ _ h

@[simp] theorem takePowerFail_sustains (h : Sustains o s.chart) : Sustains o (takePowerFail s).chart :=
  takeConditionAt_sustains _ _ h

@[simp] theorem armConditionIf_sustains (bad : Bool) (r : Reel) (h : Sustains o s.chart) :
    Sustains o (armConditionIf bad r s).chart := by
  unfold armConditionIf; split <;> simp [h]

@[simp] theorem enableDrives_sustains (h : Sustains o s.chart) : Sustains o (enableDrives s).chart := by
  unfold enableDrives
  dsimp only
  split
  · simp [h]
  · exact armConditionIf_sustains _ _ (armConditionIf_sustains _ _ (by simp [h]))

@[simp] theorem zoneDirectionRule_sustains (h : Sustains o s.chart) : Sustains o (zoneDirectionRule s).chart := by
  unfold zoneDirectionRule; (repeat' split) <;> simp [h]

end Stops
end Sys2Proof.Machine

namespace Sys2Proof.Machine

open Chart (Sustains)

/-! ## Position, the Zone Table and the Cue List -/

section Position

variable {o : Chart} {s : State}

@[simp] theorem zoneNotice_chart (cause : ZoneCause) (dir : Option Dir) (block : Option (Nat × Dir)) :
    (zoneNotice cause dir block s).chart = s.chart := (rfl)

/-- The current zone set to the one in force at the position, and the line after it (R114, R118). -/
theorem State.rezone_chart (s : State) :
    (s.onZones fun z => { z with index := zoneAt s.zones s.tach.position }).chart.refreshed = s.chart.rezoned := (rfl)

/-- R114 after a change of position: a new zone is entered with the line after it, and an old one kept. -/
theorem rezonePosition_chart (dir : Option Dir) :
    (rezonePosition dir s).chart =
      if zoneAt s.zones s.tach.position = s.zones.index then s.chart else s.chart.rezoned := by
  unfold rezonePosition
  dsimp only
  split
  · rfl
  · simp [State.rezone_chart]

/-- A change of position, once the zone is evaluated there. -/
theorem rezonePosition_sustains (dir : Option Dir) {c : Chart} (x : Int) (h : Sustains o c) (hs : s.chart = { c with position := x }) :
    Sustains o (rezonePosition dir s).chart := by
  rw [rezonePosition_chart]
  split
  next hsame =>
    have hzone : s.chart.ZoneRight := hsame.symm
    rw [hs] at hzone ⊢
    exact ⟨h.inhibit, fun _ => hzone, h.table, h.cues⟩
  next =>
    rw [hs]
    exact .rezoned h.table h.cues

/-- R114 after an edit of the tables. -/
theorem rezoneEdit_sustains (before : ZoneAttrs) (ht : ZonesInRange o.zones → ZonesInRange s.chart.zones)
    (hc : CuesOrdered o.cues → CuesOrdered s.chart.cues) : Sustains o (rezoneEdit before s).chart := by
  have hrezoned : Sustains o s.chart.rezoned := .rezoned ht hc
  refine zoneDirectionRule_sustains ?_
  split
  · simpa [State.rezone_chart] using hrezoned
  · split <;> simpa [State.rezone_chart] using hrezoned

@[simp] theorem reachCue_chart (byFix : Bool) (d : Dir) (c : Cue) : (reachCue byFix d c s).chart = s.chart := by
  unfold reachCue
  dsimp only
  (repeat' split) <;> simp [capWind]

@[simp] theorem reachCues_chart (byFix : Bool) (d : Dir) (x0 : Int) : (reachCues byFix d x0 s).chart = s.chart := by
  have hfold := foldl_keeps State.chart _ (fun t c => reachCue_chart (s := t) byFix d c) (cuesReached d x0 s.tach.position s.cues.list) s
  rw [reachCues, State.onCues_chart, hfold]
  intro c
  split <;> rfl

@[simp] theorem loadDistance_sustains (h : Sustains o s.chart) : Sustains o (loadDistance s).chart :=
  .ite (failLoad_sustains _ h) h

@[simp] theorem surveyOwnEnd_sustains (outcome : SurveyOutcome) (reason : Option AbortReason) (by_ : EndedBy)
    (h : Sustains o s.chart) : Sustains o (surveyOwnEnd outcome reason by_ s).chart := by
  simp [surveyOwnEnd, h]

@[simp] theorem surveyRange_sustains (h : Sustains o s.chart) : Sustains o (surveyRange s).chart := by
  unfold surveyRange; (repeat' split) <;> simp [h]

/-- A change of position, with all that it brings about. -/
theorem positionMoved_sustains (byFix : Bool) (d : Dir) (x0 : Int) {c : Chart} (x : Int) (h : Sustains o c)
    (hs : s.chart = { c with position := x }) : Sustains o (positionMoved byFix d x0 s).chart :=
  surveyRange_sustains (loadDistance_sustains (zoneDirectionRule_sustains (by simpa using rezonePosition_sustains _ x h hs)))

@[simp] theorem rollerEdge_sustains (d : Dir) (h : Sustains o s.chart) : Sustains o (rollerEdge d s).chart :=
  positionMoved_sustains _ _ _ _ h rfl

@[simp] theorem conditionIf_sustains (given : Bool) (kind : FaultKind) (reel : Option Reel) (h : Sustains o s.chart) :
    Sustains o (conditionIf given kind reel s).chart := by
  unfold conditionIf; split <;> simp [h]

@[simp] theorem speedSample_sustains (h : Sustains o s.chart) : Sustains o (speedSample s).chart :=
  conditionIf_sustains _ _ _ (conditionIf_sustains _ _ _ (conditionIf_sustains _ _ _ h))

@[simp] theorem answerPresetPosition_sustains (value : Int) (h : Sustains o s.chart) :
    Sustains o (answerPresetPosition value s).state.chart := by
  unfold answerPresetPosition
  split
  · exact h
  · split
    · exact h
    · rw [accept_chart, presetTo, State.onCues_chart]
      · exact rezonePosition_sustains _ value h rfl
      · exact fun _ => rfl

/-- A fix at the position as it stands moves nothing (R21). -/
theorem dirTo_eq_none_iff (x y : Int) : dirTo x y = none ↔ x = y := by
  unfold dirTo dirOf
  (repeat' split) <;> simp <;> omega

@[simp] theorem fixTo_sustains (value : Int) (h : Sustains o s.chart) : Sustains o (fixTo value s).chart := by
  unfold fixTo
  dsimp only
  split
  · exact positionMoved_sustains _ _ _ value h rfl
  next hdir =>
    obtain rfl : s.tach.position = value := (dirTo_eq_none_iff ..).1 hdir
    exact h

@[simp] theorem answerPositionFix_sustains (value : Int) (window : Nat) (h : Sustains o s.chart) :
    Sustains o (answerPositionFix value window s).state.chart := by
  unfold answerPositionFix; dsimp only; (repeat' split) <;> simp [h]

end Position

/-! ## Edits of the Zone Table (R111, R112) -/

section Zones

variable {o : Chart} {s : State}

/-- An entry as R111 lets it be stored. -/
def ZoneEntry.Ok (e : ZoneEntry) : Prop :=
  12 ≤ e.k ∧ e.k ≤ 28 ∧ positionOk e.base = true ∧ e.base % 2 ^ e.k = 0 ∧ 100 ≤ e.attrs.limit ∧ e.attrs.limit ≤ 12000 ∧
    25 ≤ e.attrs.scale ∧ e.attrs.scale ≤ 100

theorem ZoneEntry.default_ok : ZoneEntry.default.Ok := by
  simp [ZoneEntry.Ok, ZoneEntry.default, ZoneAttrs.default, positionOk]

/-- The first check of R111. -/
theorem zoneFieldsOk_iff (index enabled : Nat) (base : Int) (k dirs inhibit : Nat) :
    zoneFieldsOk index enabled base k dirs inhibit = true ↔
      index ≤ 7 ∧ 12 ≤ k ∧ k ≤ 28 ∧ positionOk base = true ∧ (ZoneDirs.ofCode dirs).isSome = true ∧ enabled ≤ 1 ∧ inhibit ≤ 1 := by
  simp [zoneFieldsOk, flagOk, and_assoc]

/-- The second check of R111. -/
theorem zoneAligned_iff (base : Int) (k : Nat) : zoneAligned base k = true ↔ base % 2 ^ k = 0 := by simp [zoneAligned]

theorem clampLimit_range (n : Nat) : 100 ≤ clampLimit n ∧ clampLimit n ≤ 12000 := by
  rw [clampLimit, clampNat_eq (by decide)]; omega

theorem clampScale_range (n : Nat) : 25 ≤ clampScale n ∧ clampScale n ≤ 100 := by
  rw [clampScale, clampNat_eq (by decide)]; omega

theorem zonesInRange_setEntry {z : Zones} {e : ZoneEntry} (i : Nat) (he : e.Ok) (h : ZonesInRange z) :
    ZonesInRange { z with entries := z.entries.set i e } := by
  obtain ⟨hlength, hentries, hbase⟩ := h
  refine ⟨by simpa using hlength, fun x hx => ?_, hbase⟩
  obtain hx | rfl := List.mem_or_eq_of_mem_set hx
  · exact hentries x hx
  · exact he

@[simp] theorem storeZone_sustains (i : Nat) (e : ZoneEntry) (he : e.Ok) (h : Sustains o s.chart) :
    Sustains o (storeZone i e s).chart := by
  unfold storeZone
  split
  · exact h
  · exact rezoneEdit_sustains _ (fun ho => zonesInRange_setEntry i he (h.table ho)) h.cues

@[simp] theorem answerSetZone_sustains (index enabled : Nat) (base : Int) (k limit scale dirs inhibit : Nat)
    (h : Sustains o s.chart) : Sustains o (answerSetZone index enabled base k limit scale dirs inhibit s).state.chart := by
  unfold answerSetZone
  split
  · exact h
  next hfields =>
    split
    · exact h
    next haligned =>
      refine storeZone_sustains _ _ ?_ h
      obtain ⟨-, hlow, hhigh, hpos, -⟩ := (zoneFieldsOk_iff ..).1 (by simpa using hfields)
      have hbase : base % 2 ^ k = 0 := (zoneAligned_iff ..).1 (by simpa using haligned)
      obtain ⟨hlimit, hlimit'⟩ := clampLimit_range limit
      obtain ⟨hscale, hscale'⟩ := clampScale_range scale
      exact ⟨hlow, hhigh, hpos, hbase, hlimit, hlimit', hscale, hscale'⟩

@[simp] theorem answerClearZone_sustains (index : Nat) (h : Sustains o s.chart) :
    Sustains o (answerClearZone index s).state.chart := by
  unfold answerClearZone
  split
  · exact h
  · exact storeZone_sustains _ _ ZoneEntry.default_ok h

@[simp] theorem answerSetBaseZone_sustains (limit scale dirs inhibit : Nat) (h : Sustains o s.chart) :
    Sustains o (answerSetBaseZone limit scale dirs inhibit s).state.chart := by
  unfold answerSetBaseZone
  split
  · refine rezoneEdit_sustains _ (fun ho => ?_) h.cues
    obtain ⟨hlength, hentries, -⟩ := h.table ho
    obtain ⟨hlimit, hlimit'⟩ := clampLimit_range limit
    obtain ⟨hscale, hscale'⟩ := clampScale_range scale
    exact ⟨hlength, hentries, hlimit, hlimit', hscale, hscale'⟩
  · exact h

end Zones

/-! ## Edits of the Cue List (R120, R121) -/

section CueList

variable {o : Chart} {s : State}

/-- An edit of the list that keeps it in order. -/
theorem Chart.Sustains.onCues {f : Cues → Cues} (h : Sustains o s.chart)
    (hf : CuesOrdered s.cues.list → CuesOrdered (f s.cues).list) : Sustains o (s.onCues f).chart :=
  h.trans ⟨id, id, id, fun hc => (cuesOrdered_iff _).1 (hf ((cuesOrdered_iff s).2 hc))⟩

theorem cuesOrdered_filter {l : List Cue} (p : Cue → Bool) (h : CuesOrdered l) : CuesOrdered (l.filter p) := by
  obtain ⟨hlength, hpos, hid, hall⟩ := h
  exact ⟨(List.length_filter_le ..).trans hlength, hpos.filter p, hid.filter p, fun c hc => hall c (List.mem_filter.1 hc).1⟩

/-- A list that a position parts in two is parted there by the search for the cue's place (R120). -/
theorem parted_at {x : Int} {before after : List Cue} (hbefore : ∀ q ∈ before, q.position < x) (hafter : ∀ q ∈ after, x < q.position) :
    ((before ++ after).takeWhile fun q => q.position ≤ x) = before ∧ ((before ++ after).dropWhile fun q => q.position ≤ x) = after := by
  have hb : ∀ q ∈ before, decide (q.position ≤ x) = true := fun q hq => decide_eq_true (hbefore q hq).le
  rw [List.takeWhile_append_of_pos hb, List.dropWhile_append_of_pos hb]
  cases after with
  | nil => simp
  | cons q l => simp [hafter q (by simp)]

/-- The cue joins between the cues at lower and at greater positions. -/
theorem insertCue_eq {c : Cue} {before after : List Cue} (hbefore : ∀ q ∈ before, q.position < c.position)
    (hafter : ∀ q ∈ after, c.position < q.position) : insertCue c (before ++ after) = before ++ c :: after := by
  obtain ⟨htake, hdrop⟩ := parted_at hbefore hafter
  rw [insertCue, htake, hdrop]

theorem cueIndex_eq {x : Int} {before after : List Cue} (hbefore : ∀ q ∈ before, q.position < x)
    (hafter : ∀ q ∈ after, x < q.position) : cueIndex x (before ++ after) = before.length := by
  rw [cueIndex, (parted_at hbefore hafter).1]

/-- A position that no cue of an ascending list holds parts the list in two. -/
theorem exists_split_at {x : Int} {l : List Cue} (hpos : l.Pairwise fun p q => p.position < q.position)
    (hnew : ∀ q ∈ l, q.position ≠ x) :
    ∃ before after, l = before ++ after ∧ (∀ q ∈ before, q.position < x) ∧ ∀ q ∈ after, x < q.position := by
  induction l with
  | nil => exact ⟨[], [], by simp⟩
  | cons c l ih =>
    obtain ⟨hfirst, hrest⟩ := List.pairwise_cons.1 hpos
    have hc : c.position ≠ x := hnew c (by simp)
    by_cases hlow : c.position < x
    · obtain ⟨before, after, rfl, hbefore, hafter⟩ := ih hrest fun q hq => hnew q (by simp [hq])
      exact ⟨c :: before, after, rfl, by simpa [hlow] using hbefore, hafter⟩
    · have hhigh : x < c.position := by omega
      exact ⟨[], c :: l, rfl, by simp, by simpa [hhigh] using fun q hq => hhigh.trans (hfirst q hq)⟩

theorem cuesOrdered_insertCue {l : List Cue} {c : Cue} (h : CuesOrdered l) (hroom : l.length < 32)
    (hnew : ∀ q ∈ l, q.id ≠ c.id ∧ q.position ≠ c.position)
    (hc : 1 ≤ c.id ∧ c.id ≤ 250 ∧ positionOk c.position = true ∧ c.label.length ≤ 12 ∧ c.label.all printable = true) :
    CuesOrdered (insertCue c l) := by
  obtain ⟨-, hpos, hid, hall⟩ := h
  obtain ⟨before, after, rfl, hbefore, hafter⟩ := exists_split_at hpos fun q hq => (hnew q hq).2
  rw [insertCue_eq hbefore hafter]
  have hperm : (before ++ c :: after).Perm (c :: (before ++ after)) := List.perm_middle
  refine ⟨?_, ?_, ?_, fun q hq => ?_⟩
  · rw [hperm.length_eq]
    exact hroom
  · obtain ⟨hb, ha, hba⟩ := List.pairwise_append.1 hpos
    refine List.pairwise_append.2 ⟨hb, List.pairwise_cons.2 ⟨hafter, ha⟩, fun p hp q hq => ?_⟩
    obtain rfl | hq := List.mem_cons.1 hq
    · exact hbefore p hp
    · exact hba p hp q hq
  · refine (hperm.pairwise_iff fun hne => hne.symm).2 (List.pairwise_cons.2 ⟨fun q hq => ?_, hid⟩)
    exact (hnew q hq).1.symm
  · obtain rfl | hq := List.mem_cons.1 (hperm.mem_iff.1 hq)
    · exact hc
    · exact hall q hq

/-- The first check of R120. -/
theorem cueFieldsOk_iff (id : Nat) (position : Int) (kind : Nat) (label : List Byte) :
    cueFieldsOk id position kind label = true ↔
      1 ≤ id ∧ id ≤ 250 ∧ positionOk position = true ∧ (CueKind.ofCode kind).isSome = true ∧ label.length ≤ 12 ∧
        label.all printable = true := by
  simp [cueFieldsOk, and_assoc]

@[simp] theorem answerAddCue_sustains (id : Nat) (position : Int) (kind : Nat) (label : List Byte) (h : Sustains o s.chart) :
    Sustains o (answerAddCue id position kind label s).state.chart := by
  unfold answerAddCue
  split
  · exact h
  next hfields =>
    split
    · exact h
    next hnew =>
      split
      · exact h
      next hroom =>
        obtain ⟨hlow, hhigh, hpos, -, hlabel, hprint⟩ := (cueFieldsOk_iff ..).1 (by simpa using hfields)
        exact h.onCues fun hl =>
          cuesOrdered_insertCue hl (by omega) (by simpa using hnew) ⟨hlow, hhigh, hpos, hlabel, hprint⟩

@[simp] theorem deleteCue_sustains (id : Nat) (h : Sustains o s.chart) : Sustains o (deleteCue id s).chart :=
  h.onCues (f := fun q => { q with list := q.list.filter fun c => c.id != id }) (cuesOrdered_filter _)

@[simp] theorem answerDeleteCue_sustains (id : Nat) (h : Sustains o s.chart) : Sustains o (answerDeleteCue id s).state.chart := by
  unfold answerDeleteCue
  split
  · exact deleteCue_sustains id h
  · exact h

@[simp] theorem answerClearCues_sustains (h : Sustains o s.chart) : Sustains o (answerClearCues s).state.chart := by
  unfold answerClearCues
  generalize s.cues.list = l
  induction l generalizing s with
  | nil => exact h
  | cons c l ih => exact ih (deleteCue_sustains c.id h)

end CueList
end Sys2Proof.Machine

namespace Sys2Proof.Machine

open Chart (Sustains)

/-! ## The Capstan Controller and the Pack Estimator -/

section Blocks

variable {o : Chart} {s : State}

@[simp] theorem encoderEdge_chart (d : Dir) : (encoderEdge d s).chart = s.chart := by simp [State.chart]

@[simp] theorem capstanStep_sustains (h : Sustains o s.chart) : Sustains o (capstanStep s).chart := by
  have hdrive (u : State) : (driveCapstan u).chart = u.chart := by simp [State.chart]
  unfold capstanStep
  dsimp only
  split <;> simp [capstanStalls, hdrive, h]

@[simp] theorem referenceEdge_chart (period : Nat) : (referenceEdge period s).chart = s.chart := by simp [State.chart]

@[simp] theorem referenceLost_chart : (referenceLost s).chart = s.chart := by simp [State.chart]

/-- A load that completes brings the tape to rest (R89). -/
@[simp] theorem acceptProbe_sustains (r : Reel) (m : Nat) (h : Sustains o s.chart) : Sustains o (acceptProbe r m s).chart := by
  have haccept : (acceptRadius r m s).chart = s.chart := by simp [State.chart]
  unfold acceptProbe probeCounted
  exact .ite (completeLoad_sustains (by simpa [haccept] using h)) (by simpa [haccept] using h)

@[simp] theorem acceptWindow_chart (r : Reel) (m : Nat) : (acceptWindow r m s).chart = s.chart := by
  have harea (u : State) : (areaTest u).chart = u.chart := by simp [State.chart]
  have haccept : (acceptRadius r m s).chart = s.chart := by simp [State.chart]
  simp [acceptWindow, harea, haccept]

@[simp] theorem judgeWindow_chart (r : Reel) (m p : Nat) : (judgeWindow r m p s).chart = s.chart := by
  unfold judgeWindow; dsimp only; split
  · simp
  · split <;> simp [resyncWindow]

@[simp] theorem completeWindow_sustains (r : Reel) (h : Sustains o s.chart) : Sustains o (completeWindow r s).chart := by
  unfold completeWindow; dsimp only; split <;> simp [h]

@[simp] theorem reelTachEdge_sustains (r : Reel) (winding : Bool) (h : Sustains o s.chart) :
    Sustains o (reelTachEdge r winding s).chart := by
  unfold reelTachEdge packReelEdge; dsimp only; (repeat' split) <;> simp [h]

@[simp] theorem reclampReel_chart (r : Reel) : (reclampReel r s).chart = s.chart := (rfl)

@[simp] theorem answerSetReel_chart (side apply hub flange jf f tauLim tauFs : Nat) :
    (answerSetReel side apply hub flange jf f tauLim tauFs s).state.chart = s.chart := by
  have hstore (r : Reel) (q : ReelProfile) : (storeReel r q s).chart = s.chart := by
    unfold storeReel; dsimp only; split <;> split <;> simp
  unfold answerSetReel; dsimp only; (repeat' split) <;> simp [hstore]

@[simp] theorem answerSetTape_chart (apply t kj tMin tNom tMax tThr tSpan : Nat) :
    (answerSetTape apply t kj tMin tNom tMax tThr tSpan s).state.chart = s.chart := by
  unfold answerSetTape storeTape; dsimp only; (repeat' split) <;> simp

/-! ## The Motion Planner -/

@[simp] theorem publishRef_chart (v a : Int) : (publishRef v a s).chart = s.chart := (rfl)
@[simp] theorem holdRef_chart : (holdRef s).chart = s.chart := (rfl)
@[simp] theorem followCapstan_chart : (followCapstan s).chart = s.chart := (rfl)

@[simp] theorem runProfile_chart : (runProfile s).chart = s.chart := by
  have hdrop : (dropMissedCues s).chart = s.chart := by
    unfold dropMissedCues
    split
    · rfl
    · exact foldl_keeps State.chart (fun t (c : Cue) => markMissed c.id t) (fun t c => markMissed_chart t c.id) _ s
  unfold runProfile; dsimp only; split <;> simp [hdrop]

@[simp] theorem refByPinch_chart : (refByPinch s).chart = s.chart := by
  unfold refByPinch; split <;> simp

@[simp] theorem checkPlayStops_sustains (h : Sustains o s.chart) : Sustains o (checkPlayStops s).chart := by
  have hdrop : (dropPlayCues s).chart = s.chart :=
    foldl_keeps State.chart (fun t (c : Cue) => markMissed c.id t) (fun t c => markMissed_chart t c.id) _ s
  unfold checkPlayStops; dsimp only; (repeat' split) <;> simp [hdrop, h]

@[simp] theorem takeUpStep_sustains (h : Sustains o s.chart) : Sustains o (takeUpStep s).chart := by
  unfold takeUpStep startProbe; dsimp only; (repeat' split) <;> simp [h]

@[simp] theorem matchStep_sustains (h : Sustains o s.chart) : Sustains o (matchStep s).chart := by
  unfold matchStep; (repeat' split) <;> simp [h]

@[simp] theorem rampDownStep_sustains (h : Sustains o s.chart) : Sustains o (rampDownStep s).chart := by
  unfold rampDownStep; split <;> simp [h]

@[simp] theorem brakingStep_sustains (h : Sustains o s.chart) : Sustains o (brakingStep s).chart := by
  unfold brakingStep enterBraked; split <;> simp [h]

@[simp] theorem postAutoStop_chart : (postAutoStop s).chart = s.chart := by
  unfold postAutoStop; split <;> simp

@[simp] theorem postZoneBlocked_chart : (postZoneBlocked s).chart = s.chart := by
  unfold postZoneBlocked; split <;> simp

@[simp] theorem endStop_sustains (h : Sustains o s.chart) : Sustains o (endStop s).chart := by
  unfold endStop; dsimp only; split <;> simp [h]

@[simp] theorem plannerEvents_sustains (h : Sustains o s.chart) : Sustains o (plannerEvents s).chart := by
  have hplay := checkPlayStops_sustains h
  unfold plannerEvents; dsimp only; (repeat' split) <;> simp [h, hplay]

@[simp] theorem windEnd_sustains (h : Sustains o s.chart) : Sustains o (windEnd s).chart := by
  unfold windEnd; split <;> simp [h]

@[simp] theorem moveRef_sustains (h : Sustains o s.chart) : Sustains o (moveRef s).chart := by
  unfold moveRef; dsimp only; (repeat' split) <;> simp [h]

@[simp] theorem plannerStep_sustains (h : Sustains o s.chart) : Sustains o (plannerStep s).chart := by
  have hmove := moveRef_sustains (plannerEvents_sustains h)
  unfold plannerStep noteCues; split <;> simpa using hmove

@[simp] theorem startTakeUp_sustains (h : Sustains o s.chart) : Sustains o (startTakeUp s).chart :=
  enableDrives_sustains (setMode_sustains _ _ _ h)

@[simp] theorem brakeComplete_sustains (h : Sustains o s.chart) : Sustains o (brakeComplete s).chart := by
  unfold brakeComplete; dsimp only; (repeat' split) <;> simp [h]

@[simp] theorem pinchComplete_sustains (h : Sustains o s.chart) : Sustains o (pinchComplete s).chart := by
  unfold pinchComplete enterMatch; dsimp only; (repeat' split) <;> simp [h]

@[simp] theorem answerLoad_sustains (h : Sustains o s.chart) : Sustains o (answerLoad s).state.chart := by
  unfold answerLoad startLoad; (repeat' split) <;> simp [h]

@[simp] theorem answerUnload_sustains (h : Sustains o s.chart) : Sustains o (answerUnload s).state.chart := by
  unfold answerUnload startUnload; split <;> simp [h]

@[simp] theorem answerWind_sustains (speed : Int) (h : Sustains o s.chart) : Sustains o (answerWind speed s).state.chart := by
  have hunit := endUnit_sustains .request h
  unfold answerWind startWind; dsimp only; (repeat' split) <;> simp [h, hunit]

@[simp] theorem answerPlay_sustains (h : Sustains o s.chart) : Sustains o (answerPlay s).state.chart := by
  unfold answerPlay startPlay; (repeat' split) <;> simp [h]

@[simp] theorem answerStop_sustains (kind : Nat) (h : Sustains o s.chart) : Sustains o (answerStop kind s).state.chart := by
  unfold answerStop
  split
  · exact h
  · exact .ite h (stopDemand_sustains _ _ h)

@[simp] theorem answerSetLimits_chart (apply vMax aAcc aDec guard : Nat) :
    (answerSetLimits apply vMax aAcc aDec guard s).state.chart = s.chart := by
  unfold answerSetLimits; split <;> simp

end Blocks

/-! ## Locate, survey and chase -/

section Units

variable {o : Chart} {s : State}

@[simp] theorem publishLocate_chart (l : LocateRec) : (publishLocate l s).chart = s.chart := (rfl)

@[simp] theorem beginLocate_chart (owner : LocateOwner) (target : Int) (cueId : Option Nat) (thenPlay : Bool) (preroll : Nat)
    (aim : Int) : (beginLocate owner target cueId thenPlay preroll aim s).chart = s.chart := (rfl)

theorem locateStep_chart (l : LocateRec) : (locateStep l s).state.chart = s.chart := by
  have hagain (l : LocateRec) : (reapproach l s).state.chart = s.chart := by
    unfold reapproach; dsimp only; (repeat' split) <;> simp
  unfold locateStep creepStep settleStep
  dsimp only
  (repeat' split) <;> simp [hagain]

@[simp] theorem hostLocateEnds_sustains (outcome : LocateOutcome) (h : Sustains o s.chart) :
    Sustains o (hostLocateEnds outcome s).chart := by
  unfold hostLocateEnds; (repeat' split) <;> simp [h]

@[simp] theorem startLocate_sustains (q : LocateParams) (target : Int) (cueId : Option Nat) (thenPlay : Bool) (preroll : Nat)
    (aim : Int) (h : Sustains o s.chart) : Sustains o (startLocate q target cueId thenPlay preroll aim s).chart := by
  have hchase := endChase_sustains .request h
  unfold startLocate
  dsimp only
  split <;> simp [h, hchase]

@[simp] theorem answerLocate_sustains (targetKind : Nat) (position : Int)
    (cueId thenPlay preroll approachDist approachSpeed tolerance : Nat) (h : Sustains o s.chart) :
    Sustains o (answerLocate targetKind position cueId thenPlay preroll approachDist approachSpeed tolerance s).state.chart := by
  unfold answerLocate; dsimp only; (repeat' split) <;> simp [h]

@[simp] theorem answerSurveyStart_sustains (start finish : Int) (speed tension : Nat) (step : Int)
    (stepCount dwell limitSource limitValue slackThr excThr fastFlag thres shift : Nat) (h : Sustains o s.chart) :
    Sustains o (answerSurveyStart start finish speed tension step stepCount dwell limitSource limitValue slackThr excThr fastFlag
      thres shift s).state.chart := by
  unfold answerSurveyStart startSurvey; dsimp only; (repeat' split) <;> simp [h]

@[simp] theorem surveyPositioned_sustains (outcome : LocateOutcome) (h : Sustains o s.chart) :
    Sustains o (surveyPositioned outcome s).chart := by
  unfold surveyPositioned; dsimp only; split <;> simp [h]

@[simp] theorem beginStep_chart (q : SurveyRequest) (k : Nat) : (beginStep q k s).chart = s.chart := (rfl)

@[simp] theorem endStep_sustains (q : SurveyRequest) (e : StepEntry) (by_ : EndedBy) (h : Sustains o s.chart) :
    Sustains o (endStep q e by_ s).chart := by
  unfold endStep; dsimp only; (repeat' split) <;> simp [h]

@[simp] theorem surveySample_sustains (h : Sustains o s.chart) : Sustains o (surveySample s).chart := by
  have hcount (q : SurveyRequest) : Sustains o (countStep q s).chart := by
    unfold countStep; dsimp only; (repeat' split) <;> simp [h]
  unfold surveySample rampSample settleSample; (repeat' split) <;> simp [h, hcount]

@[simp] theorem answerSurveyAbort_sustains (h : Sustains o s.chart) : Sustains o (answerSurveyAbort s).state.chart := by
  unfold answerSurveyAbort; split <;> simp [h]

@[simp] theorem chaseOwnEnd_sustains (cause : ChaseCause) (h : Sustains o s.chart) : Sustains o (chaseOwnEnd cause s).chart := by
  simp [chaseOwnEnd, h]

@[simp] theorem makePlan_sustains (m : MasterRec) (h : Sustains o s.chart) : Sustains o (makePlan m s).chart := by
  unfold makePlan; dsimp only; (repeat' split) <;> simp [h]

@[simp] theorem haltChase_sustains (cause : ChaseCause) (h : Sustains o s.chart) : Sustains o (haltChase cause s).chart := by
  simp [haltChase, h]

/-- The chase returns to SEEK with a new plan (R140, R141). -/
theorem makePlan_seek_sustains (m : MasterRec) (cause : ChaseCause) (h : Sustains o s.chart) :
    Sustains o (makePlan m (setChaseState .seek cause s)).chart :=
  makePlan_sustains _ (setChaseState_sustains _ _ h)

@[simp] theorem doubleLead_sustains (m : MasterRec) (h : Sustains o s.chart) : Sustains o (doubleLead m s).chart :=
  .ite (makePlan_seek_sustains _ _ h) (chaseOwnEnd_sustains _ h)

@[simp] theorem chaseLocateEnds_sustains (outcome : LocateOutcome) (h : Sustains o s.chart) :
    Sustains o (chaseLocateEnds outcome s).chart := by
  unfold chaseLocateEnds park; dsimp only; (repeat' split) <;> simp [h]

@[simp] theorem stepChase_sustains (h : Sustains o s.chart) : Sustains o (stepChase s).chart := by
  unfold stepChase seekStep parkedStep startRunup followStep; dsimp only; (repeat' split) <;> simp [h]

@[simp] theorem freewheel_sustains (h : Sustains o s.chart) : Sustains o (freewheel s).chart := by simp [freewheel, h]

@[simp] theorem silenceStep_sustains (h : Sustains o s.chart) : Sustains o (silenceStep s).chart := by
  unfold silenceStep; dsimp only; (repeat' split) <;> simp [h]

@[simp] theorem locateEnds_sustains (owner : LocateOwner) (outcome : LocateOutcome) (h : Sustains o s.chart) :
    Sustains o (locateEnds owner outcome s).chart := by
  cases owner <;> simp [locateEnds, h]

@[simp] theorem stepLocate_sustains (l : LocateRec) (h : Sustains o s.chart) : Sustains o (stepLocate l s).chart := by
  have hstep := locateStep_chart (s := s) l
  unfold stepLocate
  split <;> simp_all

@[simp] theorem unitStep_sustains (h : Sustains o s.chart) : Sustains o (unitStep s).chart := by
  have hsilence : Sustains o (if s.chase.state = .off then s else silenceStep s).chart := .ite h (silenceStep_sustains h)
  unfold unitStep
  dsimp only
  split <;> simp [hsilence]

@[simp] theorem startChase_sustains (q : LocateParams) (offset : Int) (h : Sustains o s.chart) :
    Sustains o (startChase q offset s).chart :=
  setChaseState_sustains _ _ (setMode_sustains _ _ _ (by simp [h]))

@[simp] theorem answerChaseStart_sustains (offset : Int) (window lead paramFlag gain reseek freewheel : Nat)
    (h : Sustains o s.chart) :
    Sustains o (answerChaseStart offset window lead paramFlag gain reseek freewheel s).state.chart := by
  unfold answerChaseStart; dsimp only; (repeat' split) <;> simp [h]

@[simp] theorem answerChaseStop_sustains (h : Sustains o s.chart) : Sustains o (answerChaseStop s).state.chart :=
  .ite (stopDemand_sustains _ _ h) h

/-- The trim and the runs of a record, and the change between MATCH and LOCKED that they bring (R143). -/
@[simp] theorem trimRecord_sustains (e : Int) (h : Sustains o s.chart) : Sustains o (trimRecord e s).chart := by
  unfold trimRecord lockedRecord matchRecord; dsimp only; (repeat' split) <;> simp [h]

@[simp] theorem followRecord_sustains (m : MasterRec) (e : Int) (h : Sustains o s.chart) :
    Sustains o (followRecord m e s).chart := by
  unfold followRecord; (repeat' split) <;> simp [h]

@[simp] theorem seekRecord_sustains (m : MasterRec) (h : Sustains o s.chart) : Sustains o (seekRecord m s).chart := by
  unfold seekRecord; (repeat' split) <;> simp [h]

@[simp] theorem parkedRecord_sustains (m : MasterRec) (h : Sustains o s.chart) : Sustains o (parkedRecord m s).chart := by
  have hseek (cause : ChaseCause) : Sustains o (reseekFrom cause m s).chart := makePlan_seek_sustains m cause h
  unfold parkedRecord; (repeat' split) <;> simp [h, hseek]

@[simp] theorem takeMaster_sustains (position speed : Int) (h : Sustains o s.chart) :
    Sustains o (takeMaster position speed s).chart := by
  have hresumed {u : State} (m : MasterRec) (e : Int) (hu : Sustains o u.chart) :
      Sustains o (followRecord m e (setChaseState .matching .resumed u)).chart :=
    followRecord_sustains _ _ (setChaseState_sustains _ _ hu)
  unfold takeMaster; dsimp only; split <;> simp [h, hresumed]

@[simp] theorem answerMasterPosition_sustains (position speed : Int) (h : Sustains o s.chart) :
    Sustains o (answerMasterPosition position speed s).state.chart := by
  unfold answerMasterPosition; dsimp only; (repeat' split) <;> simp [h]

end Units
end Sys2Proof.Machine

namespace Sys2Proof.Machine

open Chart (Sustains)

section Remaining

variable {o : Chart} {s : State}

/-! ## The Sense Scanner -/

@[simp] theorem armMeasured_sustains (r : Reel) (c : Nat) (h : Sustains o s.chart) : Sustains o (armMeasured r c s).chart := by
  unfold armMeasured armEnded; split <;> simp [h]

@[simp] theorem armStalled_sustains (r : Reel) (h : Sustains o s.chart) : Sustains o (armStalled r s).chart := by
  unfold armStalled armEnded; split <;> simp [h]

@[simp] theorem handAbsent_sustains (i : PresenceId) (h : Sustains o s.chart) : Sustains o (handAbsent i s).chart := by
  unfold handAbsent tapeEnd; (repeat' split) <;> simp [h]

@[simp] theorem presenceChanged_sustains (i : PresenceId) (old : Presence) (h : Sustains o s.chart) :
    Sustains o (presenceChanged i old s).chart := by
  unfold presenceChanged clearBlocks; dsimp only; (repeat' split) <;> simp [h]

@[simp] theorem presenceMeasured_sustains (c : Nat) (h : Sustains o s.chart) : Sustains o (presenceMeasured c s).chart := by
  unfold presenceMeasured; split <;> simp [h]

@[simp] theorem presenceStalled_chart : (presenceStalled s).chart = s.chart := by
  unfold presenceStalled; split <;> simp

@[simp] theorem answerSetSense_sustains (channel apply range cMin cMax tOn tOff suppress : Nat) (h : Sustains o s.chart) :
    Sustains o (answerSetSense channel apply range cMin cMax tOn tOff suppress s).state.chart := by
  unfold answerSetSense programArm programPresence; dsimp only; (repeat' split) <;> simp [h]

@[simp] theorem answerSetArmCal_chart (channel cCentre cFull : Nat) :
    (answerSetArmCal channel cCentre cFull s).state.chart = s.chart := by
  simp [State.chart]

/-! ## The Tension Servo -/

@[simp] theorem sampleServo_chart : (sampleServo s).chart = s.chart := (rfl)

@[simp] theorem latchTension_chart : (latchTension s).chart = s.chart := (rfl)

@[simp] theorem monitorSample_chart (v : SampleView) : (monitorSample v s).chart = s.chart := by simp [State.chart]

@[simp] theorem giveConditions_sustains (h : Sustains o s.chart) : Sustains o (giveConditions s).chart := by
  have hreel {u : State} (r : Reel) (x : ReelServo) (hu : Sustains o u.chart) : Sustains o (reelConditions r x u).chart :=
    conditionIf_sustains _ _ _ (conditionIf_sustains _ _ _ (conditionIf_sustains _ _ _ hu))
  exact hreel _ _ (hreel _ _ h)

@[simp] theorem servoSample_sustains (h : Sustains o s.chart) : Sustains o (servoSample s).chart := by
  have hcond : Sustains o (giveConditions (latchTension (sampleServo s))).chart := giveConditions_sustains (by simp [h])
  exact .ite (surveySample_sustains (by simp [hcond])) h

@[simp] theorem driveReduced_chart : (driveReduced s).chart = s.chart := by
  have hdrive : (setDriveState true s).chart = s.chart := rfl
  unfold driveReduced; split <;> simp [hdrive]

@[simp] theorem escalatePowerFail_sustains (h : Sustains o s.chart) : Sustains o (escalatePowerFail s).chart := by
  unfold escalatePowerFail; dsimp only; (repeat' split) <;> simp [h]

@[simp] theorem recoveryExpires_chart : (recoveryExpires s).chart = s.chart := by
  have hdrive : (setDriveState false s).chart = s.chart := rfl
  unfold recoveryExpires; split <;> simp [hdrive]

@[simp] theorem answerSetTension_chart (tension : Nat) : (answerSetTension tension s).state.chart = s.chart := by
  unfold answerSetTension storeNominal; dsimp only; split <;> simp

@[simp] theorem answerSetGains_chart (apply kpS kiS iMaxS kpT kiT iMaxT kv : Nat) :
    (answerSetGains apply kpS kiS iMaxS kpT kiT iMaxT kv s).state.chart = s.chart := by
  simp [State.chart]

@[simp] theorem answerSetSlew_chart (slew : Nat) : (answerSetSlew slew s).state.chart = s.chart := (rfl)

/-! ## The requests to the Capstan Controller, the monitor and the survey, and those that change no block -/

@[simp] theorem answerSetReference_chart (source m d : Nat) : (answerSetReference source m d s).state.chart = s.chart := by
  simp [State.chart]

@[simp] theorem answerSetCapstan_chart (apply ell w rho : Nat) : (answerSetCapstan apply ell w rho s).state.chart = s.chart := by
  simp [State.chart]

@[simp] theorem answerSetVarispeed_chart (vsHost : Int) : (answerSetVarispeed vsHost s).state.chart = s.chart := by
  simp [State.chart]

@[simp] theorem answerSetLockNotice_chart (choice : Nat) : (answerSetLockNotice choice s).state.chart = s.chart := by
  simp [State.chart]

@[simp] theorem answerSetCounter_chart (n apply event qualifier edge invert threshold ovfNotice enable : Nat) :
    (answerSetCounter n apply event qualifier edge invert threshold ovfNotice enable s).state.chart = s.chart := by
  simp [State.chart]

@[simp] theorem answerReadCounters_chart (clear : Nat) : (answerReadCounters clear s).state.chart = s.chart := by
  simp [State.chart]

@[simp] theorem answerFreeze_chart : (answerFreeze s).state.chart = s.chart := (rfl)

@[simp] theorem answerUnfreeze_chart : (answerUnfreeze s).state.chart = s.chart := by simp [State.chart]

@[simp] theorem answerResetCounters_chart : (answerResetCounters s).state.chart = s.chart := by simp [State.chart]

@[simp] theorem answerGetSurvey_chart (start count : Nat) : (answerGetSurvey start count s).state.chart = s.chart := by
  simp [State.chart]

@[simp] theorem answerGetZones_chart : (answerGetZones s).state.chart = s.chart := (rfl)

@[simp] theorem answerGetCues_chart (start count : Nat) : (answerGetCues start count s).state.chart = s.chart := by
  simp [State.chart]

@[simp] theorem answerGetFault_chart : (answerGetFault s).state.chart = s.chart := (rfl)

@[simp] theorem answerClearFault_sustains (h : Sustains o s.chart) : Sustains o (answerClearFault s).state.chart := by
  unfold answerClearFault clearFault; dsimp only; (repeat' split) <;> simp [h]

@[simp] theorem answerGetStatus_chart : (answerGetStatus s).state.chart = s.chart := (rfl)

@[simp] theorem answerReset_chart (retain : Nat) : (answerReset retain s).state.chart = s.chart := by simp [State.chart]

@[simp] theorem answerSetNoticeLevel_chart (kind level : Nat) : (answerSetNoticeLevel kind level s).state.chart = s.chart := by
  simp [State.chart]

@[simp] theorem answerSetTelemetry_chart (period : Nat) : (answerSetTelemetry period s).state.chart = s.chart := (rfl)

@[simp] theorem answerSetLinkTimeout_chart (timeout : Nat) : (answerSetLinkTimeout timeout s).state.chart = s.chart := by
  simp [State.chart]

/-- Every request keeps the invariants of the chart, in the block that answers it. -/
@[simp] theorem handleRequest_sustains (c : Instr) (h : Sustains o s.chart) : Sustains o (handleRequest c s).state.chart := by
  unfold handleRequest
  split <;> simp [h]

/-! ## The message link and its timers -/

@[simp] theorem restartLinkTimer_chart : (restartLinkTimer s).chart = s.chart := by
  unfold restartLinkTimer; split <;> simp

@[simp] theorem linkExpires_sustains (h : Sustains o s.chart) : Sustains o (linkExpires s).chart := by
  unfold linkExpires; split <;> simp [h]

@[simp] theorem telemetryExpires_chart : (telemetryExpires s).chart = s.chart := by simp [State.chart]

@[simp] theorem deliver_chart (kind tag : Byte) (a : Answer) : (deliver kind tag a).chart = a.state.chart := (rfl)

@[simp] theorem offerFrame_chart (f : Frame) : (offerFrame f s).chart = s.chart := by
  unfold offerFrame; (repeat' split) <;> simp

@[simp] theorem discardFrame_chart : (discardFrame s).chart = s.chart := by simp [discardFrame]

@[simp] theorem dispatchHead_sustains (h : Sustains o s.chart) : Sustains o (dispatchHead s).chart := by
  unfold dispatchHead; (repeat' split) <;> simp [h]

@[simp] theorem requestArrives_sustains (c : Instr) (h : Sustains o s.chart) : Sustains o (requestArrives c s).chart := by
  unfold requestArrives frameArrives; (repeat' split) <;> simp [h]

@[simp] theorem byteArrives_sustains (b : Byte) (framingError : Bool) (h : Sustains o s.chart) :
    Sustains o (byteArrives b framingError s).chart := by
  unfold byteArrives byteInFrame frameArrives; dsimp only; (repeat' split) <;> simp [h]

@[simp] theorem frameFinished_sustains (h : Sustains o s.chart) : Sustains o (frameFinished s).chart := by
  unfold frameFinished; split <;> simp [h]

@[simp] theorem tickRecovery_chart : (tickRecovery s).chart = s.chart := by
  unfold tickRecovery; (repeat' split) <;> simp

@[simp] theorem tickTelemetry_chart : (tickTelemetry s).chart = s.chart := by
  unfold tickTelemetry; (repeat' split) <;> simp

@[simp] theorem tickLink_sustains (h : Sustains o s.chart) : Sustains o (tickLink s).chart := by
  unfold tickLink; (repeat' split) <;> simp [h]

end Remaining
end Sys2Proof.Machine

namespace Sys2Proof.Machine

open Chart (Sustains)

/-! ## From one state to the next -/

/-- One state follows another with the four invariants kept. -/
structure ChartFollows (s t : State) : Prop where
  inhibit : InhibitFollows s → InhibitFollows t
  zone : ZoneInForce s → ZoneInForce t
  table : ZonesInRange s.zones → ZonesInRange t.zones
  cues : CuesOrdered s.cues.list → CuesOrdered t.cues.list

namespace ChartFollows

variable {s t : State}

theorem refl (s : State) : ChartFollows s s := ⟨id, id, id, id⟩

theorem of_running (hs : s.held = none) (h : Sustains s.chart t.chart) : ChartFollows s t where
  inhibit hi _ := h.inhibit (hi hs)
  zone hz _ := h.zone (hz hs)
  table := h.table
  cues hc := (cuesOrdered_iff t).2 (h.cues ((cuesOrdered_iff s).1 hc))

/-- In a part that is held in a reset only the tables count. -/
theorem of_held (ht : t.held ≠ none) (hzones : ZonesInRange s.zones → ZonesInRange t.zones) (hcues : t.cues.list = s.cues.list) :
    ChartFollows s t where
  inhibit _ hno := absurd hno ht
  zone _ hno := absurd hno ht
  table := hzones
  cues hc := hcues ▸ hc

theorem of_unchanged (hh : t.held = s.held) (h : t.chart = s.chart) : ChartFollows s t where
  inhibit hi ht := (inhibitFollows_iff t).2 (fun _ => h ▸ hi (hh ▸ ht)) ht
  zone hz ht := (zoneInForce_iff t).2 (fun _ => h ▸ hz (hh ▸ ht)) ht
  table hz := (zonesInRange_iff t).2 (h ▸ hz)
  cues hc := (cuesOrdered_iff t).2 (h ▸ (cuesOrdered_iff s).1 hc)

/-- Something that a held part does not do. -/
theorem unlessHeld {f g : State → State} (hg : s.held ≠ none → ChartFollows s (g s)) (hf : Sustains s.chart (f s).chart)
    (h : (.next (if s.held.isSome then g s else f s) : Host.Outcome State Fault Refusal) = .next t) : ChartFollows s t := by
  obtain rfl : (if s.held.isSome then g s else f s) = t := by simpa using h
  split
  next hs => exact hg (Option.isSome_iff_ne_none.1 hs)
  next hs => exact of_running (by simpa using hs) hf

/-- A row that only a running part takes. -/
theorem whileRunning {f : State → State} (h : Machine.whileRunning f s = .next t) (hf : Sustains s.chart (f s).chart) :
    ChartFollows s t :=
  unlessHeld (g := id) (fun _ => refl s) hf h

/-- A request takes its frame's way into the part (R180 to R182). -/
theorem request {c : Instr} (h : (.next (requestArrives c s) : Host.Outcome State Fault Refusal) = .next t) : ChartFollows s t := by
  obtain rfl : requestArrives c s = t := by simpa using h
  cases hh : s.held with
  | none => exact of_running hh (requestArrives_sustains c (.refl _))
  | some cause =>
    have hsame : requestArrives c s = s := by unfold requestArrives; split <;> simp [hh]
    rw [hsame]
    exact refl s

/-- A record row: the record arrives, or nothing happens. -/
theorem record {c : Instr} {p : Bool}
    (h : (.next (if p then requestArrives c s else s) : Host.Outcome State Fault Refusal) = .next t) : ChartFollows s t := by
  cases p with
  | true => exact request h
  | false =>
    obtain rfl : s = t := by simpa using h
    exact refl s

/-! ## Resets -/

/-- A reset that begins keeps the tables (R119, R127). -/
theorem enterReset (cause : ResetCause) (s : State) : ChartFollows s (Machine.enterReset cause s) :=
  of_held nofun id rfl

/-- The chart that a reset leaves before its notices: at rest, with the zone in force at the position. -/
theorem settleReset_right (cause : ResetCause) (s : State) :
    (settleReset (resetBlocks cause s)).chart.InhibitRight ∧ (settleReset (resetBlocks cause s)).chart.ZoneRight := by
  unfold resetBlocks
  split
  · exact ⟨(Bool.or_true _).symm, rfl⟩
  · exact ⟨(Bool.or_true _).symm, rfl⟩

theorem zonesInRange_cold : ZonesInRange Zones.cold := by
  refine ⟨rfl, fun e he => ?_, by decide⟩
  obtain rfl : e = .default := List.eq_of_mem_replicate he
  exact ZoneEntry.default_ok

theorem cuesOrdered_nil : CuesOrdered [] := by simp [CuesOrdered]

/-- A warm reset keeps both tables, and any other empties them (R119, R127). -/
theorem settleReset_tables (cause : ResetCause) (s : State) :
    (ZonesInRange s.zones → ZonesInRange (settleReset (resetBlocks cause s)).zones) ∧
      (CuesOrdered s.cues.list → CuesOrdered (settleReset (resetBlocks cause s)).chart.cues) := by
  unfold resetBlocks
  split
  · refine ⟨id, fun hc => ?_⟩
    change CuesOrdered ((s.cues.list.map fun q => { q with mark := .none }).map Cue.unmarked)
    rw [map_unmarked_of_marks (g := fun q => { q with mark := .none }) fun _ => rfl]
    exact (cuesOrdered_iff s).1 hc
  · exact ⟨fun _ => zonesInRange_cold, fun _ => cuesOrdered_nil⟩

theorem announceReset_sustains {o : Chart} (cause : ResetCause) (h : Sustains o s.chart) :
    Sustains o (announceReset cause s).chart := by
  unfold announceReset; dsimp only; (repeat' split) <;> simp [h]

theorem endReset (cause : ResetCause) (s : State) : ChartFollows s (Machine.endReset cause s) :=
  have ⟨hinhibit, hzone⟩ := settleReset_right cause s
  have ⟨hzones, hcues⟩ := settleReset_tables cause s
  have h : Sustains (settleReset (resetBlocks cause s)).chart (Machine.endReset cause s).chart :=
    announceReset_sustains cause (.refl _)
  ⟨fun _ _ => h.inhibit hinhibit, fun _ _ => h.zone hzone, h.table ∘ hzones,
    fun hc => (cuesOrdered_iff _).2 (h.cues (hcues hc))⟩

/-! ## Commands -/

theorem resetEnd (h : exec .resetEnd s = .next t) : ChartFollows s t := by
  cases hs : s.held with
  | none =>
    obtain rfl : s = t := by simpa [exec, execResetEnd, hs] using h
    exact refl s
  | some cause =>
    obtain rfl : Machine.endReset cause s = t := by simpa [exec, execResetEnd, hs] using h
    exact endReset ..

theorem supplyLowDeassert (h : exec .supplyLowDeassert s = .next t) : ChartFollows s t := by
  obtain rfl : (if s.held.isSome || !s.servo.reduced then s.onLines fun l => { l with supplyLow := false }
      else (s.onLines fun l => { l with supplyLow := false }).onServo fun v => { v with recovery := some 0 }) = t := by
    simpa [exec, execSupplyLowDeassert] using h
  split <;> exact of_unchanged (by simp) (by simp)

/-- A reset that begins at the end of a frame, in a part that runs. -/
theorem resetByReply {f : State → State} (h : Machine.whileRunning f s = .next t)
    (hf : (∃ cause, f s = Machine.enterReset cause s) ∨ Sustains s.chart (f s).chart) : ChartFollows s t := by
  rcases hf with ⟨cause, hf⟩ | hf
  · obtain rfl : (if s.held.isSome then s else f s) = t := by simpa [Machine.whileRunning] using h
    split
    · exact refl s
    · rw [hf]
      exact enterReset cause s
  · exact whileRunning h hf

end ChartFollows

section Events

variable {s t : State}

theorem exec_chartFollows {c : Instr} (h : exec c s = .next t) : ChartFollows s t := by
  cases c with
  | powerOn =>
    obtain rfl : enterReset .powerOn s = t := by simpa [exec, execPowerOn] using h
    exact .enterReset ..
  | resetInAssert =>
    obtain rfl : enterReset (lineCause s.held) (s.onLines fun l => { l with resetIn := true }) = t := by
      simpa [exec, execResetInAssert] using h
    exact .of_held nofun id rfl
  | resetEnd => exact .resetEnd h
  | rollerEdge d => exact .unlessHeld (g := countEdge d) (fun hs => .of_held hs id rfl) (rollerEdge_sustains d (.refl _)) h
  | supplyLowAssert =>
    exact .unlessHeld (g := fun s => s.onLines fun l => { l with supplyLow := true }) (fun hs => .of_held hs id rfl)
      (f := fun s => escalatePowerFail (driveReduced (s.onLines fun l => { l with supplyLow := true })))
      (escalatePowerFail_sustains (.of_eq driveReduced_chart)) h
  | supplyLowDeassert => exact .supplyLowDeassert h
  | powerFailAssert =>
    exact .unlessHeld (g := fun s => s.onLines fun l => { l with powerFail := true }) (fun hs => .of_held hs id rfl)
      (f := fun s => takePowerFail (s.onLines fun l => { l with powerFail := true })) (takePowerFail_sustains (.refl _)) h
  | powerFailDeassert =>
    obtain rfl : (s.onLines fun l => { l with powerFail := false }) = t := by simpa [exec, execPowerFailDeassert] using h
    exact .of_unchanged (by simp) (by simp)
  | chaseLocked tag position speed => exact .record h
  | chaseLoss tag position speed => exact .record h
  | frameReceived byte => exact .whileRunning h (byteArrives_sustains _ _ (.refl _))
  | byteReceived byte framingError => exact .whileRunning h (byteArrives_sustains _ _ (.refl _))
  | frameSent =>
    refine .resetByReply h ?_
    unfold frameSent
    split
    · exact .inl ⟨_, rfl⟩
    · exact .inr (frameFinished_sustains (.refl _))
  | resetAfterReply =>
    simp only [exec, execResetAfterReply] at h
    refine .resetByReply h ?_
    split
    · exact .inl ⟨_, rfl⟩
    · exact .inr (.refl _)
  | measurementStalled counter =>
    cases counter with
    | arm r => exact .whileRunning h (armStalled_sustains r (.refl _))
    | presence => exact .whileRunning h (.of_eq presenceStalled_chart)
  | interByteTimeout => exact .whileRunning h (.ite (.of_eq discardFrame_chart) (.refl _))
  | telemetryTimerExpiry => exact .whileRunning h (.of_eq telemetryExpires_chart)
  | linkSilence => exact .whileRunning h (linkExpires_sustains (.refl _))
  | armMeasurementComplete r c => exact .whileRunning h (armMeasured_sustains r c (.refl _))
  | presenceMeasurementComplete c => exact .whileRunning h (presenceMeasured_sustains c (.refl _))
  | reelTachEdge r winding => exact .whileRunning h (reelTachEdge_sustains r winding (.refl _))
  | predictionCountFull r winding => exact .whileRunning h (.ite (reelTachEdge_sustains r winding (.refl _)) (.refl _))
  | packWindowComplete r winding => exact .whileRunning h (.ite (reelTachEdge_sustains r winding (.refl _)) (.refl _))
  | packResync r winding => exact .whileRunning h (.ite (reelTachEdge_sustains r winding (.refl _)) (.refl _))
  | speedSample => exact .whileRunning h (speedSample_sustains (.refl _))
  | servoSample => exact .whileRunning h (servoSample_sustains (.refl _))
  | saturation r => exact .whileRunning h (.ite (servoSample_sustains (.refl _)) (.refl _))
  | slack r => exact .whileRunning h (.ite (servoSample_sustains (.refl _)) (.refl _))
  | overtension r => exact .whileRunning h (.ite (servoSample_sustains (.refl _)) (.refl _))
  | surveySettleDone => exact .whileRunning h (.ite (servoSample_sustains (.refl _)) (.refl _))
  | surveyStepEnd => exact .whileRunning h (.ite (servoSample_sustains (.refl _)) (.refl _))
  | driveRecoveryExpiry => exact .whileRunning h (.of_eq recoveryExpires_chart)
  | capstanStep => exact .whileRunning h (capstanStep_sustains (.refl _))
  | capstanStall => exact .whileRunning h (.ite (capstanStep_sustains (.refl _)) (.refl _))
  | capstanEncoderEdge d => exact .whileRunning h (.of_eq (encoderEdge_chart d))
  | capstanLockGained d => exact .whileRunning h (.ite (.of_eq (encoderEdge_chart d)) (.refl _))
  | capstanLockLost d => exact .whileRunning h (.ite (.of_eq (encoderEdge_chart d)) (.refl _))
  | refInEdge period => exact .whileRunning h (.ite (.of_eq (referenceEdge_chart period)) (.refl _))
  | internalReferenceEdge => exact .whileRunning h (.ite (.of_eq (referenceEdge_chart 1000)) (.refl _))
  | referenceReturned period => exact .whileRunning h (.ite (.of_eq (referenceEdge_chart period)) (.refl _))
  | referenceLost => exact .whileRunning h (.ite (.of_eq referenceLost_chart) (.refl _))
  | plannerStep => exact .whileRunning h (plannerStep_sustains (.refl _))
  | loadTakeUpDone => exact .whileRunning h (.ite (plannerStep_sustains (.refl _)) (.refl _))
  | engageMatch => exact .whileRunning h (.ite (plannerStep_sustains (.refl _)) (.refl _))
  | pinchCloseCommand => exact .whileRunning h (.ite (plannerStep_sustains (.refl _)) (.refl _))
  | brakingStandstill => exact .whileRunning h (.ite (plannerStep_sustains (.refl _)) (.refl _))
  | loadTimeout => exact .whileRunning h (.ite (failLoad_sustains _ (.refl _)) (.refl _))
  | engageTimeout => exact .whileRunning h (.ite (stopDemand_sustains _ _ (.refl _)) (.refl _))
  | brakeComplete => exact .whileRunning h (brakeComplete_sustains (.refl _))
  | pinchComplete => exact .whileRunning h (pinchComplete_sustains (.refl _))
  | locateUnitStep => exact .whileRunning h (unitStep_sustains (.refl _))
  | locateSettled => exact .whileRunning h (.ite (unitStep_sustains (.refl _)) (.refl _))
  | chaseSilence => exact .whileRunning h (.ite (freewheel_sustains (.refl _)) (.refl _))
  | chaseMasterLost =>
    simp only [exec, execChaseMasterLost] at h
    exact .whileRunning h (.ite (.refl _) (chaseOwnEnd_sustains _ (.refl _)))
  | _ => exact .request h

/-- One command, or one millisecond of an empty queue, leads to a state that follows. -/
theorem step_chartFollows (h : step s = .next t) : ChartFollows s t := by
  unfold step at h
  split at h
  · exact .unlessHeld (g := id) (f := fun s => tickLink (tickTelemetry (tickRecovery s))) (fun _ => .refl s)
      (tickLink_sustains (.of_eq (by simp))) h
  next c rest _ =>
    obtain ⟨hinhibit, hzone, hzones, hcues⟩ := exec_chartFollows h
    exact ⟨hinhibit, hzone, hzones, hcues⟩

end Events

/-- Settles O54: the line is set at every change of the mode, of the chase state and of the zone, and the zone at every change of the
position and of the table. -/
theorem zoneAndInhibitFollowEveryStep : Obligations.ZoneAndInhibitFollowEveryStep :=
  ⟨fun _ _ hs h => (step_chartFollows h).inhibit hs, fun _ _ hs h => (step_chartFollows h).zone hs⟩

/-- Settles O57: the cues and the entries are written by their own requests alone, which check and clamp them. -/
theorem everyStepKeepsTheTablesInRange : Obligations.EveryStepKeepsTheTablesInRange :=
  ⟨fun _ _ hs h => (step_chartFollows h).cues hs, fun _ _ hs h => (step_chartFollows h).table hs⟩

end Sys2Proof.Machine

namespace Sys2Proof.Machine

/-! ## The requests to the Zone Table (O29) -/

section ZoneEdits

variable {s : State}

/-! ### What an edit writes -/

@[simp] theorem beginStopping_zoneTable (sev : Severity) (cause : StopCause) (s : State) :
    (beginStopping sev cause s).zones.entries = s.zones.entries ∧ (beginStopping sev cause s).zones.base = s.zones.base := by
  simp [beginStopping, publishStopCause]

@[simp] theorem enterBraking_zoneTable (cause : StopCause) (s : State) :
    (enterBraking cause s).zones.entries = s.zones.entries ∧ (enterBraking cause s).zones.base = s.zones.base := by
  simp [enterBraking, publishStopCause]

@[simp] theorem failLoad_tape (cause : ModeCause) (s : State) : (failLoad cause s).packs.tape = s.packs.tape := by simp [failLoad]

/-- No stop demand writes the Zone Table, or the tape profile. -/
@[simp] theorem stopDemand_zoneTable (sev : Severity) (cause : StopCause) (s : State) :
    (stopDemand sev cause s).zones.entries = s.zones.entries ∧ (stopDemand sev cause s).zones.base = s.zones.base ∧
      (stopDemand sev cause s).packs.tape = s.packs.tape := by
  rcases stopDemand_cases sev cause s with ⟨h, -⟩ | ⟨-, h⟩ | ⟨-, h⟩ | ⟨-, -, h⟩ | ⟨-, -, h⟩ | ⟨-, -, h⟩ <;> rw [h] <;>
    simp [publishStopCause]

@[simp] theorem zoneDirectionRule_zoneTable (s : State) :
    (zoneDirectionRule s).zones.entries = s.zones.entries ∧ (zoneDirectionRule s).zones.base = s.zones.base ∧
      (zoneDirectionRule s).packs.tape = s.packs.tape := by
  unfold zoneDirectionRule
  split
  · simp
  · split <;> simp

/-- What the re-evaluation after an edit leaves (R114): the table as edited, with the zone in force at the position. -/
theorem rezoneEdit_leaves (before : ZoneAttrs) (s : State) :
    (rezoneEdit before s).zones.entries = s.zones.entries ∧ (rezoneEdit before s).zones.base = s.zones.base ∧
      (rezoneEdit before s).zones.index = zoneAt s.zones s.tach.position ∧
      (rezoneEdit before s).packs.profile = s.packs.profile ∧ (rezoneEdit before s).packs.tape = s.packs.tape := by
  unfold rezoneEdit
  dsimp only
  (repeat' split) <;> simp

/-- An entry is stored, whether it is new or as it was (R111). -/
theorem storeZone_leaves (i : Nat) (e : ZoneEntry) (hzone : s.zones.index = zoneAt s.zones s.tach.position) :
    (storeZone i e s).zones.entries = s.zones.entries.set i e ∧ (storeZone i e s).zones.base = s.zones.base ∧
      (storeZone i e s).zones.index = zoneAt (storeZone i e s).zones s.tach.position ∧
      (storeZone i e s).packs.profile = s.packs.profile ∧ (storeZone i e s).packs.tape = s.packs.tape := by
  unfold storeZone
  split
  next hsame =>
    obtain ⟨hi, rfl⟩ := List.getElem?_eq_some_iff.1 hsame
    exact ⟨(List.set_getElem_self hi).symm, rfl, hzone, rfl, rfl⟩
  next =>
    obtain ⟨hentries, hbase, hindex, hprofile, htape⟩ :=
      rezoneEdit_leaves s.zones.current (s.onZones fun t => { t with entries := t.entries.set i e })
    refine ⟨hentries, hbase, ?_, hprofile, htape⟩
    rw [hindex, zoneAt, zoneAt, hentries]
    rfl

/-! ### The checks (R111, R112) -/

theorem ZoneDirs.ofCode_code (d : ZoneDirs) : ZoneDirs.ofCode d.code = some d := by cases d <;> rfl

theorem ZoneDirs.ofCode_bad {n : Nat} (h : 3 < n) : ZoneDirs.ofCode n = Option.none := by
  match n, h with
  | n + 4, _ => rfl

/-- A flag byte that is in range says what it is equal to. -/
theorem flagSet_eq_beq {n : Nat} (h : n ≤ 1) : flagSet n = (n == 1) := by
  interval_cases n <;> rfl

theorem clampLimit_eq (n : Nat) : clampLimit n = max 100 (min 12000 n) := clampNat_eq (by decide) n

theorem clampScale_eq (n : Nat) : clampScale n = max 25 (min 100 n) := clampNat_eq (by decide) n

/-- The reply's code says whether the limit or the scale was clamped. -/
theorem okOr_attrs (a : ZoneAttrs) (limit scale : Nat) :
    okOr (a.limit != limit || a.scale != scale) = if a.limit = limit ∧ a.scale = scale then .ok else .okClamped := by
  rw [okOr_eq]; simp

variable {index enabled k limit scale dirs inhibit : Nat} {base : Int}

theorem answerSetZone_bad
    (h : 7 < index ∨ k < 12 ∨ 28 < k ∨ base < -1000000000 ∨ 1000000000 < base ∨ 3 < dirs ∨ 1 < enabled ∨ 1 < inhibit) :
    answerSetZone index enabled base k limit scale dirs inhibit s = refuse s .badValue := by
  rw [answerSetZone, if_pos]
  rw [Bool.not_eq_true', ← Bool.not_eq_true, zoneFieldsOk_iff, positionOk_iff]
  rintro ⟨hindex, hlow, hhigh, hbase, hdirs, henabled, hinhibit⟩
  have hcode : ¬3 < dirs := fun hno => by simp [ZoneDirs.ofCode_bad hno] at hdirs
  omega

theorem answerSetZone_misaligned (hfields : zoneFieldsOk index enabled base k dirs inhibit = true) (h : base % 2 ^ k ≠ 0) :
    answerSetZone index enabled base k limit scale dirs inhibit s = refuse s .misaligned := by
  have haligned : zoneAligned base k = false := by rwa [← Bool.not_eq_true, zoneAligned_iff]
  rw [answerSetZone, hfields, haligned]
  rfl

theorem answerSetZone_stored {d : ZoneDirs} {a : ZoneAttrs} {e : ZoneEntry}
    (hfields : zoneFieldsOk index enabled base k dirs inhibit = true) (h : base % 2 ^ k = 0) (hd : d.code = dirs)
    (ha : a = { limit := max 100 (min 12000 limit), scale := max 25 (min 100 scale), dirs := d, inhibit := inhibit == 1 })
    (he : e = { enabled := enabled == 1, base := base, k := k, attrs := a }) :
    answerSetZone index enabled base k limit scale dirs inhibit s =
      { state := storeZone index e s, code := if a.limit = limit ∧ a.scale = scale then .ok else .okClamped,
        body := zoneEntryBytes e ++ outU8 (storeZone index e s).zones.index } := by
  obtain ⟨-, -, -, -, -, henabled, hinhibit⟩ := (zoneFieldsOk_iff ..).1 hfields
  rw [← okOr_attrs, answerSetZone, hfields, (zoneAligned_iff base k).2 h, flagSet_eq_beq henabled, flagSet_eq_beq hinhibit,
    clampLimit_eq, clampScale_eq, ← hd, ZoneDirs.ofCode_code]
  subst ha he
  rfl

theorem answerSetBaseZone_bad (h : 3 < dirs ∨ 1 < inhibit) : answerSetBaseZone limit scale dirs inhibit s = refuse s .badValue := by
  unfold answerSetBaseZone
  split
  next d hdirs hinhibit =>
    have hflag : inhibit ≤ 1 := by simpa [flagOk] using hinhibit
    have hcode : ¬3 < dirs := fun hno => by simp [ZoneDirs.ofCode_bad hno] at hdirs
    omega
  next => rfl

theorem answerSetBaseZone_stored {d : ZoneDirs} {a : ZoneAttrs} (hinhibit : inhibit ≤ 1) (hd : d.code = dirs)
    (ha : a = { limit := max 100 (min 12000 limit), scale := max 25 (min 100 scale), dirs := d, inhibit := inhibit == 1 }) :
    answerSetBaseZone limit scale dirs inhibit s =
      { state := storeBaseZone a s, code := if a.limit = limit ∧ a.scale = scale then .ok else .okClamped,
        body := zoneAttrBytes a } := by
  have hflag : flagOk inhibit = true := by simpa [flagOk] using hinhibit
  rw [← okOr_attrs, answerSetBaseZone, ← hd, ZoneDirs.ofCode_code, hflag, flagSet_eq_beq hinhibit, clampLimit_eq, clampScale_eq]
  subst ha
  rfl

/-! ### The requests -/

theorem setZone_answered {tag : Byte} {code : ResultCode} {body : List Byte} {t : State} (hs : Ready s)
    (h : answerSetZone index enabled base k limit scale dirs inhibit (restartLinkTimer s) =
      { state := t, code := code, body := body }) :
    Answered (.setZone tag index enabled base k limit scale dirs inhibit) s 0xB4 tag code body t :=
  answered_of_ready hs rfl rfl rfl rfl h

theorem clearZone_answered {tag : Byte} {code : ResultCode} {body : List Byte} {t : State} (hs : Ready s)
    (h : answerClearZone index (restartLinkTimer s) = { state := t, code := code, body := body }) :
    Answered (.clearZone tag index) s 0xB5 tag code body t :=
  answered_of_ready hs rfl rfl rfl rfl h

theorem setBaseZone_answered {tag : Byte} {code : ResultCode} {body : List Byte} {t : State} (hs : Ready s)
    (h : answerSetBaseZone limit scale dirs inhibit (restartLinkTimer s) = { state := t, code := code, body := body }) :
    Answered (.setBaseZone tag limit scale dirs inhibit) s 0xB6 tag code body t :=
  answered_of_ready hs rfl rfl rfl rfl h

end ZoneEdits

/-- Settles O29: the checks in their order, and the table that an accepted edit leaves, evaluated at the position. -/
theorem zonesAreEdited : Obligations.ZonesAreEdited := by
  intro tag index enabled k limit scale dirs inhibit base s hs hzone
  obtain ⟨hsense, htach, hpacks, -, -, -, hzones, -⟩ := restartLinkTimer_frame s
  have setZone {code : ResultCode} {body : List Byte} {t : State} := setZone_answered (index := index) (enabled := enabled)
    (base := base) (k := k) (limit := limit) (scale := scale) (dirs := dirs) (inhibit := inhibit) (tag := tag) (code := code)
    (body := body) (t := t) hs
  have clearZone {code : ResultCode} {body : List Byte} {t : State} := clearZone_answered (index := index) (tag := tag)
    (code := code) (body := body) (t := t) hs
  have setBaseZone {code : ResultCode} {body : List Byte} {t : State} := setBaseZone_answered (limit := limit) (scale := scale)
    (dirs := dirs) (inhibit := inhibit) (tag := tag) (code := code) (body := body) (t := t) hs
  rw [← hzones, ← htach] at hzone
  rw [← hzones, ← htach, ← hsense, ← hpacks]
  unfold Refuses
  generalize restartLinkTimer s = v at *
  refine ⟨fun hbad => setZone (answerSetZone_bad hbad), fun hindex hlow hhigh hbase hbase' henabled hinhibit d hd => ?set,
    fun hbad => clearZone (if_pos hbad), fun hindex => ?clear, fun hbad => setBaseZone (answerSetBaseZone_bad hbad),
    fun hinhibit d hd a ha => ?base⟩
  case set =>
    have hfields : zoneFieldsOk index enabled base k dirs inhibit = true :=
      (zoneFieldsOk_iff ..).2 ⟨hindex, hlow, hhigh, (positionOk_iff base).2 ⟨hbase, hbase'⟩,
        by rw [← hd, ZoneDirs.ofCode_code]; rfl, henabled, hinhibit⟩
    refine ⟨fun hmis => setZone (answerSetZone_misaligned hfields hmis), fun haligned a ha => ?_⟩
    obtain ⟨hentries, hkept, hnow, hprofile, htape⟩ :=
      storeZone_leaves index { enabled := enabled == 1, base := base, k := k, attrs := a } hzone
    exact ⟨_, _, setZone (answerSetZone_stored hfields haligned hd ha rfl), hentries, hkept, hnow, by simp, by simp, hprofile, htape⟩
  case clear =>
    obtain ⟨hentries, hkept, hnow, -⟩ := storeZone_leaves index .default hzone
    exact ⟨_, _, clearZone (if_neg (by omega)), hentries, hkept, hnow, by simp, by simp⟩
  case base =>
    obtain ⟨hentries, hkept, hnow, -⟩ := rezoneEdit_leaves v.zones.current (v.onZones fun t => { t with base := a })
    exact ⟨_, setBaseZone (answerSetBaseZone_stored hinhibit hd ha), hkept, hentries, hnow.trans hzone.symm, by simp, by simp⟩

end Sys2Proof.Machine

namespace Sys2Proof.Machine

/-! ## The requests to the Cue List (O30) -/

section AddCue

variable {s : State} {id kind : Nat} {position : Int} {label : List Byte}

/-! ### ADD_CUE -/

theorem CueKind.ofCode_code (k : CueKind) : CueKind.ofCode k.code = some k := by cases k <;> rfl

theorem CueKind.ofCode_bad {n : Nat} (h : 1 < n) : CueKind.ofCode n = Option.none := by
  match n, h with
  | n + 2, _ => rfl

theorem printable_iff (b : Byte) : printable b = true ↔ 0x20 ≤ b.toNat ∧ b.toNat ≤ 0x7E := by simp [printable]

theorem answerAddCue_bad
    (h : id = 0 ∨ 250 < id ∨ position < -1000000000 ∨ 1000000000 < position ∨ 1 < kind ∨ 12 < label.length ∨
      ∃ b ∈ label, b.toNat < 0x20 ∨ 0x7E < b.toNat) :
    answerAddCue id position kind label s = refuse s .badValue := by
  rw [answerAddCue, if_pos]
  rw [Bool.not_eq_true', ← Bool.not_eq_true, cueFieldsOk_iff, positionOk_iff, List.all_eq_true]
  rintro ⟨hlow, hhigh, hpos, hkind, hlength, hprint⟩
  have hcode : ¬1 < kind := fun hno => by simp [CueKind.ofCode_bad hno] at hkind
  have hlabel : ¬∃ b ∈ label, b.toNat < 0x20 ∨ 0x7E < b.toNat := by
    rintro ⟨b, hb, hbad⟩
    have := (printable_iff b).1 (hprint b hb)
    omega
  simp only [hlabel, or_false] at h
  omega

theorem answerAddCue_duplicate (hfields : cueFieldsOk id position kind label = true)
    (h : ∃ c ∈ s.cues.list, c.id = id ∨ c.position = position) :
    answerAddCue id position kind label s = refuse s .duplicate := by
  rw [answerAddCue, hfields, if_neg (by simp), if_pos (by simpa using h)]

theorem answerAddCue_full (hfields : cueFieldsOk id position kind label = true)
    (hnew : ∀ c ∈ s.cues.list, c.id ≠ id ∧ c.position ≠ position) (hfull : 32 ≤ s.cues.list.length) :
    answerAddCue id position kind label s = refuse s .listFull := by
  rw [answerAddCue, hfields, if_neg (by simp), if_neg (by simpa using hnew), if_pos hfull]

/-- The new cue stands between those at lower and those at greater positions. -/
theorem answerAddCue_joins {ck : CueKind} {before after : List Cue} (hfields : cueFieldsOk id position kind label = true)
    (hnew : ∀ c ∈ s.cues.list, c.id ≠ id ∧ c.position ≠ position) (hroom : s.cues.list.length < 32)
    (hck : ck.code = kind) (hlist : s.cues.list = before ++ after) (hbefore : ∀ c ∈ before, c.position < position)
    (hafter : ∀ c ∈ after, position < c.position) :
    answerAddCue id position kind label s =
      { state := s.onCues fun q =>
          { q with list := before ++ { id := id, position := position, kind := ck, label := label, mark := .none } :: after }
        code := .ok, body := outU8 before.length ++ outU8 (s.cues.list.length + 1 : Nat) } := by
  rw [answerAddCue, hfields, if_neg (by simp), if_neg (by simpa using hnew), if_neg (by omega), ← hck, CueKind.ofCode_code]
  have hjoins : insertCue { id := id, position := position, kind := ck, label := label, mark := .none } (before ++ after) =
      before ++ { id := id, position := position, kind := ck, label := label, mark := .none } :: after :=
    insertCue_eq hbefore hafter
  simp [accept, State.onCues, hlist, cueIndex_eq hbefore hafter, hjoins, add_assoc]

end AddCue

section DeleteCue

variable {s : State} {id : Nat}

/-! ### DELETE_CUE and CLEAR_CUES -/

theorem deleteCue_cues : (deleteCue id s).cues =
    { s.cues with list := s.cues.list.filter (fun c => c.id ≠ id), lastReached := s.cues.lastReached.filter (· ≠ id) } := by
  have hlast : (if s.cues.lastReached = some id then none else s.cues.lastReached) = s.cues.lastReached.filter (· ≠ id) := by
    cases h : s.cues.lastReached <;> simp [Option.filter]
  simp [deleteCue, hlast, bne, beq_eq_decide]

theorem deleteCue_planner : (deleteCue id s).planner =
    { s.planner with
      missed := s.planner.missed.filter (· ≠ id), inForce := s.planner.inForce.filter (fun k => k.1 ≠ id)
      seen := s.planner.seen.filter (fun k => k.1 ≠ id) } := by
  simp [deleteCue, bne, beq_eq_decide]

theorem deleteCue_onlyChanges : OnlyChanges [.cues, .planner] s (deleteCue id s) := by
  intro b; cases b <;> simp [sameBlock]

theorem answerDeleteCue_notFound (h : ∀ c ∈ s.cues.list, c.id ≠ id) : answerDeleteCue id s = refuse s .notFound := by
  rw [answerDeleteCue, if_neg (by simpa using h)]

theorem answerDeleteCue_found (h : ∃ c ∈ s.cues.list, c.id = id) :
    answerDeleteCue id s =
      { state := deleteCue id s, code := .ok, body := outU8 (deleteCue id s).cues.list.length } := by
  rw [answerDeleteCue, if_pos (by simpa using h)]
  rfl

/-- What the removal of some cues leaves: nothing that bears the id of one of them, and everything else. -/
structure CuesGone (gone : List Cue) (s t : State) : Prop where
  frame : OnlyChanges [.cues, .planner] s t
  list : ∀ c, c ∈ t.cues.list ↔ c ∈ s.cues.list ∧ ∀ q ∈ gone, q.id ≠ c.id
  pendingStop : t.cues.pendingStop = s.cues.pendingStop
  lastReached : ∀ i, t.cues.lastReached = some i ↔ s.cues.lastReached = some i ∧ ∀ q ∈ gone, q.id ≠ i
  missed : ∀ i, i ∈ t.planner.missed ↔ i ∈ s.planner.missed ∧ ∀ q ∈ gone, q.id ≠ i
  inForce : ∀ k, k ∈ t.planner.inForce ↔ k ∈ s.planner.inForce ∧ ∀ q ∈ gone, q.id ≠ k.1
  seen : ∀ k, k ∈ t.planner.seen ↔ k ∈ s.planner.seen ∧ ∀ q ∈ gone, q.id ≠ k.1
  planner : t.planner = { s.planner with missed := t.planner.missed, inForce := t.planner.inForce, seen := t.planner.seen }

theorem CuesGone.nil (s : State) : CuesGone [] s s :=
  ⟨.refl _ s, by simp, rfl, by simp, by simp, by simp, by simp, rfl⟩

/-- One cue is removed before the others. -/
theorem CuesGone.cons {c : Cue} {l : List Cue} {t : State} (h : CuesGone l (deleteCue c.id s) t) : CuesGone (c :: l) s t where
  frame := deleteCue_onlyChanges.trans h.frame
  list q := by simp [h.list, deleteCue_cues, and_assoc, ne_comm]
  pendingStop := h.pendingStop
  lastReached i := by simp [h.lastReached, deleteCue_cues, and_assoc, ne_comm, Option.filter_eq_some_iff]
  missed i := by simp [h.missed, deleteCue_planner, and_assoc, ne_comm]
  inForce k := by simp [h.inForce, deleteCue_planner, and_assoc, ne_comm]
  seen k := by simp [h.seen, deleteCue_planner, and_assoc, ne_comm]
  planner := h.planner

theorem deleteCues_gone (l : List Cue) (s : State) : CuesGone l s (l.foldl (fun t c => deleteCue c.id t) s) := by
  induction l generalizing s with
  | nil => exact .nil s
  | cons c l ih => exact .cons (ih (deleteCue c.id s))

/-- With every cue of the list removed the list is empty. -/
theorem CuesGone.list_eq_nil {t : State} (h : CuesGone s.cues.list s t) : t.cues.list = [] :=
  List.eq_nil_iff_forall_not_mem.2 fun c hc => have ⟨hmem, hne⟩ := (h.list c).1 hc; hne c hmem rfl

theorem answerClearCues_eq (s : State) :
    ∃ t, CuesGone s.cues.list s t ∧ answerClearCues s = { state := t, code := .ok, body := outU8 0 } := by
  have hgone := deleteCues_gone s.cues.list s
  refine ⟨_, hgone, ?_⟩
  rw [answerClearCues, accept, hgone.list_eq_nil]
  rfl

end DeleteCue

/-- Settles O30: the checks of ADD_CUE in their order and the place of the cue, and what the removal of one cue, and of all, leaves. -/
theorem cuesAreAddedAndRemoved : Obligations.CuesAreAddedAndRemoved := by
  refine ⟨?add, ?remove⟩
  case add =>
    intro tag id kind position label s hs
    have answered {code : ResultCode} {body : List Byte} {t : State}
        (h : answerAddCue id position kind label (restartLinkTimer s) = { state := t, code := code, body := body }) :
        Answered (.addCue tag id position kind label) s 0xB8 tag code body t := answered_of_ready hs rfl rfl rfl rfl h
    have hcues : (restartLinkTimer s).cues = s.cues := by simp
    rw [← hcues]
    unfold Refuses
    generalize restartLinkTimer s = v at *
    refine ⟨fun hbad => answered (answerAddCue_bad hbad), fun hlow hhigh hpos hpos' hlength hprint ck hck => ?_⟩
    have hfields : cueFieldsOk id position kind label = true :=
      (cueFieldsOk_iff ..).2 ⟨hlow, hhigh, (positionOk_iff position).2 ⟨hpos, hpos'⟩, by rw [← hck, CueKind.ofCode_code]; rfl,
        hlength, List.all_eq_true.2 fun b hb => (printable_iff b).2 (hprint b hb)⟩
    exact ⟨fun hdup => answered (answerAddCue_duplicate hfields hdup), fun hnew =>
      ⟨fun hfull => answered (answerAddCue_full hfields hnew hfull),
        fun hroom before after hlist hbefore hafter =>
          answered (answerAddCue_joins hfields hnew hroom hck hlist hbefore hafter)⟩⟩
  case remove =>
    intro tag id s hs
    have deleted {code : ResultCode} {body : List Byte} {t : State}
        (h : answerDeleteCue id (restartLinkTimer s) = { state := t, code := code, body := body }) :
        Answered (.deleteCue tag id) s 0xB9 tag code body t := answered_of_ready hs rfl rfl rfl rfl h
    have cleared {body : List Byte} {t : State}
        (h : answerClearCues (restartLinkTimer s) = { state := t, code := .ok, body := body }) :
        Answered (.clearCues tag) s 0xBA tag .ok body t := answered_of_ready hs rfl rfl rfl rfl h
    have hcues : (restartLinkTimer s).cues = s.cues := by simp
    have hplanner : (restartLinkTimer s).planner = s.planner := by simp
    rw [← hcues, ← hplanner]
    unfold Refuses
    generalize restartLinkTimer s = v at *
    refine ⟨fun hnone => deleted (answerDeleteCue_notFound hnone), fun hfound =>
      ⟨_, deleted (answerDeleteCue_found hfound), deleteCue_onlyChanges, deleteCue_cues, deleteCue_planner⟩, ?_⟩
    obtain ⟨t, hgone, hclear⟩ := answerClearCues_eq v
    exact ⟨t, cleared hclear, hgone.frame, hgone.list_eq_nil, hgone.pendingStop, hgone.lastReached, hgone.missed, hgone.inForce,
      hgone.seen, hgone.planner⟩

end Sys2Proof.Machine

namespace Sys2Proof.Machine

/-! ## The chase: its state changes, its start and its stop (O32) -/

section ChaseState

variable {s : State}

@[simp] theorem setChaseState_chase (st : ChaseState) (cause : ChaseCause) (s : State) :
    (setChaseState st cause s).chase = { s.chase with state := st } := rfl

/-- Each change of chase state posts its CHASE notice (R146). -/
@[simp] theorem setChaseState_link (st : ChaseState) (cause : ChaseCause) (s : State) :
    (setChaseState st cause s).link =
      txTake (enqueueNotice
        (.chase st s.chase.state cause s.chase.e s.capstan.trim s.chase.lead s.chase.doublings) s.link) := rfl

/-- RECORD_INHIBIT follows a change of chase state (R118). -/
theorem setChaseState_lines (st : ChaseState) (cause : ChaseCause) (s : State) :
    (setChaseState st cause s).lines =
      { s.lines with recordInhibit :=
          s.zones.current.inhibit || !(s.planner.mode == .play || (s.planner.mode == .chase && st == .locked)) } := rfl

@[simp] theorem setChaseState_pinchLine (st : ChaseState) (cause : ChaseCause) (s : State) :
    (setChaseState st cause s).lines.pinch = s.lines.pinch := rfl

theorem setChaseState_onlyChanges (st : ChaseState) (cause : ChaseCause) (s : State) :
    OnlyChanges [.chase, .lines, .link] s (setChaseState st cause s) := by
  intro b; cases b <;> simp [sameBlock]

theorem paramField_eq {lo hi : Nat} (h : lo ≤ hi) (stored field : Nat) :
    paramField lo hi stored field = if field = 0 then stored else max lo (min hi field) := by
  simp [paramField, clampNat_eq h]

end ChaseState

section ChaseStart

variable {s : State} {offset : Int} {window lead flag gain reseek freewheel : Nat}

theorem chaseStart_answered {tag : Byte} {code : ResultCode} {body : List Byte} {t : State} (hs : Ready s)
    (h : answerChaseStart offset window lead flag gain reseek freewheel (restartLinkTimer s) =
      { state := t, code := code, body := body }) :
    Answered (.chaseStart tag offset window lead flag gain reseek freewheel) s 0xC1 tag code body t :=
  answered_of_ready hs rfl rfl rfl rfl h

theorem answerChaseStart_wrongMode (h : s.planner.mode ≠ .hold ∨ s.capstan.lock = .off) :
    answerChaseStart offset window lead flag gain reseek freewheel s = refuse s .wrongMode := if_pos h

theorem answerChaseStart_latched (hm : s.planner.mode = .hold) (hl : s.capstan.lock ≠ .off) (hf : s.fault.record ≠ none) :
    answerChaseStart offset window lead flag gain reseek freewheel s = refuse s .faultLatched := by
  simp [answerChaseStart, hm, hl, FaultUnit.latched, Option.isSome_iff_ne_none, hf]

theorem answerChaseStart_bad (hm : s.planner.mode = .hold) (hl : s.capstan.lock ≠ .off) (hf : s.fault.record = none)
    (h : offset < -1000000000 ∨ 1000000000 < offset ∨ 1 < flag) :
    answerChaseStart offset window lead flag gain reseek freewheel s = refuse s .badValue := by
  have hbad : (!positionOk offset || !flagOk flag) = true := by
    rw [Bool.or_eq_true, Bool.not_eq_true', Bool.not_eq_true', Bool.eq_false_iff, Bool.eq_false_iff, ne_eq, ne_eq, positionOk_iff]
    simp only [flagOk, decide_eq_true_eq]
    omega
  simp [answerChaseStart, hm, hl, FaultUnit.latched, hf, hbad]

/-- With no fault and its fields in range CHASE_START asks only whether forward is allowed (R137). -/
theorem answerChaseStart_inRange {q : LocateParams} (hm : s.planner.mode = .hold) (hl : s.capstan.lock ≠ .off)
    (hf : s.fault.record = none) (hlow : -1000000000 ≤ offset) (hhigh : offset ≤ 1000000000) (hflag : flag ≤ 1)
    (hq : chaseParams s.params window lead (flagSet flag) gain reseek freewheel = q) :
    ∃ clamped, answerChaseStart offset window lead flag gain reseek freewheel s =
      if forbidden s .forward then refuse s .directionBlocked
      else accept (startChase q offset s) clamped (chaseReply q) := by
  subst hq
  have hpos : positionOk offset = true := (positionOk_iff offset).2 ⟨hlow, hhigh⟩
  have hok : flagOk flag = true := by simpa [flagOk] using hflag
  exact ⟨_, by simp only [answerChaseStart, hm, hl, FaultUnit.latched, hf, hpos, hok]; rfl⟩

theorem chaseParams_eq (q : LocateParams) (hflag : flag ≤ 1) :
    chaseParams q window lead (flagSet flag) gain reseek freewheel =
      { q with
        window := if window = 0 then q.window else max 1 (min 800 window)
        lead := if lead = 0 then q.lead else max 500 (min 10000 lead)
        gain := if flag = 0 then q.gain else min 1000 gain
        reseek := if flag = 0 then q.reseek else max 1600 (min 1000000 reseek)
        freewheel := if flag = 0 then q.freewheel else max 200 (min 10000 freewheel) } := by
  obtain rfl | rfl : flag = 0 ∨ flag = 1 := by omega
  · simp [chaseParams, flagSet, paramField_eq]
  · simp [chaseParams, flagSet, paramField_eq, clampNat_eq]

variable (q : LocateParams) (s)

/-- The chase record at acceptance (R137). -/
theorem startChase_chase :
    (startChase q offset s).chase =
      { s.chase with
        state := .seek, offset := offset, plan := none, halting := false, lead := q.lead, doublings := 0, inRun := 0, outRun := 0
        e := none, silence := some 0, master := none } := by
  simp [startChase]

theorem startChase_rest :
    (startChase q offset s).planner.mode = .chase ∧ (startChase q offset s).planner.goal = 0 ∧
      (startChase q offset s).planner.vRef = s.planner.vRef ∧ (startChase q offset s).fault.record = s.fault.record ∧
      (startChase q offset s).capstan = { s.capstan with trim := 0 } ∧ (startChase q offset s).params = q := by
  simp [startChase]

theorem startChase_onlyChanges :
    OnlyChanges [.planner, .cues, .params, .chase, .capstan, .lines, .fault, .link] s (startChase q offset s) := by
  intro b; cases b <;> simp [sameBlock]

end ChaseStart

section ChaseStop

variable {s : State}

theorem chaseStop_answered {tag : Byte} {t : State} (hs : Ready s) (h : answerChaseStop (restartLinkTimer s) = accept t false []) :
    Answered (.chaseStop tag) s 0xC3 tag .ok [] t :=
  answered_of_ready hs rfl rfl rfl rfl h

/-- A CONTROLLED stop demanded in a chase ends it, and begins with what the end leaves (R98, R146). -/
theorem stopDemand_chase (cause : StopCause) (hm : s.planner.mode = .chase) (hn : s.planner.stopInForce = none) :
    stopDemand .controlled cause s = beginStopping .controlled cause (endChase (chaseCauseOf cause) s) := by
  rw [stopDemand_begins (sev := .controlled) cause (by simp [hm, Mode.startsStop]) hn nofun, endUnit, hm]

theorem owner_ne_of_filter (o : LocateOwner) (l : Option LocateRec) :
    (l.filter fun r => r.owner ≠ o).map (·.owner) ≠ some o := by
  intro h
  obtain ⟨r, hr, ho⟩ := Option.map_eq_some_iff.1 h
  exact absurd ho (by simpa using (Option.filter_eq_some_iff.1 hr).2)

end ChaseStop

/-- Settles O32: CHASE_START's checks in their order and the record it begins with, then CHASE_STOP outside and inside a chase. -/
theorem chaseStartsAndStops : Obligations.ChaseStartsAndStops := by
  refine ⟨fun tag window lead flag gain reseek freewheel offset s hs => ⟨fun h => ?wrongMode, fun hm hl => ⟨fun hf => ?latched,
    fun hf => ⟨fun h => ?bad, fun hlow hhigh hflag => ⟨fun hb => ?blocked, fun hb => ?starts⟩⟩⟩⟩,
    fun tag s hs => ⟨fun hm => ?outside, fun hm hc hn => ?stops⟩⟩
  case wrongMode => exact chaseStart_answered hs (answerChaseStart_wrongMode (by simpa using h))
  case latched => exact chaseStart_answered hs (answerChaseStart_latched (by simpa using hm) (by simpa using hl) (by simpa using hf))
  case bad => exact chaseStart_answered hs (answerChaseStart_bad (by simpa using hm) (by simpa using hl) (by simpa using hf) h)
  case outside => exact chaseStop_answered hs (by simp [answerChaseStop, hm])
  case stops =>
    obtain ⟨hplanner, hchase, hcapstan, hlocate, -⟩ := endChase_running (s := restartLinkTimer s) .request (by simpa using hc)
    obtain ⟨hmode, hinForce, hcause, -, -, hpinch, -, hrecord⟩ :=
      beginStopping_motion (endChase .request (restartLinkTimer s)) .controlled .request
    refine ⟨_, chaseStop_answered hs (by rw [answerChaseStop, if_pos (by simpa using hm),
      stopDemand_chase .request (by simpa using hm) (by simpa using hn)]; rfl), ?_, hmode, hinForce, hcause, hpinch, ?_, ?_,
        ?_, ?_, ?_,
      hrecord.trans (by simp)⟩
    · intro b; cases b <;> simp [sameBlock]
    all_goals simp only [beginStopping_frame]
    · simp [hchase]
    · simpa using hcapstan
    · simp [hchase]
    · simp [hchase]
    · rw [hlocate]; exact owner_ne_of_filter .chase _
  all_goals
    obtain ⟨clamped, h⟩ := answerChaseStart_inRange (s := restartLinkTimer s) (by simpa using hm) (by simpa using hl)
        (by simpa using hf)
      hlow hhigh hflag (chaseParams_eq _ hflag)
  case blocked => exact chaseStart_answered hs (h.trans (if_pos (by simpa using hb)))
  case starts =>
    rw [if_neg (by simpa using hb)] at h
    obtain ⟨hmode, hgoal, hv, hrecord, hcapstan, hparams⟩ := startChase_rest (restartLinkTimer s) _
    refine ⟨_, _, _, chaseStart_answered hs h, okOr_cases clamped,
      ((restartLinkTimer_onlyChanges s).mono (by simp)).trans (startChase_onlyChanges _ _), hmode, hgoal, hv.trans (by simp),
      hrecord.trans (by simpa using hf), hcapstan.trans (by simp), ?_⟩
    rw [hparams, startChase_chase]
    simp

end Sys2Proof.Machine

namespace Sys2Proof.Machine

/-! ## The directions and the start of a locate (O31) -/

section Directions

variable {s : State} {x y : Int}

theorem dirTo_eq (x y : Int) : dirTo x y = if x < y then some .forward else if y < x then some .reverse else none := by
  simp only [dirTo, dirOf, sub_pos, sub_neg]

theorem LocateRec.toward_eq (l : LocateRec) (x : Int) :
    l.toward x = if x < l.aim then .forward else if l.aim < x then .reverse else l.dir := by
  rw [toward, dirTo_eq]
  split
  · rfl
  · split <;> rfl

/-- The way to a place is forbidden where the direction to it is (R128, R139). -/
theorem wayForbidden_iff {place : Int} :
    wayForbidden s place = true ↔
      (s.tach.position < place ∧ forbidden s .forward = true) ∨ (place < s.tach.position ∧ forbidden s .reverse = true) := by
  unfold wayForbidden
  rw [dirTo_eq]
  obtain h | rfl | h := lt_trichotomy s.tach.position place
  · simp [h, h.le]
  · simp
  · simp [h, h.not_gt]

end Directions

section LocateChecks

variable {s : State} {kind cueId thenPlay preroll dist speed tol : Nat} {position : Int}

theorem locate_answered {tag : Byte} {code : ResultCode} {body : List Byte} {t : State} (hs : Ready s)
    (h : answerLocate kind position cueId thenPlay preroll dist speed tol (restartLinkTimer s) =
      { state := t, code := code, body := body }) :
    Answered (.locate tag kind position cueId thenPlay preroll dist speed tol) s 0xC0 tag code body t :=
  answered_of_ready hs rfl rfl rfl rfl h

theorem Mode.takesLocate_iff (m : Mode) : m.takesLocate = true ↔ m ∈ [Mode.hold, .wind, .play, .locate, .chase] := by
  cases m <;> simp [takesLocate]

theorem answerLocate_wrongMode (h : s.planner.mode.takesLocate = false) :
    answerLocate kind position cueId thenPlay preroll dist speed tol s = refuse s .wrongMode := by
  simp [answerLocate, h]

theorem answerLocate_latched (hm : s.planner.mode.takesLocate = true) (hf : s.fault.record ≠ none) :
    answerLocate kind position cueId thenPlay preroll dist speed tol s = refuse s .faultLatched := by
  simp [answerLocate, hm, FaultUnit.latched, Option.isSome_iff_ne_none, hf]

/-- The fields of a LOCATE that its target kind uses, in range (R128, log entry 27). -/
theorem locateFieldsOk_iff (byCue : Bool) :
    locateFieldsOk byCue position cueId thenPlay = true ↔
      thenPlay ≤ 1 ∧ if byCue then 1 ≤ cueId ∧ cueId ≤ 250 else -1000000000 ≤ position ∧ position ≤ 1000000000 := by
  cases byCue <;> simp [locateFieldsOk, flagOk, positionOk_iff]

/-- A LOCATE that passes the first two checks is asked for its target kind, its fields, its target and its aim, in this order. -/
theorem answerLocate_bad (hm : s.planner.mode.takesLocate = true) (hf : s.fault.record = none)
    (h : ∀ byCue, targetByCue kind = some byCue → locateFieldsOk byCue position cueId thenPlay = false) :
    answerLocate kind position cueId thenPlay preroll dist speed tol s = refuse s .badValue := by
  have hlatched : s.fault.latched = false := by simp [FaultUnit.latched, hf]
  cases hk : targetByCue kind with
  | none => simp [answerLocate, hm, hlatched, hk]
  | some byCue => simp [answerLocate, hm, hlatched, hk, h byCue hk]

theorem targetByCue_some {byCue : Bool} (h : targetByCue kind = some byCue) : kind = if byCue then 1 else 0 := by
  unfold targetByCue at h
  split at h <;> cases h <;> rfl

theorem answerLocate_notFound {byCue : Bool} (hm : s.planner.mode.takesLocate = true) (hf : s.fault.record = none)
    (hk : targetByCue kind = some byCue) (hfields : locateFieldsOk byCue position cueId thenPlay = true)
    (h : locateTarget s byCue position cueId = none) :
    answerLocate kind position cueId thenPlay preroll dist speed tol s = refuse s .notFound := by
  simp [answerLocate, hm, FaultUnit.latched, hf, hk, hfields, h]

/-- With its target found, what LOCATE asks is whether the tape may go to the aim (R128). -/
theorem answerLocate_aimed {byCue : Bool} {target aim : Int} {cue : Option Nat} (hm : s.planner.mode.takesLocate = true)
    (hf : s.fault.record = none) (hk : targetByCue kind = some byCue)
    (hfields : locateFieldsOk byCue position cueId thenPlay = true) (htarget : locateTarget s byCue position cueId = some target)
    (haim : aim = if thenPlay = 1 then target - min 800000 preroll else target)
    (hcue : cue = if byCue then some cueId else none) :
    ∃ clamped pre body, answerLocate kind position cueId thenPlay preroll dist speed tol s =
      if (attrsAt s.zones aim).dirs = .none then refuse s .targetForbidden
      else if wayForbidden s aim then refuse s .directionBlocked
      else
        accept (startLocate (locateParams s.params dist speed tol) target cue (thenPlay == 1) pre aim s) clamped body := by
  have hplay : flagSet thenPlay = (thenPlay == 1) := flagSet_eq_beq ((locateFieldsOk_iff byCue).1 hfields).1
  have hpre : clampNat 0 800000 preroll = min 800000 preroll := by simp [clampNat_eq]
  have haim' : (if (thenPlay == 1) = true then target - ((min 800000 preroll : Nat) : Int) else target) = aim := by
    rw [haim]; simp
  subst hcue
  exact ⟨_, min 800000 preroll, _, by
    simp only [answerLocate, hm, FaultUnit.latched, hf, hk, hfields, htarget, hplay, hpre, haim']; rfl⟩

theorem locateTarget_cue {before after : List Cue} {c : Cue} (hlist : s.cues.list = before ++ c :: after)
    (hbefore : ∀ q ∈ before, q.id ≠ cueId) (hc : c.id = cueId) : locateTarget s true position cueId = some c.position := by
  have hnone : before.find? (fun q => q.id == cueId) = none := by simpa [List.find?_eq_none] using hbefore
  simp [locateTarget, hlist, List.find?_append, hnone, hc]

end LocateChecks

section LocateStart

variable (q : LocateParams) (target : Int) (cueId : Option Nat) (thenPlay : Bool) (preroll : Nat) (aim : Int) (s : State)

theorem endChase_lock (cause : ChaseCause) : (endChase cause s).capstan.lock = s.capstan.lock := by
  unfold endChase; split <;> simp

/-- The record with which a host's locate begins (R129). -/
theorem startLocate_locate :
    (startLocate q target cueId thenPlay preroll aim s).locate =
      some
        { owner := .host, target := target, cueId := cueId, thenPlay := thenPlay, preroll := preroll, aim := aim
          dir := if s.tach.position < aim then .forward else .reverse
          phase := startPhase q (mag (aim - s.tach.position)), attempts := 0, settleRun := 0 } := by
  have htach : (if s.planner.mode = .chase then endChase .request s else s).tach = s.tach := by split <;> simp
  simp [startLocate, beginLocate, publishLocate, htach]

/-- What the start of a host's locate leaves of the motion: v_ref as it was and the pinch commanded open (R129). -/
theorem startLocate_motion :
    (startLocate q target cueId thenPlay preroll aim s).planner.mode = .locate ∧
      (startLocate q target cueId thenPlay preroll aim s).planner.vRef = s.planner.vRef ∧
      (startLocate q target cueId thenPlay preroll aim s).planner.pinch.commandedClosed = false ∧
      (startLocate q target cueId thenPlay preroll aim s).lines.pinch = false ∧
      (startLocate q target cueId thenPlay preroll aim s).fault.record = s.fault.record ∧
      (startLocate q target cueId thenPlay preroll aim s).capstan.lock = s.capstan.lock ∧
      (startLocate q target cueId thenPlay preroll aim s).params = q := by
  obtain ⟨points, hunit⟩ := endChase_planner .request s
  unfold startLocate
  split <;> simp [beginLocate, publishLocate, hunit, endChase_lock]

/-- A chase that a host's locate begins in ends (R135). -/
theorem startLocate_chase (hm : s.planner.mode = .chase) :
    (startLocate q target cueId thenPlay preroll aim s).chase.state = .off := by
  simp [startLocate, hm, endChase_off]

theorem startLocate_onlyChanges :
    OnlyChanges [.planner, .cues, .params, .locate, .chase, .capstan, .lines, .fault, .link] s
      (startLocate q target cueId thenPlay preroll aim s) := by
  intro b; cases b <;> simp [sameBlock]

theorem locateParams_eq (q : LocateParams) (dist speed tol : Nat) :
    locateParams q dist speed tol =
      { q with
        approachDist := if dist = 0 then q.approachDist else max 1600 (min 800000 dist)
        approachSpeed := if speed = 0 then q.approachSpeed else max 50 (min 2000 speed)
        tolerance := if tol = 0 then q.tolerance else max 1 (min 800 tol) } := by
  simp [locateParams, paramField_eq]

end LocateStart

/-- Settles O31: LOCATE's checks in their order, then the record it begins with. -/
theorem locateBeginsTowardItsAim : Obligations.LocateBeginsTowardItsAim := by
  intro tag kind cueId thenPlay preroll dist speed tol position s hs
  simp only [← Mode.takesLocate_iff, Bool.not_eq_true]
  refine ⟨fun hm => locate_answered hs (answerLocate_wrongMode (by simpa using hm)),
    fun hm => ⟨fun hf => locate_answered hs (answerLocate_latched (by simpa using hm) (by simpa using hf)),
    fun hf => ⟨fun h => ?bad, fun hk hplay hlow hhigh hnone => ?notFound, fun target aim cue hplay htarget haim => ?aimed⟩⟩⟩
  case bad =>
    refine locate_answered hs (answerLocate_bad (by simpa using hm) (by simpa using hf) fun byCue hk => ?_)
    rw [Bool.eq_false_iff, ne_eq, locateFieldsOk_iff]
    have hkind := targetByCue_some hk
    cases byCue <;> simp at hkind ⊢ <;> omega
  case notFound =>
    subst hk
    refine locate_answered hs (answerLocate_notFound (byCue := true) (by simpa using hm) (by simpa using hf) rfl
      ((locateFieldsOk_iff true).2 ⟨hplay, hlow, hhigh⟩) ?_)
    simpa [locateTarget] using hnone
  case aimed =>
    obtain ⟨byCue, hk, hfields, hfound, hcue⟩ : ∃ byCue, targetByCue kind = some byCue ∧
        locateFieldsOk byCue position cueId thenPlay = true ∧
        locateTarget (restartLinkTimer s) byCue position cueId = some target ∧ cue = if byCue then some cueId else none := by
      rcases htarget with ⟨rfl, hlow, hhigh, rfl, rfl⟩ | ⟨rfl, hlow, hhigh, rfl, before, c, after, hlist, hbefore, hc, rfl⟩
      · exact ⟨false, rfl, (locateFieldsOk_iff false).2 ⟨hplay, hlow, hhigh⟩, rfl, rfl⟩
      · exact ⟨true, rfl, (locateFieldsOk_iff true).2 ⟨hplay, hlow, hhigh⟩,
          locateTarget_cue (by simpa using hlist) hbefore hc, rfl⟩
    obtain ⟨clamped, pre, body, h⟩ := answerLocate_aimed (s := restartLinkTimer s) (preroll := preroll) (dist := dist) (speed := speed)
      (tol := tol) (by simpa using hm) (by simpa using hf) hk hfields hfound haim hcue
    refine ⟨fun hdirs => locate_answered hs (h.trans (if_pos (by simpa using hdirs))), fun hdirs => ?_⟩
    rw [if_neg (by simpa using hdirs)] at h
    refine ⟨fun hway => locate_answered hs (h.trans (if_pos (wayForbidden_iff.2 (by simpa using hway)))), fun hfwd hrev => ?_⟩
    rw [if_neg (fun hway => (wayForbidden_iff.1 hway).elim (by simpa using hfwd) (by simpa using hrev))] at h
    obtain ⟨hmode, hv, hpinch, hline, hrecord, hlock, hparams⟩ :=
      startLocate_motion (locateParams (restartLinkTimer s).params dist speed tol) target cue (thenPlay == 1) pre aim
        (restartLinkTimer s)
    have hq : (restartLinkTimer s).params = s.params := by simp
    refine ⟨_, _, _, _, locate_answered hs h, okOr_cases clamped,
      ((restartLinkTimer_onlyChanges s).mono (by simp)).trans (startLocate_onlyChanges _ _ _ _ _ _ _), hmode, hv.trans
        (by simp), hpinch, hline,
      hrecord.trans (by simpa using hf), fun hchase => startLocate_chase _ _ _ _ _ _ _ (by simpa using hchase),
      hlock.trans (by simp), hparams.trans ?_, startLocate_locate .., rfl, rfl, rfl, rfl, rfl, rfl, rfl, by simp, ?_⟩
    · rw [hq, locateParams_eq]
    · rw [hparams]
      simp [startPhase, locateParams_eq]

end Sys2Proof.Machine

namespace Sys2Proof.Machine

/-! ## One unit step of a locate (R130 to R134) -/

section LocateSteps

variable {s : State} {l : LocateRec}

theorem exec_locateUnitStep (h : s.held = none) : exec .locateUnitStep s = .next (unitStep s) := whileRunning_of_running h

theorem exec_locateSettled (h : s.held = none) : exec .locateSettled s = .next (if settleFalls s then unitStep s else s) :=
  whileRunning_of_running h

/-- With no chase running a unit step is one step of the locate (R130). -/
theorem unitStep_locate (hc : s.chase.state = .off) (hl : s.locate = some l) : unitStep s = stepLocate l s := by
  simp [unitStep, hc, hl]

theorem settleFalls_iff (hl : s.locate = some l) : settleFalls s = true ↔ l.phase = .settle ∧ 40 ≤ settleNext l s := by
  simp [settleFalls, hl]

/-- LOCATE_SETTLED changes nothing where the record is not in SETTLE (log entry 3). -/
theorem settleFalls_elsewhere (h : ∀ l, s.locate = some l → l.phase ≠ .settle) : settleFalls s = false := by
  unfold settleFalls
  cases hl : s.locate with
  | none => rfl
  | some l => simp [h l hl]

/-- A path is barred by a boundary up to its end, into a zone that forbids the direction (R134, R172). -/
theorem pathBarred_iff {z : Zones} {d : Dir} {x y : Int} :
    pathBarred z d x y = true ↔ ∃ b ∈ boundariesAhead z d x, aheadOf d y b = false ∧ (attrsAt z b).dirs.allows d = false := by
  simp [pathBarred, forbiddingAhead, and_comm]

/-- R134: the way to the aim is barred by a boundary up to it. -/
theorem locateBarred_iff :
    locateBarred s l = true ↔ s.tach.position ≠ l.aim ∧
      ∃ b ∈ boundariesAhead s.zones (l.toward s.tach.position) s.tach.position,
        aheadOf (l.toward s.tach.position) l.aim b = false ∧
          (attrsAt s.zones b).dirs.allows (l.toward s.tach.position) = false := by
  rw [LocateRec.toward_eq, locateBarred, dirTo_eq]
  obtain h | h | h := lt_trichotomy s.tach.position l.aim
  · simp [h, h.ne, pathBarred_iff]
  · simp [h]
  · simp [h, h.ne', h.not_gt, pathBarred_iff]

/-- Away from the aim, the tape has passed it exactly where the direction to it is not the approach direction (R131). -/
theorem LocateRec.passed_iff {x : Int} (h : x ≠ l.aim) : l.passed x = true ↔ l.toward x ≠ l.dir := by
  rw [toward_eq, passed]
  obtain hlt | hgt := lt_or_gt_of_ne h
  · cases hd : l.dir <;> simp [aheadOf, hlt, hlt.not_gt]
  · cases hd : l.dir <;> simp [aheadOf, hgt, hgt.not_gt]

/-- A step at v_ref 0 outside SETTLE whose way to the aim is barred (R134). -/
def LocateRec.stuck (l : LocateRec) (s : State) : Prop := l.phase ≠ .settle ∧ s.planner.vRef = 0 ∧ locateBarred s l = true

theorem locateStep_stuck (h : l.stuck s) : locateStep l s = .ends .blocked s := if_pos h

theorem locateStep_advances (hb : ¬l.stuck s) (hp : l.phase = .travel ∨ l.phase = .approach) :
    locateStep l s = .goesOn (publishLocate { l with phase := advancePhase s.params l s.tach.position } s) := by
  refine (if_neg hb).trans ?_
  rcases hp with hp | hp <;> rw [hp]

theorem locateStep_creep (hb : ¬l.stuck s) (hp : l.phase = .creep) : locateStep l s = creepStep l s := by
  refine (if_neg hb).trans ?_
  rw [hp]

theorem locateStep_settle (hp : l.phase = .settle) : locateStep l s = settleStep l s := by
  refine (if_neg fun h => h.1 hp).trans ?_
  rw [hp]

theorem creepStep_arrives (h : l.distance s.tach.position ≤ s.params.tolerance) :
    creepStep l s = .goesOn (publishLocate { l with phase := .settle, settleRun := 0 } s) := if_pos h

/-- A tape farther off than the tolerance is not at the aim. -/
theorem LocateRec.ne_aim {x : Int} {n : Nat} (h : n < l.distance x) : x ≠ l.aim := by
  rintro rfl; simp [distance, mag] at h

theorem creepStep_goesOn (h : s.params.tolerance < l.distance s.tach.position) (hd : l.toward s.tach.position = l.dir) :
    creepStep l s = .goesOn (publishLocate l s) := by
  have hpassed : ¬l.passed s.tach.position = true := fun hp => (LocateRec.passed_iff (LocateRec.ne_aim h)).1 hp hd
  simp [creepStep, h.not_ge, hpassed]

theorem settleStep_counts (h : settleNext l s < 40) :
    settleStep l s = .goesOn (publishLocate { l with settleRun := settleNext l s } s) := if_neg h.not_ge

theorem settleStep_done (h : 40 ≤ settleNext l s) (hd : l.distance s.tach.position ≤ s.params.tolerance) :
    settleStep l s = .ends .done (publishLocate { l with settleRun := settleNext l s } s) := by
  simp [settleStep, h, hd]

/-- A step that passes the aim in CREEP, or settles off it, re-approaches (R131 to R133). -/
def LocateRec.reapproaches (l : LocateRec) (s : State) : Prop :=
  s.params.tolerance < l.distance s.tach.position ∧
    ((l.phase = .creep ∧ ¬l.stuck s ∧ l.toward s.tach.position ≠ l.dir) ∨ (l.phase = .settle ∧ 40 ≤ settleNext l s))

/-- The record as a re-approach finds it: in SETTLE with the run of the step. -/
def LocateRec.counted (l : LocateRec) (s : State) : LocateRec :=
  { l with settleRun := if l.phase = .settle then settleNext l s else l.settleRun }

theorem locateStep_reapproaches (h : l.reapproaches s) : locateStep l s = reapproach (l.counted s) s := by
  obtain ⟨hfar, ⟨hp, hb, hd⟩ | ⟨hp, hrun⟩⟩ := h
  · rw [locateStep_creep hb hp, LocateRec.counted, if_neg (by simp [hp])]
    simp [creepStep, hfar.not_ge, (LocateRec.passed_iff (LocateRec.ne_aim hfar)).2 hd]
  · rw [locateStep_settle hp, LocateRec.counted, if_pos hp]
    simp [settleStep, hrun, hfar.not_ge]

theorem reapproach_missed (h : 3 ≤ l.attempts) : reapproach l s = .ends .missed s := if_pos h

theorem reapproach_blocked (h : l.attempts < 3) (hf : forbidden s (l.toward s.tach.position) = true) :
    reapproach l s = .ends .blocked s := by
  simp [reapproach, h.not_ge, hf]

theorem reapproach_goesOn (h : l.attempts < 3) (hf : forbidden s (l.toward s.tach.position) = false) :
    reapproach l s = .goesOn (publishLocate
      { l with attempts := l.attempts + 1, dir := l.toward s.tach.position, phase := .creep }
      (monitorEvent .locateApproaches .whole s)) := by
  simp [reapproach, h.not_ge, hf]

/-- Where a step neither is barred, nor settles within the tolerance, nor ends a re-approach,
  the locate goes on with its owner and aim. -/
theorem locateStep_goesOn (hb : ¬l.stuck s) (hr : l.reapproaches s → l.attempts < 3 ∧ forbidden s (l.toward s.tach.position) = false)
    (hd : ¬(l.phase = .settle ∧ 40 ≤ settleNext l s ∧ l.distance s.tach.position ≤ s.params.tolerance)) :
    ∃ r u, locateStep l s = .goesOn (publishLocate r u) ∧ r.owner = l.owner ∧ r.aim = l.aim ∧
      (u = s ∨ u = monitorEvent .locateApproaches .whole s) := by
  by_cases hagain : l.reapproaches s
  · obtain ⟨hattempts, hallowed⟩ := hr hagain
    exact ⟨_, _, (locateStep_reapproaches hagain).trans (reapproach_goesOn hattempts hallowed), rfl, rfl, .inr rfl⟩
  · cases hp : l.phase with
    | travel => exact ⟨_, _, locateStep_advances hb (.inl hp), rfl, rfl, .inl rfl⟩
    | approach => exact ⟨_, _, locateStep_advances hb (.inr hp), rfl, rfl, .inl rfl⟩
    | creep =>
      obtain hnear | hfar := le_or_gt (l.distance s.tach.position) s.params.tolerance
      · exact ⟨_, _, (locateStep_creep hb hp).trans (creepStep_arrives hnear), rfl, rfl, .inl rfl⟩
      · have htoward : l.toward s.tach.position = l.dir := not_not.1 fun h => hagain ⟨hfar, .inl ⟨hp, hb, h⟩⟩
        exact ⟨_, _, (locateStep_creep hb hp).trans (creepStep_goesOn hfar htoward), rfl, rfl, .inl rfl⟩
    | settle =>
      obtain hrun | hrun := lt_or_ge (settleNext l s) 40
      · exact ⟨_, _, (locateStep_settle hp).trans (settleStep_counts hrun), rfl, rfl, .inl rfl⟩
      · obtain hnear | hfar := le_or_gt (l.distance s.tach.position) s.params.tolerance
        · exact absurd ⟨hp, hrun, hnear⟩ hd
        · exact absurd ⟨hfar, .inr ⟨hp, hrun⟩⟩ hagain

theorem stepLocate_goesOn {u : State} (h : locateStep l s = .goesOn u) : stepLocate l s = u := by simp [stepLocate, h]

theorem stepLocate_ends {u : State} {outcome : LocateOutcome} (h : locateStep l s = .ends outcome u) :
    stepLocate l s = locateEnds l.owner outcome u := by simp [stepLocate, h]

theorem publishLocate_planner (r : LocateRec) (s : State) :
    (publishLocate r s).planner = { s.planner with goal := locateGoal s r, unitPoints := locatePoints s r } := rfl

@[simp] theorem publishLocate_locate (r : LocateRec) (s : State) : (publishLocate r s).locate = some r := rfl

theorem publishLocate_onlyChanges (r : LocateRec) (s : State) : OnlyChanges [.planner, .locate] s (publishLocate r s) := by
  intro b; cases b <;> simp [sameBlock]

/-- The goal of a phase reads no counter of the monitor. -/
theorem locateGoal_monitorEvent (ev : MonEvent) (source : EventSource) (r : LocateRec) (s : State) :
    locateGoal (monitorEvent ev source s) r = locateGoal s r := by
  simp [locateGoal, creepGoal, vMaxEff, aDecEff]

end LocateSteps

/-! ## The endings of a host's locate (R132 to R134, R136) -/

section HostEnds

variable {s u : State} {l : LocateRec} {c : Instr} {outcome : LocateOutcome}

/-- A locate that ends hands LOCATE_DONE over and leaves no record (R136). -/
theorem finishLocate_some (playStarted : Bool) (hl : s.locate = some l) :
    (finishLocate outcome playStarted s).locate = none ∧
      (finishLocate outcome playStarted s).link =
        txTake (enqueueNotice
          (.locateDone outcome l.target l.aim s.tach.position (s.tach.position - l.aim) l.attempts playStarted) s.link) := by
  simp [finishLocate, hl]

theorem finishLocate_none (playStarted : Bool) (hl : s.locate = none) : finishLocate outcome playStarted s = s := by
  simp [finishLocate, hl]

/-- A locate that ends in HOLD: at rest, or settled. -/
theorem locateEnds_hold (he : exec c s = .next (enterHold .locate (finishLocate outcome false u)))
    (hu : OnlyChanges [.planner, .locate] s u) (hl : u.locate = some l)
    (hv : u.planner.vRef = s.planner.vRef) (hm : u.planner.mode = .locate) (hrest : s.planner.vRef = 0 ∨ outcome = .done) :
    LocateEnds c s l outcome := by
  have htach : u.tach = s.tach := (hu .tach).resolve_left (by decide)
  have hzones : u.zones = s.zones := (hu .zones).resolve_left (by decide)
  have hcues : u.cues = s.cues := (hu .cues).resolve_left (by decide)
  have hlink : u.link = s.link := (hu .link).resolve_left (by decide)
  have hfault : u.fault = s.fault := (hu .fault).resolve_left (by decide)
  obtain ⟨hnone, hdone⟩ := finishLocate_some (outcome := outcome) false hl
  have hne : (finishLocate outcome false u).planner.mode ≠ .hold := by simp [hm]
  have hplanner := enterHold_planner_eq .locate hne
  refine ⟨_, he, ?_, by simpa using hnone, by simp [hplanner], by simp [hplanner, hv], by simp [hplanner],
    by simp [hfault], fun _ => by simp [hplanner, hzones, hcues], fun h0 hd => absurd hrest (by simp [h0, hd]), ?_⟩
  · refine (hu.mono (by simp)).trans ?_
    intro b; cases b <;> simp [sameBlock]
  · rw [enterHold_link _ hne, hdone, hplanner]
    simp [hm, htach, hlink, Link.posted_one]

/-- A locate that ends unsettled with the tape in motion begins a CONTROLLED stop (R132). -/
theorem locateEnds_stop (he : exec c s = .next (restOrStop .locate (finishLocate outcome false s))) (hl : s.locate = some l)
    (hm : s.planner.mode = .locate) (hn : s.planner.stopInForce = none) (hv : s.planner.vRef ≠ 0) (ho : outcome ≠ .done) :
    LocateEnds c s l outcome := by
  obtain ⟨hnone, hdone⟩ := finishLocate_some (outcome := outcome) false hl
  have hstop : restOrStop .locate (finishLocate outcome false s) =
      beginStopping .controlled .locate (finishLocate outcome false s) := by
    rw [restOrStop, if_neg (by simpa using hv),
      stopDemand_begins (sev := .controlled) .locate (by simp [hm, Mode.startsStop]) (by simpa using hn) nofun, endUnit]
    simp [hm, finishLocate_none _ hnone]
  have hne : (finishLocate outcome false s).planner.mode ≠ .stopping := by simp [hm]
  have hplanner := beginStopping_planner_eq .controlled .locate hne
  obtain ⟨hzones, hcues⟩ := beginStopping_pending (s := finishLocate outcome false s) .controlled (cause := .locate) nofun nofun
  refine ⟨_, he.trans (congrArg _ hstop), ?_, by simpa using hnone, by simp [hplanner], by simp [hplanner], by simp [hplanner],
    by simp, fun h => absurd h (by simp [hv, ho]), fun _ _ => ⟨by simp [hplanner], by simp [hplanner], by simp [hplanner], ?_, ?_⟩, ?_⟩
  · intro b; cases b <;> simp [sameBlock]
  · simpa using hzones
  · simpa using hcues
  · rw [beginStopping_link _ _ hne, hdone, hplanner]
    simp [hm, modeCauseOf, Link.posted_one]

/-- Every ending of a host's locate but DONE. -/
theorem locateEnds_unsettled (he : exec c s = .next (hostLocateEnds outcome s)) (hl : s.locate = some l)
    (hm : s.planner.mode = .locate) (hn : s.planner.stopInForce = none) (ho : outcome ≠ .done) : LocateEnds c s l outcome := by
  have hends : hostLocateEnds outcome s = restOrStop .locate (finishLocate outcome false s) := by
    cases outcome <;> simp_all [hostLocateEnds]
  rw [hends] at he
  by_cases hv : s.planner.vRef = 0
  · refine locateEnds_hold (he.trans ?_) (OnlyChanges.refl _ s) hl rfl hm (.inl hv)
    simp [restOrStop, hv, modeCauseOf]
  · exact locateEnds_stop he hl hm hn hv ho

/-- What PLAY's entry leaves of the zones, the capstan and the cues (R93, R124). -/
theorem enterEngaging_blocks (cause : ModeCause) (s : State) :
    (enterEngaging cause s).zones = { s.zones with pendingBlock := none } ∧
      (s.capstan.lock ≠ .off → (enterEngaging cause s).capstan = s.capstan) ∧
      (∀ i, i ∈ (enterEngaging cause s).planner.missed ↔
        ∃ c ∈ s.cues.list, c.id = i ∧ c.kind = .autoStop ∧ mag (c.position - s.tach.position) ≤ 8) ∧
      (enterEngaging cause s).cues.list.map (·.id) = s.cues.list.map (·.id) := by
  refine ⟨by simp [enterEngaging], fun h => by simp [enterEngaging, startCapstan, h], fun i => ?_, ?_⟩
  · simp [enterEngaging, startMotion, clearMarks]
    grind
  · simp only [enterEngaging, setMode_frame, State.onPlanner_cues]
    simp [startMotion, clearMarks]
    grind

theorem enterEngaging_link (cause : ModeCause) (hm : s.planner.mode ≠ .play) (hm' : s.planner.mode ≠ .engaging) :
    (enterEngaging cause s).link =
      txTake (enqueueNotice (.mode (enterEngaging cause s).planner.mode none s.planner.mode none cause) s.link) := by
  rw [(enterEngaging_planner cause s).1, enterEngaging]
  refine (setMode_posts ?_).trans ?_
  · rintro ⟨h, -⟩
    split at h
    · exact hm h
    · exact hm' h
  · simp [abandonStop]

end HostEnds

end Sys2Proof.Machine

namespace Sys2Proof.Machine

/-! ## A host's locate, one unit step after another (O35) -/

section HostSteps

variable {s u : State} {l r : LocateRec} {c : Instr}

/-- R131: the goal of CREEP, its quotient that of numbers not below 0. -/
theorem creepGoal_eq (s : State) (l : LocateRec) :
    creepGoal s l = signedBy (l.toward s.tach.position)
      (min 50 (isqrt (aDecEff s (l.toward s.tach.position) * l.distance s.tach.position / 40).toNat) : Nat) := by
  simp [creepGoal, divFloor, LocateRec.distance]

/-- A record turned to the aim moves on in the direction it is turned to (R132). -/
theorem LocateRec.toward_turned {x : Int} (ha : r.aim = l.aim) (hd : r.dir = l.toward x) : r.toward x = l.toward x := by
  rw [toward, ha, hd, toward]
  cases dirTo x l.aim <;> rfl

theorem locateGoal_turned (hp : r.phase = .creep) (ha : r.aim = l.aim) (hd : r.dir = l.toward s.tach.position) :
    locateGoal s r = signedBy (l.toward s.tach.position)
      (min 50 (isqrt (aDecEff s (l.toward s.tach.position) * l.distance s.tach.position / 40).toNat) : Nat) := by
  rw [locateGoal, hp, creepGoal_eq, LocateRec.toward_turned ha hd, LocateRec.distance, ha, LocateRec.distance]

@[simp] theorem publishLocate_forbidden (r : LocateRec) (s : State) (d : Dir) :
    forbidden (publishLocate r s) d = forbidden s d := rfl

/-- The planner of a re-approach, which an event of the monitor leaves alone. -/
theorem publishLocate_turned (ev : MonEvent) (hp : r.phase = .creep) (ha : r.aim = l.aim) (hd : r.dir = l.toward s.tach.position) :
    (publishLocate r (monitorEvent ev .whole s)).planner =
      { s.planner with
        goal := signedBy (l.toward s.tach.position)
          (min 50 (isqrt (aDecEff s (l.toward s.tach.position) * l.distance s.tach.position / 40).toNat) : Nat)
        unitPoints := [] } := by
  rw [publishLocate_planner, locateGoal_monitorEvent, locateGoal_turned hp ha hd, locatePoints, hp]
  simp

/-- Table 7-3: a record of the same aim and directions publishes the goal and the drop point of its phase. -/
theorem publishLocate_eq {goal : LocatePhase → Int} {points : LocatePhase → List DropPoint} {d : Dir}
    (hd : l.toward s.tach.position = d)
    (hgoal : goal .travel = signedBy d (vMaxEff s) ∧ goal .approach = signedBy d s.params.approachSpeed ∧
      goal .creep = signedBy d (min 50 (isqrt (aDecEff s d * l.distance s.tach.position / 40).toNat) : Nat) ∧ goal .settle = 0)
    (hpoints : points .travel =
        [{ pos := l.aim - signedBy l.dir s.params.approachDist, limit := s.params.approachSpeed, guard := 0 }] ∧
      points .approach = [{ pos := l.aim - signedBy l.dir 1600, limit := 50, guard := 0 }] ∧ points .creep = [] ∧
      points .settle = []) :
    publishLocate l s =
      (s.onLocate fun _ => some l).onPlanner fun p => { p with goal := goal l.phase, unitPoints := points l.phase } := by
  obtain ⟨htravel, happroach, hcreep, hsettle⟩ := hgoal
  obtain ⟨ptravel, papproach, pcreep, psettle⟩ := hpoints
  have hg : locateGoal s l = goal l.phase := by
    unfold locateGoal
    split <;> simp [*, creepGoal_eq]
  have hp : locatePoints s l = points l.phase := by
    unfold locatePoints
    split <;> simp [*]
  rw [publishLocate, hg, hp]

theorem advancePhase_eq (hp : l.phase = .travel ∨ l.phase = .approach) (x : Int) :
    advancePhase s.params l x =
      if l.distance x ≤ 1600 then .creep else if l.distance x ≤ s.params.approachDist then .approach else l.phase := by
  rcases hp with hp | hp <;> simp [advancePhase, hp]

/-- A locate that ends DONE makes HOLD where no play follows, or where forward is forbidden (R133). -/
theorem hostLocateEnds_hold (hl : s.locate = some l) (h : l.thenPlay = false ∨ forbidden s .forward = true) :
    hostLocateEnds .done s = enterHold .locate (finishLocate .done false s) := by
  rcases h with h | h <;> simp [hostLocateEnds, hl, h]

theorem hostLocateEnds_play (hl : s.locate = some l) (hplay : l.thenPlay = true) (hfwd : forbidden s .forward = false) :
    hostLocateEnds .done s = enterEngaging .locate (finishLocate .done true s) := by
  simp [hostLocateEnds, hl, hplay, hfwd]

theorem enterEngaging_onlyChanges (cause : ModeCause) (s : State) :
    OnlyChanges [.planner, .zones, .cues, .capstan, .lines, .fault, .link] s (enterEngaging cause s) := by
  intro b; cases b <;> simp [sameBlock]

theorem finishLocate_onlyChanges (outcome : LocateOutcome) (playStarted : Bool) (s : State) :
    OnlyChanges [.locate, .link] s (finishLocate outcome playStarted s) := by
  intro b; cases b <;> simp [sameBlock]

/-- A locate that ends DONE with a play engages as from HOLD, its LOCATE_DONE before the MODE notice (R133). -/
theorem engagesAfterLocate {goal : Int} {points : List DropPoint}
    (he : exec c s = .next (enterEngaging .locate (finishLocate .done true u)))
    (hu : OnlyChanges [.planner, .locate] s u) (hl : u.locate = some l)
    (hp : u.planner = { s.planner with goal := goal, unitPoints := points }) (hm : s.planner.mode = .locate) :
    ∃ t, exec c s = .next t ∧
      OnlyChanges [.planner, .zones, .cues, .locate, .capstan, .lines, .fault, .link] s t ∧ t.locate = none ∧
      t.planner.mode = (if s.planner.pinch = .closed then .play else .engaging) ∧
      t.planner.goal = mmPerS t.capstan.vPlay ∧ t.planner.pinch = s.planner.pinch ∧ t.lines.pinch = s.lines.pinch ∧
      t.planner.matchRun = 0 ∧ t.planner.matchTimer = none ∧ t.planner.vRef = s.planner.vRef ∧
      t.capstan.lock = (if s.capstan.lock = .off then .spinup else s.capstan.lock) ∧
      (s.capstan.lock ≠ .off → t.capstan = s.capstan) ∧ t.zones = { s.zones with pendingBlock := none } ∧
      (∀ i, i ∈ t.planner.missed ↔
        ∃ c ∈ s.cues.list, c.id = i ∧ c.kind = .autoStop ∧ mag (c.position - s.tach.position) ≤ 8) ∧
      t.cues.list.map (·.id) = s.cues.list.map (·.id) ∧ t.fault.record = s.fault.record ∧
      t.link = txTake (enqueueNotice (.mode t.planner.mode none .locate none .locate) (txTake (enqueueNotice
        (.locateDone .done l.target l.aim s.tach.position (s.tach.position - l.aim) l.attempts true) s.link))) := by
  have htach : u.tach = s.tach := (hu .tach).resolve_left (by decide)
  have hzones : u.zones = s.zones := (hu .zones).resolve_left (by decide)
  have hcues : u.cues = s.cues := (hu .cues).resolve_left (by decide)
  have hcapstan : u.capstan = s.capstan := (hu .capstan).resolve_left (by decide)
  have hlines : u.lines = s.lines := (hu .lines).resolve_left (by decide)
  have hlink : u.link = s.link := (hu .link).resolve_left (by decide)
  have hfault : u.fault = s.fault := (hu .fault).resolve_left (by decide)
  obtain ⟨hnone, hdone⟩ := finishLocate_some (outcome := .done) true hl
  obtain ⟨hmode, hpinch, hline, hgoal, -, hrun, htimer, hv, hrecord⟩ := enterEngaging_planner .locate (finishLocate .done true u)
  obtain ⟨bzones, bcapstan, bmissed, bcues⟩ := enterEngaging_blocks .locate (finishLocate .done true u)
  have block := enterEngaging_link (s := finishLocate .done true u) .locate (by simp [hp, hm]) (by simp [hp, hm])
  have only := ((hu.append (finishLocate_onlyChanges .done true u)).append (enterEngaging_onlyChanges .locate _)).mono
    (m := [.planner, .zones, .cues, .locate, .capstan, .lines, .fault, .link]) (by simp)
  simp only [finishLocate_frame, htach, hzones, hcues, hcapstan, hlines, hfault,
    hp] at hmode hpinch hline hv hrecord bzones bcapstan bmissed bcues
  refine ⟨_, he, only, by simpa using hnone, hmode, hgoal, hpinch, hline, hrun, htimer, hv, ?_, bcapstan, bzones, bmissed,
    bcues, hrecord, ?_⟩
  · rw [enterEngaging_lock]
    simp [hcapstan]
  · rw [block, hdone]
    simp [hp, hm, htach, hlink]

/-- One occurrence of an event of the whole transport, in a step that then publishes a locate. -/
theorem publishLocate_counts (ev : MonEvent) (r : LocateRec) (s : State) :
    CountsOnce ev s (publishLocate r (monitorEvent ev .whole s)) :=
  (monitorEvent_counts ev .whole s).of_monitor rfl rfl

end HostSteps

/-- Settles O35: the phases of a host's locate, its re-approaches and its endings, one clause after another. -/
theorem locateSettlesIntoHold : Obligations.LocateSettlesIntoHold := by
  refine ⟨fun s hh hno => by rw [exec_locateSettled hh, settleFalls_elsewhere hno]; rfl, ?_⟩
  intro l s x dist run d barred goal points publish hh hoff hl howner hm hn hx hdist hd hrun hbarred hgoal hpoints hpublish
  have hd : l.toward s.tach.position = d := by rw [hd, hx]; exact l.toward_eq _
  obtain rfl : l.distance s.tach.position = dist := by rw [hdist, hx]; rfl
  obtain rfl : settleNext l s = run := hrun.symm
  have hstuck : l.stuck s ↔ l.phase ≠ .settle ∧ barred := by
    rw [LocateRec.stuck, hbarred, locateBarred_iff, hd, hx]
  have hexec : exec .locateUnitStep s = .next (stepLocate l s) := (exec_locateUnitStep hh).trans (congrArg _ (unitStep_locate hoff hl))
  have hgoesOn {u : State} (h : locateStep l s = .goesOn u) : exec .locateUnitStep s = .next u :=
    hexec.trans (congrArg _ (stepLocate_goesOn h))
  have hends {outcome : LocateOutcome} {u : State} (h : locateStep l s = .ends outcome u) :
      exec .locateUnitStep s = .next (hostLocateEnds outcome u) := by
    rw [hexec, stepLocate_ends h, howner]; rfl
  have hunsettled {outcome : LocateOutcome} (h : locateStep l s = .ends outcome s) (ho : outcome ≠ .done) :
      LocateEnds .locateUnitStep s l outcome := locateEnds_unsettled (hends h) hl hm hn ho
  have hpub (phase : LocatePhase) (settleRun : Nat) :
      publishLocate { l with phase := phase, settleRun := settleRun } s = publish { l with phase := phase, settleRun := settleRun } :=
    (publishLocate_eq (l := { l with phase := phase, settleRun := settleRun }) hd hgoal hpoints).trans (hpublish _).symm
  refine ⟨fun hp hb => hunsettled (locateStep_stuck (hstuck.2 ⟨hp, hb⟩)) nofun, fun hb => ?free, fun hp hfew => ?counts,
    fun hp hrun => ?settled, fun hfar hagain => ?reapproaches, fun hp hrun hnear => ?done⟩
  case free =>
    have hb : ¬l.stuck s := fun h => hb (hstuck.1 h).2
    refine ⟨fun hp => ?_, fun hp hnear => ?_, fun hp hfar htoward => ?_⟩
    · rw [hgoesOn (locateStep_advances hb hp), advancePhase_eq hp]
      exact congrArg _ (hpub _ l.settleRun)
    · rw [hgoesOn ((locateStep_creep hb hp).trans (creepStep_arrives hnear)), hpub]
    · rw [hgoesOn ((locateStep_creep hb hp).trans (creepStep_goesOn hfar (hd.trans htoward)))]
      exact congrArg _ (hpub l.phase l.settleRun)
  case counts =>
    refine ⟨?_, (hgoesOn ((locateStep_settle hp).trans (settleStep_counts hfew))).trans (congrArg _ (hpub l.phase _))⟩
    rw [exec_locateSettled hh, if_neg (fun h => hfew.not_ge ((settleFalls_iff hl).1 h).2)]
  case settled => rw [exec_locateSettled hh, if_pos ((settleFalls_iff hl).2 ⟨hp, hrun⟩), exec_locateUnitStep hh]
  case reapproaches =>
    have hagain : l.reapproaches s := by
      refine ⟨hfar, hagain.imp_left fun ⟨hp, hb, hne⟩ => ⟨hp, fun h => hb (hstuck.1 h).2, by rwa [hd]⟩⟩
    have hstep := locateStep_reapproaches hagain
    have hd' : (l.counted s).toward s.tach.position = d := hd
    refine ⟨fun h => hunsettled (hstep.trans (reapproach_missed h)) nofun, fun h hf =>
      hunsettled (hstep.trans (reapproach_blocked h (by rwa [hd']))) nofun, fun h hf => ?_⟩
    refine ⟨_, hgoesOn (hstep.trans (reapproach_goesOn h (by rwa [hd']))),
      ((monitorEvent_onlyChanges _ _ s).mono (by simp)).trans ((publishLocate_onlyChanges _ _).mono (by simp)), ?_, ?_, ?_⟩
    · rw [publishLocate_locate, hd']; rfl
    · rw [hgoal.2.2.1, ← hd]
      exact publishLocate_turned .locateApproaches rfl rfl rfl
    · exact publishLocate_counts _ _ s
  case done =>
    have hdone := hends ((locateStep_settle hp).trans (settleStep_done hrun hnear))
    refine ⟨fun h => ?_, fun hplay hfwd => ?_⟩
    · rw [hostLocateEnds_hold (l := { l with settleRun := settleNext l s }) (publishLocate_locate _ s) (by simpa using h)] at hdone
      exact locateEnds_hold (l := { l with settleRun := settleNext l s }) hdone (publishLocate_onlyChanges _ s)
        (publishLocate_locate _ s) rfl hm (.inr rfl)
    · rw [hostLocateEnds_play (l := { l with settleRun := settleNext l s }) (publishLocate_locate _ s) hplay
        (by simpa using hfwd)] at hdone
      subst hx
      exact engagesAfterLocate (l := { l with settleRun := settleNext l s }) hdone (publishLocate_onlyChanges _ s)
        (publishLocate_locate _ s) (publishLocate_planner _ s) hm

end Sys2Proof.Machine

namespace Sys2Proof.Machine

/-! ## How a survey ends itself (R176) -/

section StepTables

variable {by_ : EndedBy} {done before after : List StepEntry} {e : StepEntry}

theorem closeStep_snoc (by_ : EndedBy) (done : List StepEntry) (e : StepEntry) :
    closeStep by_ (done ++ [e]) = done ++ [if e.endedBy = none then { e with endedBy := some by_ } else e] := by
  induction done with
  | nil => rfl
  | cons d rest ih =>
    cases rest with
    | nil => rfl
    | cons d' rest => simpa [closeStep] using ih

theorem closeStep_of_closed (h : StepClosed by_ before after) : closeStep by_ before = after := by
  rcases h with ⟨rfl, rfl⟩ | ⟨done, e, rfl, he, rfl⟩
  · rfl
  · rw [closeStep_snoc, if_pos he]

/-- A step that has ended by its own stays as it is recorded. -/
theorem closeStep_ended (h : e.endedBy ≠ none) : closeStep by_ (done ++ [e]) = done ++ [e] := by
  rw [closeStep_snoc, if_neg h]

end StepTables

section Endings

variable {s u : State} {outcome : SurveyOutcome} {reason : Option AbortReason} {by_ : EndedBy} {table : List StepEntry}

/-- A survey that does not run has nothing to end. -/
theorem endSurvey_over (h : surveyRuns s.survey = false) : endSurvey outcome reason by_ s = s :=
  if_neg (by rw [h]; decide)

theorem endUnit_over (cause : StopCause) (h : surveyRuns s.survey = false) :
    (endUnit cause s).survey = s.survey ∧ (endUnit cause s).monitor = s.monitor := by
  by_cases hm : s.planner.mode = .survey
  · have hunit : endUnit cause s = s := by cases cause <;> simp [endUnit, hm, endSurveyBy, endSurvey_over h]
    rw [hunit]; exact ⟨rfl, rfl⟩
  · exact endUnit_survey_of_ne cause hm

theorem restOrStop_over (cause : StopCause) (h : surveyRuns s.survey = false) :
    (restOrStop cause s).survey = s.survey ∧ (restOrStop cause s).monitor = s.monitor := by
  obtain ⟨hsurvey, hmonitor⟩ := endUnit_over cause h
  rcases restOrStop_cases cause s with ⟨-, hrest⟩ | ⟨-, hstop⟩
  · rw [hrest]; simp
  · rw [hstop]
    rcases stopDemand_cases .controlled cause s with ⟨h, -⟩ | ⟨-, h⟩ | ⟨hsev, -⟩ | ⟨hsev, -⟩ | ⟨-, -, h⟩ | ⟨-, -, h⟩
    · rw [h]; exact ⟨rfl, rfl⟩
    · rw [h]; simp
    · cases hsev
    · cases hsev
    · rw [h]; simp [hsurvey, hmonitor]
    · rw [h]; simp

/-- The record of a survey at its end (R176). -/
def Survey.closed (outcome : SurveyOutcome) (reason : Option AbortReason) (by_ : EndedBy) (x : Survey) : Survey :=
  { x with
    table := closeStep by_ x.table, floor := surveyFloor (closeStep by_ x.table), stepTension := none, state := .ended, phase := none
    outcome := some outcome, reason := reason }

/-- The monitor with counters 2 and 3 released (R176). -/
def Monitor.released (m : Monitor) : Monitor := { m with counters := { m.counters with c2 := m.counters.c2.release, c3 :=
    m.counters.c3.release } }

theorem endSurvey_runs (h : surveyRuns s.survey = true) :
    (endSurvey outcome reason by_ s).survey = s.survey.closed outcome reason by_ ∧
      (endSurvey outcome reason by_ s).monitor = s.monitor.released ∧
      (endSurvey outcome reason by_ s).locate = s.locate.filter (fun l => l.owner ≠ .survey) ∧
      (endSurvey outcome reason by_ s).planner = { s.planner with unitPoints := [] } ∧
      (endSurvey outcome reason by_ s).link = s.link.posted
        [.surveyDone (some outcome) reason (closeStep by_ s.survey.table).length (surveyFloor (closeStep by_ s.survey.table))
          s.tach.position] := by
  have howner (o : LocateOwner) : (o != .survey) = !decide (o = .survey) := by cases o <;> rfl
  rw [endSurvey, if_pos h]
  simp [Survey.closed, Monitor.released, dropLocateOf, howner, Link.posted_one]

theorem closed_over (x : Survey) : surveyRuns (x.closed outcome reason by_) = false := rfl

/-- Whatever the mode, a running survey's own ending leaves its record closed and its counters released. -/
theorem surveyOwnEnd_record (h : surveyRuns s.survey = true) :
    (surveyOwnEnd outcome reason by_ s).survey = s.survey.closed outcome reason by_ ∧
      (surveyOwnEnd outcome reason by_ s).monitor = s.monitor.released := by
  obtain ⟨hsurvey, hmonitor, -⟩ := endSurvey_runs (outcome := outcome) (reason := reason) (by_ := by_) h
  obtain ⟨hrest, hkept⟩ := restOrStop_over .survey (s := endSurvey outcome reason by_ s) (by rw [hsurvey]; rfl)
  exact ⟨hrest.trans hsurvey, hkept.trans hmonitor⟩

end Endings

/-- The end of a unit's own operation, once the unit has ended and while its mode stands: HOLD at rest, and otherwise a CONTROLLED
stop with the cause of the unit. -/
theorem restOrStop_ended {s : State} {cause : StopCause} (hm : s.planner.mode.startsStop = true) (hhold : s.planner.mode ≠ .hold)
    (hstop : s.planner.mode ≠ .stopping) (hn : s.planner.stopInForce = none) (hunit : endUnit cause s = s) :
    OnlyChanges [.planner, .zones, .cues, .lines, .fault, .link] s (restOrStop cause s) ∧
      (restOrStop cause s).planner.mode = (if s.planner.vRef = 0 then .hold else .stopping) ∧
      (restOrStop cause s).planner.stopInForce = (if s.planner.vRef = 0 then none else some .controlled) ∧
      (s.planner.vRef ≠ 0 → (restOrStop cause s).planner.stopCause = some cause) ∧ (restOrStop cause s).planner.goal = 0 ∧
      (restOrStop cause s).planner.vRef = s.planner.vRef ∧ (restOrStop cause s).planner.pinch.commandedClosed = false ∧
      (restOrStop cause s).link = s.link.posted [.mode (restOrStop cause s).planner.mode none s.planner.mode
        (restOrStop cause s).planner.stopInForce (modeCauseOf cause)] := by
  by_cases hv : s.planner.vRef = 0
  · have hrest : restOrStop cause s = enterHold (modeCauseOf cause) s := if_pos hv
    have hplanner := enterHold_planner_eq (modeCauseOf cause) hhold
    rw [hrest, enterHold_link _ hhold, hplanner]
    refine ⟨?_, by simp [hv], by simp [hv], fun h => absurd hv h, rfl, rfl, by simp, rfl⟩
    intro b; cases b <;> simp [sameBlock]
  · have hbegins : restOrStop cause s = beginStopping .controlled cause s := by
      rw [restOrStop, if_neg hv, stopDemand_begins (sev := .controlled) cause hm hn nofun, hunit]
    have hplanner := beginStopping_planner_eq .controlled cause hstop
    rw [hbegins, beginStopping_link _ _ hstop, hplanner]
    exact ⟨beginStopping_onlyChanges .controlled cause, by simp [hv], by simp [hv], fun _ => rfl, rfl, rfl, by simp, rfl⟩

section OwnEnd

variable {s u : State} {also : List Block} {first : List Notice} {outcome : SurveyOutcome} {reason : Option AbortReason} {by_ : EndedBy}
  {table : List StepEntry}

/-- What a command that leads from s to the end of a survey has done before it, at u: the blocks given, and the notices given. -/
def LeadsToEnd (also : List Block) (first : List Notice) (s u : State) : Prop :=
  u.survey.request = s.survey.request ∧ u.survey.k = s.survey.k ∧
    (s.planner.mode = .survey →
      OnlyChanges (also ++ [.cues, .locate, .monitor, .survey, .link]) s u ∧ u.planner = s.planner ∧ u.fault = s.fault ∧
        u.locate.filter (fun l => l.owner ≠ .survey) = s.locate.filter (fun l => l.owner ≠ .survey) ∧
        (u.monitor.frozen = s.monitor.frozen → u.link = s.link.posted first))

theorem Link.posted_append (l : Link) (ns ms : List Notice) : l.posted (ns ++ ms) = (l.posted ns).posted ms :=
  List.foldl_append ..

theorem OnlyChanges.widen {l l' m : List Block} {s t : State} (h : OnlyChanges (m ++ l) s t) (hsub : ∀ b ∈ l, b ∈ l') :
    OnlyChanges (m ++ l') s t :=
  h.mono fun _ hb => (List.mem_append.1 hb).elim (List.mem_append_left _) fun hb => List.mem_append_right _ (hsub _ hb)

/-- R176: an ending of the survey's own. -/
theorem surveyOwnEnd_ends (hruns : surveyRuns u.survey = true) (hu : LeadsToEnd also first s u)
    (htable : closeStep by_ u.survey.table = table) :
    SurveyEnds also first outcome reason table s (surveyOwnEnd outcome reason by_ u) := by
  obtain ⟨hreq, hk, hmode⟩ := hu
  obtain ⟨hsurvey, hmonitor⟩ := surveyOwnEnd_record (outcome := outcome) (reason := reason) (by_ := by_) hruns
  subst htable
  rw [SurveyEnds, hsurvey, hmonitor]
  refine ⟨rfl, rfl, rfl, rfl, rfl, rfl, rfl, hreq, hk, ?_, fun hm hn => ?_⟩
  · rintro n (rfl | rfl) <;> exact ⟨rfl, rfl⟩
  obtain ⟨honly, hplanner, hfault, hlocate, hlink⟩ := hmode hm
  obtain ⟨vsurvey, vmonitor, vlocate, vplanner, vlink⟩ := endSurvey_runs (outcome := outcome) (reason := reason) (by_ := by_) hruns
  have vunit : endUnit .survey (endSurvey outcome reason by_ u) = endSurvey outcome reason by_ u := by
    simp only [endUnit, vplanner, hplanner, hm]
    exact endSurvey_over (by rw [vsurvey]; rfl)
  obtain ⟨eonly, emode, estop, ecause, egoal, ev, epinch, elink⟩ := restOrStop_ended (cause := .survey)
    (s := endSurvey outcome reason by_ u) (by simp [vplanner, hplanner, hm, Mode.startsStop]) (by simp [vplanner, hplanner, hm])
    (by simp [vplanner, hplanner, hm]) (by simp [vplanner, hplanner, hn]) vunit
  have vonly : OnlyChanges [.planner, .locate, .monitor, .survey, .link] u (endSurvey outcome reason by_ u) := by
    intro b; cases b <;> simp [sameBlock]
  refine ⟨((honly.widen (by simp)).trans (vonly.mono (by simp))).trans (eonly.mono (by simp)), ?_, ?_, ?_, ?_, egoal, ?_,
    epinch, ?_, fun hf => ?_⟩
  · exact ((eonly .locate).resolve_left (by decide)).trans (vlocate.trans hlocate)
  · simpa [surveyOwnEnd, vplanner, hplanner] using emode
  · simpa [surveyOwnEnd, vplanner, hplanner] using estop
  · simpa [surveyOwnEnd, vplanner, hplanner] using ecause
  · simpa [surveyOwnEnd, vplanner, hplanner] using ev
  · simp [surveyOwnEnd, hfault]
  · rw [Link.posted_append, ← hlink hf, Link.posted_two, surveyOwnEnd, elink, vlink, vplanner, restOrStop_frame _ _ |>.2.1]
    simp [hplanner, hm, modeCauseOf]

end OwnEnd

end Sys2Proof.Machine

namespace Sys2Proof.Machine

/-! ## The positioning of a survey (R172) -/

section Positioning

variable {s u : State} {l : LocateRec} {q : SurveyRequest} {outcome : LocateOutcome}

theorem signedBy_dir (q : SurveyRequest) (n : Nat) : signedBy q.dir n = if q.start < q.finish then (n : Int) else -(n : Int) := by
  unfold SurveyRequest.dir
  split <;> rfl

/-- The survey's locate is gone before the survey goes on or ends. -/
theorem dropLocateOf_survey (hl : s.locate = some l) (ho : l.owner = .survey) : dropLocateOf .survey s = s.onLocate fun _ => none := by
  simp [dropLocateOf, State.onLocate, hl, ho, Option.filter]

theorem surveyPositioned_done (hl : u.locate = some l) (ho : l.owner = .survey) (hq : u.survey.request = some q) :
    surveyPositioned .done u =
      ((u.onLocate fun _ => none).onSurvey fun v => { v with state := .running, phase := some .ramp }).onPlanner fun p =>
        { p with goal := if q.start < q.finish then (q.speed : Int) else -(q.speed : Int), unitPoints := [] } := by
  rw [← signedBy_dir]
  simp [surveyPositioned, dropLocateOf_survey hl ho, hq]

theorem surveyPositioned_ends (hl : s.locate = some l) (ho : l.owner = .survey) (h : outcome = .missed ∨ outcome = .blocked) :
    surveyPositioned outcome s =
      surveyOwnEnd .aborted (some (if outcome = .missed then .locateMissed else .locateBlocked)) .abort
        (s.onLocate fun _ => none) := by
  rcases h with rfl | rfl <;> simp [surveyPositioned, dropLocateOf_survey hl ho]

/-- A survey whose locate ends unsettled ends ABORTED. -/
theorem surveyPositioned_surveyEnds {table : List StepEntry} (hl : s.locate = some l) (ho : l.owner = .survey)
    (hp : s.survey.state = .positioning) (htable : StepClosed .abort s.survey.table table)
    (h : outcome = .missed ∨ outcome = .blocked) :
    (surveyPositioned outcome s).monitor.frozen = s.monitor.frozen ∧
      SurveyEnds [] [] .aborted (some (if outcome = .missed then .locateMissed else .locateBlocked)) table s
        (surveyPositioned outcome s) := by
  have hruns : surveyRuns (s.onLocate fun _ => none).survey = true := by simp [SurveyState.runs, hp]
  rw [surveyPositioned_ends hl ho h]
  refine ⟨by rw [(surveyOwnEnd_record hruns).2]; rfl, surveyOwnEnd_ends hruns ⟨rfl, rfl, fun _ => ⟨?_, rfl, rfl, ?_, fun _ => rfl⟩⟩
    (closeStep_of_closed htable)⟩
  · intro b; cases b <;> simp [sameBlock]
  · simp [hl, ho, Option.filter]

end Positioning

end Sys2Proof.Machine
namespace Sys2Proof.Machine

/-! ## The samples of a survey (R173, R174) -/

section Sample

variable {s u : State} {q : SurveyRequest}

/-- The state that a sample with no condition hands to the survey (R43, R162): its runs and the counters counted. -/
def sampledState (s : State) : State := monitorSample (sampleView (countedState s)) (countedState s)

theorem servoSample_survey (hen : s.servo.enabled = true)
    (hbelow : ∀ r, (s.servo.reels.get r).satRun < 799 ∧ (s.servo.reels.get r).slackRun < 7 ∧ (s.servo.reels.get r).overRun < 7) :
    servoSample s = surveySample (sampledState s) := by
  rw [servoSample_of_enabled hen, giveConditions_quiet fun r => ?_]
  · rfl
  · obtain ⟨hsat, hslack, hover⟩ := hbelow r
    rw [countedState_get]
    exact sampledReel_quiet_below hsat hslack hover

@[simp] theorem sampledState_frame (s : State) :
    (sampledState s).tach = s.tach ∧ (sampledState s).packs = s.packs ∧ (sampledState s).capstan = s.capstan ∧
      (sampledState s).planner = s.planner ∧ (sampledState s).zones = s.zones ∧ (sampledState s).cues = s.cues ∧
      (sampledState s).params = s.params ∧ (sampledState s).locate = s.locate ∧ (sampledState s).chase = s.chase ∧
      (sampledState s).fault = s.fault ∧ (sampledState s).survey = s.survey ∧ (sampledState s).lines = s.lines ∧
      (sampledState s).held = s.held ∧ (sampledState s).freeIndex = s.freeIndex ∧ (sampledState s).pending = s.pending := by
  simp [sampledState, countedState, latchTension, sampleServo]

theorem sampledState_onlyChanges (s : State) : OnlyChanges [.sense, .servo, .monitor, .link] s (sampledState s) := by
  intro b; cases b <;> simp [sameBlock]

/-- A sample that neither freezes the monitor nor finds it thawed posts nothing (R165). -/
theorem sampledState_link (h : (sampledState s).monitor.frozen = s.monitor.frozen) : (sampledState s).link = s.link := by
  have hmonitor : (countedState s).monitor = s.monitor := by simp [countedState, latchTension, sampleServo]
  have hlink : (countedState s).link = s.link := by simp [countedState, latchTension, sampleServo]
  unfold sampledState monitorSample at h ⊢
  rcases addCounts_cases ((countedState s).monitor.counters.map fun c => c.sampleGain (sampleView (countedState s)))
    ((countedState s).onMonitor fun m => { m with counters := m.counters.map fun c => c.remember (sampleView (countedState s)) })
    with ⟨-, hsame⟩ | ⟨hfree, -, hkept⟩
  · rw [hsame]; exact hlink
  · refine (hkept (h.trans ?_)).trans hlink
    rw [← hmonitor]; exact hfree

/-- v_goal_eff is made of the planner, the zones, the cues, the position and what halves the limits (R104). -/
theorem goalEff_congr {t : State} (hplanner : t.planner = s.planner) (hzones : t.zones = s.zones) (hcues : t.cues = s.cues)
    (htach : t.tach = s.tach) (hpacks : t.packs = s.packs) (hreduced : t.servo.reduced = s.servo.reduced) :
    goalEff t = goalEff s := by
  simp only [goalEff, cappedGoal, dropPoints, zonePoints, cuePoints, stopCuesAhead, unitPointsAhead, vMaxEff, aDecEff,
    hplanner, hzones,
    hcues, htach, hpacks, hreduced]

theorem sampledState_goalEff (s : State) : goalEff (sampledState s) = goalEff s := by
  refine goalEff_congr ?_ ?_ ?_ ?_ ?_ ?_ <;> simp [sampledState, countedState, latchTension, sampleServo, Servo.slewStep]

end Sample

end Sys2Proof.Machine

namespace Sys2Proof.Machine

/-! ## One survey sample (R173, R174) -/

section SurveySample

variable {s u : State} {q : SurveyRequest} {by_ : EndedBy} {done : List StepEntry} {e : StepEntry}

theorem surveySample_barred (hr : u.survey.state = .running) (hq : u.survey.request = some q)
    (hb : pathBarred u.zones q.dir u.tach.position q.finish = true) :
    surveySample u = surveyOwnEnd .aborted (some .zone) .abort u := by
  simp [surveySample, hr, hq, hb]

/-- Where no zone ends the survey, its sample is that of its phase (log entry 31). -/
theorem surveySample_phase (hr : u.survey.state = .running) (hq : u.survey.request = some q)
    (hb : pathBarred u.zones q.dir u.tach.position q.finish = false) :
    (u.survey.phase = some .ramp → surveySample u = rampSample q u) ∧
      (u.survey.phase = some .settle → surveySample u = settleSample u) ∧
      (u.survey.phase = some .count → surveySample u = countStep q u) := by
  refine ⟨fun h => ?_, fun h => ?_, fun h => ?_⟩ <;> simp [surveySample, hr, hq, hb, h]

/-- What a step k begins with (R173). -/
theorem beginStep_survey (q : SurveyRequest) (k : Nat) {T : Int} (htape : 20 ≤ u.packs.tape.tMax)
    (hT : T = max 20 (min (u.packs.tape.tMax : Int) (q.tension + k * q.step))) :
    (beginStep q k u).survey =
      { u.survey with
        k := k, phase := some .settle, phaseCount := 0, stepTension := some T
        table := u.survey.table ++
          [{ tension := T, clamped := T != q.tension + k * q.step, samples := 0, slack := 0, excursion := 0, endedBy := none
             frozen := false }] } := by
  subst hT
  simp [beginStep, clampInt_eq (show (20 : Int) ≤ u.packs.tape.tMax by exact_mod_cast htape)]

theorem beginStep_onlyChanges (q : SurveyRequest) (k : Nat) (u : State) : OnlyChanges [.survey] u (beginStep q k u) := by
  intro b; cases b <;> simp [sameBlock, beginStep]

theorem settleSample_survey (u : State) :
    (settleSample u).survey =
      if u.survey.phaseCount < 99 then { u.survey with phaseCount := u.survey.phaseCount + 1 }
      else
        { u.survey with
          phase := some .count, phaseCount := 0, base2 := u.monitor.counters.c2.value, base3 := u.monitor.counters.c3.value
          frozenSeen := false } := by
  by_cases h : u.survey.phaseCount < 99
  · simp [settleSample, h, h.not_ge]
  · simp [settleSample, h, not_lt.1 h]

theorem settleSample_onlyChanges (u : State) : OnlyChanges [.survey] u (settleSample u) := by
  intro b; cases b <;> simp [sameBlock, settleSample]

/-! ### COUNT -/

/-- The limit of a step's source is reached (R173). -/
def SurveyRequest.limitReached (q : SurveyRequest) (f : StepEntry) : Prop :=
  (q.limitSource = .slack ∧ q.limitValue ≤ f.slack) ∨ (q.limitSource = .excursion ∧ q.limitValue ≤ f.excursion)

/-- The survey ends after a step with too many slack samples, where it is fast (R174). -/
def SurveyRequest.fastReached (q : SurveyRequest) (f : StepEntry) : Prop := q.fast = true ∧ (q.thres + 1) * 2 ^ q.shift ≤ f.slack

theorem stepEnding_limit (h : q.limitReached e) : stepEnding q e = some .limit := by
  obtain ⟨hsource, hvalue⟩ | ⟨hsource, hvalue⟩ := h <;> simp [stepEnding, hsource, hvalue]

theorem stepEnding_dwell (h : ¬q.limitReached e) : stepEnding q e = if q.dwell ≤ e.samples then some .dwell else none := by
  unfold SurveyRequest.limitReached at h
  cases hsource : q.limitSource <;> simp_all [stepEnding]

/-- A step ends by its limit first, and otherwise by its dwell (R173). -/
theorem stepEnding_of_ends (h : (by_ = .limit ∧ q.limitReached e) ∨ (by_ = .dwell ∧ ¬q.limitReached e ∧ q.dwell ≤ e.samples)) :
    stepEnding q e = some by_ := by
  obtain ⟨rfl, hlimit⟩ | ⟨rfl, hlimit, hdwell⟩ := h
  · exact stepEnding_limit hlimit
  · rw [stepEnding_dwell hlimit, if_pos hdwell]

/-- The state with a sample of COUNT recorded in its entry. -/
def countedInto (done : List StepEntry) (f : StepEntry) (u : State) : State :=
  u.onSurvey fun x => { x with phaseCount := x.phaseCount + 1, frozenSeen := f.frozen, table := done ++ [f] }

theorem countedInto_onlyChanges (done : List StepEntry) (f : StepEntry) (u : State) : OnlyChanges [.survey] u
    (countedInto done f u) := by
  intro b; cases b <;> simp [sameBlock, countedInto]

theorem setLast_snoc (done : List StepEntry) (e f : StepEntry) : setLast f (done ++ [e]) = done ++ [f] := by
  simp [setLast]

theorem countStep_of_entry (htable : u.survey.table = done ++ [e]) :
    (∀ by_, stepEnding q (countedEntry u e) = some by_ →
      countStep q u = endStep q (countedEntry u e) by_ (countedInto done (countedEntry u e) u)) ∧
      (stepEnding q (countedEntry u e) = none → countStep q u = countedInto done (countedEntry u e) u) := by
  have hcounted : (u.onSurvey fun x => { x with
      phaseCount := x.phaseCount + 1, frozenSeen := (countedEntry u e).frozen, table := setLast (countedEntry u e) x.table }) =
      countedInto done (countedEntry u e) u := by
    simp [countedInto, State.onSurvey, htable, setLast_snoc]
  refine ⟨fun by_ h => ?_, fun h => ?_⟩ <;> simp only [countStep, htable, List.getLast?_concat, hcounted, h]

/-- The state with an ended step recorded and posted (R174). -/
def stepPosted (done : List StepEntry) (g : StepEntry) (u : State) : State :=
  postNotice (.surveyStep u.survey.k g) (u.onSurvey fun x => { x with table := done ++ [g] })

theorem stepPosted_onlyChanges (done : List StepEntry) (g : StepEntry) (u : State) :
    OnlyChanges [.survey, .link] u (stepPosted done g u) := by
  intro b; cases b <;> simp [sameBlock, stepPosted]

theorem endStep_eq (htable : u.survey.table = done ++ [e]) {g : StepEntry} (hg : g = { e with endedBy := some by_ }) :
    (q.fastReached e → endStep q e by_ u = surveyOwnEnd .fastEnd none .abort (stepPosted done g u)) ∧
      (¬q.fastReached e → u.survey.k + 1 = q.stepCount → endStep q e by_ u = surveyOwnEnd .complete none .abort
        (stepPosted done g u)) ∧
      (¬q.fastReached e → u.survey.k + 1 ≠ q.stepCount → endStep q e by_ u = beginStep q (u.survey.k + 1) (stepPosted done g u)) := by
  have hposted : postNotice (.surveyStep u.survey.k g) (u.onSurvey fun x => { x with table := setLast g x.table }) =
      stepPosted done g u := by
    simp [stepPosted, State.onSurvey, htable, setLast_snoc]
  have hfast : (q.fast && decide (q.fastThreshold ≤ e.slack)) = true ↔ q.fastReached e := by
    rw [Bool.and_eq_true, decide_eq_true_eq]; rfl
  simp only [endStep, ← hg, hposted]
  exact ⟨fun h => if_pos (hfast.2 h), fun h hk => (if_neg (mt hfast.1 h)).trans (if_pos hk),
    fun h hk => (if_neg (mt hfast.1 h)).trans (if_neg hk)⟩

end SurveySample

end Sys2Proof.Machine

namespace Sys2Proof.Machine

/-! ## The samples of a survey as rows (O53) -/

section Rows

variable {s u : State} {q : SurveyRequest} {done rest : List StepEntry} {e f g : StepEntry}

theorem sampledState_leads (s : State) : LeadsToEnd [.sense, .servo] [] s (sampledState s) := by
  refine ⟨by simp, by simp, fun _ => ⟨(sampledState_onlyChanges s).mono (by simp), by simp, by simp, by simp, fun h => ?_⟩⟩
  rw [sampledState_link h]; rfl

/-- The state of a sample that has recorded and posted an ended step. -/
def stepEnded (done : List StepEntry) (f g : StepEntry) (s : State) : State := stepPosted done g (countedInto done f (sampledState s))

@[simp] theorem stepEnded_frame (done : List StepEntry) (f g : StepEntry) (s : State) :
    (stepEnded done f g s).packs = s.packs ∧ (stepEnded done f g s).planner = s.planner ∧ (stepEnded done f g s).locate = s.locate ∧
      (stepEnded done f g s).fault = s.fault ∧ (stepEnded done f g s).monitor = (sampledState s).monitor ∧
      (stepEnded done f g s).survey =
        { s.survey with phaseCount := s.survey.phaseCount + 1, frozenSeen := f.frozen, table := done ++ [g] } := by
  simp [stepEnded, stepPosted, countedInto]

theorem stepEnded_onlyChanges (done : List StepEntry) (f g : StepEntry) (s : State) :
    OnlyChanges [.sense, .servo, .monitor, .survey, .link] s (stepEnded done f g s) :=
  (((sampledState_onlyChanges s).mono (by simp)).trans ((countedInto_onlyChanges done f _).mono (by simp))).trans
    ((stepPosted_onlyChanges done g _).mono (by simp))

/-- SURVEY_STEP is the one notice, unless a count freezes the monitor. -/
theorem stepEnded_link (done : List StepEntry) (f g : StepEntry) (h : (sampledState s).monitor.frozen = s.monitor.frozen) :
    (stepEnded done f g s).link = txTake (enqueueNotice (.surveyStep s.survey.k g) s.link) := by
  simp [stepEnded, stepPosted, countedInto, sampledState_link h]

theorem stepEnded_leads (done : List StepEntry) (f g : StepEntry) (s : State) :
    LeadsToEnd [.sense, .servo] [.surveyStep s.survey.k g] s (stepEnded done f g s) :=
  ⟨by simp, by simp, fun _ => ⟨(stepEnded_onlyChanges done f g s).mono (by simp), by simp, by simp, by simp,
    fun h => stepEnded_link done f g (by simpa using h)⟩⟩

/-- The entry of a step that has ended keeps its place in the table, whatever the survey does next. -/
theorem endStep_table {by_ : EndedBy} (hruns : surveyRuns u.survey = true) (htable : u.survey.table = done ++ [e])
    (hg : g = { e with endedBy := some by_ }) : ∃ rest, (endStep q e by_ u).survey.table = done ++ g :: rest := by
  obtain ⟨hfast, hlast, hnext⟩ := endStep_eq (q := q) htable hg
  have hposted : surveyRuns (stepPosted done g u).survey = true := by simpa [stepPosted] using hruns
  have hclosed : closeStep .abort (done ++ [g]) = done ++ [g] := closeStep_ended (by simp [hg])
  have hend (outcome : SurveyOutcome) : (surveyOwnEnd outcome none .abort (stepPosted done g u)).survey.table = done ++ [g] := by
    rw [(surveyOwnEnd_record hposted).1]
    simpa [Survey.closed, stepPosted] using hclosed
  by_cases h : q.fastReached e
  · exact ⟨[], by rw [hfast h, hend]⟩
  · by_cases hk : u.survey.k + 1 = q.stepCount
    · exact ⟨[], by rw [hlast h hk, hend]⟩
    · rw [hnext h hk]
      exact ⟨_, by simp [beginStep, stepPosted]; rfl⟩

/-- The end of a step leaves the counters' values and the freeze, whether or not the survey ends with it. -/
theorem endStep_monitor (q : SurveyRequest) (e : StepEntry) (by_ : EndedBy) (h : surveyRuns u.survey = true) :
    (endStep q e by_ u).monitor = u.monitor ∨ (endStep q e by_ u).monitor = u.monitor.released := by
  have hruns (v : State) (hv : v.survey.state = u.survey.state) : surveyRuns v.survey = true := by rw [surveyRuns_eq, hv]; exact h
  simp only [endStep]
  split
  · exact .inr ((surveyOwnEnd_record (hruns _ (by simp))).2.trans (by simp))
  · split
    · exact .inr ((surveyOwnEnd_record (hruns _ (by simp))).2.trans (by simp))
    · exact .inl (by simp [beginStep])

theorem countStep_monitor (q : SurveyRequest) (h : surveyRuns u.survey = true) :
    (countStep q u).monitor = u.monitor ∨ (countStep q u).monitor = u.monitor.released := by
  unfold countStep
  split
  · exact .inl rfl
  · dsimp only
    split
    · simpa using endStep_monitor q _ _ (u := u.onSurvey _) (by simpa using h)
    · exact .inl rfl

theorem exec_servoSample (h : s.held = none) : exec .servoSample s = .next (servoSample s) := whileRunning_of_running h

theorem exec_surveyRows (h : s.held = none) :
    exec .surveySettleDone s = .next (if surveySettleFalls s then servoSample s else s) ∧
      exec .surveyStepEnd s = .next (if surveyStepFalls s then servoSample s else s) :=
  ⟨whileRunning_of_running h, whileRunning_of_running h⟩

theorem surveySettleFalls_iff (hen : s.servo.enabled = true) :
    surveySettleFalls s = true ↔ s.survey.phase = some .settle ∧ (servoSample s).survey.phase = some .count := by
  simp [surveySettleFalls, hen]

theorem endedAsCounted_snoc (h : done.length = k) :
    endedAsCounted (done ++ e :: rest) k = true ↔ e.endedBy = some .dwell ∨ e.endedBy = some .limit := by
  simp [endedAsCounted, ← h]

/-- SURVEY_STEP_END falls at the sample that ends the step in progress (R174). -/
theorem surveyStepFalls_iff (hen : s.servo.enabled = true) (hp : s.survey.phase = some .count) (htable : s.survey.table = done ++ [e])
    (he : e.endedBy = none) (hk : s.survey.k = done.length) :
    surveyStepFalls s = true ↔ endedAsCounted (servoSample s).survey.table done.length = true := by
  have hbefore : endedAsCounted s.survey.table s.survey.k = false := by
    rw [← Bool.not_eq_true, htable, endedAsCounted_snoc hk.symm, he]; simp
  simp [surveyStepFalls, hen, hp, hbefore, ← hk]

/-- A sample of COUNT that neither reaches the limit nor the dwell records its counts, and SURVEY_STEP_END does not fall. -/
theorem countSample_goesOn (hen : s.servo.enabled = true) (hsample : servoSample s = countStep q (sampledState s))
    (hp : s.survey.phase = some .count) (htable : s.survey.table = done ++ [e]) (he : e.endedBy = none)
    (hk : s.survey.k = done.length) (hf : f = countedEntry (sampledState s) e) (hlimit : ¬q.limitReached f)
    (hfew : s.survey.phaseCount + 1 < q.dwell) :
    servoSample s = countedInto done f (sampledState s) ∧ ¬surveyStepFalls s = true := by
  subst hf
  have hcounted : servoSample s = countedInto done (countedEntry (sampledState s) e) (sampledState s) :=
    hsample.trans ((countStep_of_entry (by simpa using htable)).2 (by
      rw [stepEnding_dwell hlimit, if_neg]; simpa [countedEntry] using hfew))
  refine ⟨hcounted, ?_⟩
  rw [surveyStepFalls_iff hen hp htable he hk, hcounted]
  exact mt (endedAsCounted_snoc (rest := []) rfl).1 (by simp [countedEntry, he])

/-- A sample of COUNT that ends its step: SURVEY_STEP_END falls, and from the step posted the survey ends or begins the next one. -/
theorem countSample_ends {by_ : EndedBy} (hen : s.servo.enabled = true) (hruns : surveyRuns s.survey = true)
    (hsample : servoSample s = countStep q (sampledState s)) (hp : s.survey.phase = some .count)
    (htable : s.survey.table = done ++ [e]) (he : e.endedBy = none) (hk : s.survey.k = done.length)
    (hf : f = countedEntry (sampledState s) e) (hg : g = { f with endedBy := some by_ })
    (hby : (by_ = .limit ∧ q.limitReached f) ∨ (by_ = .dwell ∧ ¬q.limitReached f ∧ q.dwell ≤ s.survey.phaseCount + 1)) :
    surveyStepFalls s = true ∧
      (q.fastReached f → servoSample s = surveyOwnEnd .fastEnd none .abort (stepEnded done f g s)) ∧
      (¬q.fastReached f → s.survey.k + 1 = q.stepCount → servoSample s = surveyOwnEnd .complete none .abort (stepEnded done f g s)) ∧
      (¬q.fastReached f → s.survey.k + 1 ≠ q.stepCount → servoSample s = beginStep q (s.survey.k + 1) (stepEnded done f g s)) := by
  have hcounted : (countedInto done f (sampledState s)).survey.table = done ++ [f] := rfl
  have hk' : (countedInto done f (sampledState s)).survey.k = s.survey.k := by simp [countedInto]
  have hends : servoSample s = endStep q f by_ (countedInto done f (sampledState s)) := by
    subst hf
    exact hsample.trans ((countStep_of_entry (by simpa using htable)).1 by_ (stepEnding_of_ends (by simpa [countedEntry] using hby)))
  obtain ⟨hfast, hlast, hnext⟩ := endStep_eq (q := q) hcounted hg
  obtain ⟨rest, hkept⟩ := endStep_table (q := q) (by simpa [countedInto] using hruns) hcounted hg
  rw [hk'] at hlast hnext
  refine ⟨?_, fun h => hends.trans (hfast h), fun h hk1 => hends.trans (hlast h hk1), fun h hk1 => hends.trans (hnext h hk1)⟩
  rw [surveyStepFalls_iff hen hp htable he hk, hends, hkept, endedAsCounted_snoc rfl]
  subst hg
  rcases hby with ⟨rfl, -⟩ | ⟨rfl, -⟩ <;> simp

/-- The counts of the entry, as the monitor has them after the sample: whether or not the survey ends with it. -/
theorem countedEntry_after (h : surveyRuns s.survey = true) (hsample : servoSample s = countStep q (sampledState s)) :
    countedEntry (sampledState s) e =
      { e with
        samples := s.survey.phaseCount + 1, slack := gainOver (servoSample s).monitor.counters.c2 s.survey.base2
        excursion := gainOver (servoSample s).monitor.counters.c3 s.survey.base3
        frozen := s.survey.frozenSeen || (servoSample s).monitor.frozen } := by
  have hsurvey : (sampledState s).survey = s.survey := by simp
  rw [countedEntry, hsurvey, hsample]
  obtain hm | hm := countStep_monitor q (u := sampledState s) (by rwa [hsurvey])
  · rw [hm]
  · rw [hm]; rfl

end Rows

/-! ## The roller edge that reaches the end of the range (R175) -/

section Range

variable {s : State} {q : SurveyRequest} {d : Dir}

theorem SurveyRequest.reached_iff {x : Int} :
    q.reached x = true ↔ (q.start < q.finish ∧ q.finish ≤ x) ∨ (q.finish ≤ q.start ∧ x ≤ q.finish) := by
  by_cases h : q.start < q.finish
  · simp [reached, dir, h, h.not_ge]
  · simp [reached, dir, h, not_lt.1 h]

theorem surveyRange_reached (hs : s.survey.state = .running) (hq : s.survey.request = some q)
    (h : q.reached s.tach.position = true) : surveyRange s = surveyOwnEnd .rangeEnd none .range s := by
  simp [surveyRange, hs, hq, h]

theorem surveyRange_notReached (hq : s.survey.request = some q) (h : ¬q.reached s.tach.position = true) : surveyRange s = s := by
  simp [surveyRange, hq, h]

/-- The load that an edge may end is no survey, and leaves the survey and the counters. -/
theorem loadDistance_cases (s : State) :
    loadDistance s = s ∨ (s.planner.mode = .loading ∧ loadDistance s = failLoad .loadFailed s) := by
  unfold loadDistance
  split
  next h => exact .inr ⟨h.1, rfl⟩
  next => exact .inl rfl

/-- An edge that neither enters another zone nor comes to a cue, in a zone that allows the heading: only the checks of the load and
of the survey follow it. -/
theorem rollerEdge_plain (hlow : -2147483648 ≤ s.tach.position) (hhigh : s.tach.position ≤ 2147483647)
    (hzone : zoneAt s.zones (edgeFrom d s.tach.position) = s.zones.index)
    (hheading : ∀ h, s.planner.heading = some h → s.zones.current.dirs.allows h = true)
    (hcues : ∀ c ∈ s.cues.list, c.position ≠ edgeFrom d s.tach.position) :
    ∃ w, rollerEdge d s = surveyRange w ∧ w.survey = s.survey ∧ w.monitor = s.monitor ∧
      w.tach.position = edgeFrom d s.tach.position ∧ (s.planner.mode = .survey → OnlyChanges [.tach, .packs, .cues] s w) := by
  have hpos := edgeTaken_position (d := d) hlow hhigh
  have htables : (edgeTaken d s).zones = s.zones ∧ (edgeTaken d s).cues = s.cues := by simp [edgeTaken]
  have hsame : rezonePosition (some d) (edgeTaken d s) = edgeTaken d s :=
    rezonePosition_same (by rw [htables.1, hpos, hzone])
  have hnone : cuesReached d s.tach.position (edgeTaken d s).tach.position (edgeTaken d s).cues.list = [] := by
    refine List.eq_nil_iff_forall_not_mem.2 fun c hc => ?_
    rw [hpos, htables.2] at hc
    exact hcues c (mem_cuesReached_edge hc).1 (mem_cuesReached_edge hc).2
  have honly : OnlyChanges [.tach, .packs, .cues] s (edgeReached d s) := by
    rw [edgeReached, hsame]
    exact (edgeTaken_onlyChanges.mono (by simp)).trans ((reachCues_none hnone).1.mono (by simp))
  have hplanner : (edgeReached d s).planner = s.planner := (honly .planner).resolve_left (by decide)
  have hzones : (edgeReached d s).zones = s.zones := (honly .zones).resolve_left (by decide)
  have hsurvey : (edgeReached d s).survey = s.survey := (honly .survey).resolve_left (by decide)
  have hmonitor : (edgeReached d s).monitor = s.monitor := (honly .monitor).resolve_left (by decide)
  have hto : (edgeReached d s).tach.position = edgeFrom d s.tach.position := by rw [edgeReached_keeps.1, hpos]
  refine ⟨loadDistance (edgeReached d s), ?_, ?_⟩
  · rw [rollerEdge_eq, zoneDirectionRule_allowed (by rwa [hplanner, hzones])]
  rcases loadDistance_cases (edgeReached d s) with h | ⟨hm, h⟩
  · rw [h]; exact ⟨hsurvey, hmonitor, hto, fun _ => honly⟩
  · rw [h]
    exact ⟨by simpa using hsurvey, by simpa using hmonitor, by simpa using hto, fun hsv => by simp [hplanner, hsv] at hm⟩

theorem LeadsToEnd.of_onlyChanges {also : List Block} {w : State} (hsurvey : w.survey = s.survey)
    (h : s.planner.mode = .survey → OnlyChanges [.tach, .packs, .cues] s w) (halso : .tach ∈ also ∧ .packs ∈ also) :
    LeadsToEnd also [] s w := by
  refine ⟨by rw [hsurvey], by rw [hsurvey], fun hm => ?_⟩
  have honly := h hm
  exact ⟨honly.mono (by simp [halso]), (honly .planner).resolve_left (by decide), (honly .fault).resolve_left (by decide), by
    rw [(honly .locate).resolve_left (by decide)], fun _ => (honly .link).resolve_left (by decide)⟩

end Range

end Sys2Proof.Machine

namespace Sys2Proof.Machine

/-- Settles O53: the positioning of a survey, its samples by phase, and its range. -/
theorem surveyStepsCountTheirSamples : Obligations.SurveyStepsCountTheirSamples := by
  refine ⟨fun s q l x dist run d barred again hh hoff hl ho hs hq hx hdist hd hrun hbarred hagain => ?positioning,
    fun s q barred hh hen hs hq hbarred hbelow => ?samples,
    fun s q d x0 x1 reached hh hs hq hx0 hlow hhigh hx1 hreached hzone hheading hcues => ?range⟩
  case positioning =>
    have hd : l.toward s.tach.position = d := by rw [hd, hx]; exact l.toward_eq _
    obtain rfl : l.distance s.tach.position = dist := by rw [hdist, hx]; rfl
    obtain rfl : settleNext l s = run := hrun.symm
    have hstuck : l.stuck s ↔ barred := by
      rw [LocateRec.stuck, hbarred, locateBarred_iff, hd, hx]
    have hagain : l.reapproaches s ↔ again := by
      rw [LocateRec.reapproaches, hagain, hstuck, hd]
    have hexec : exec .locateUnitStep s = .next (stepLocate l s) := (exec_locateUnitStep hh).trans (congrArg _
        (unitStep_locate hoff hl))
    have hends {outcome : LocateOutcome} {u : State} (h : locateStep l s = .ends outcome u) :
        exec .locateUnitStep s = .next (surveyPositioned outcome u) := by
      rw [hexec, stepLocate_ends h, ho]; rfl
    refine ⟨fun hp hsettled hnear t ht => ?_, fun table htable => ⟨fun hmany hthree => ?_, fun hblocked => ?_⟩,
      fun hfree hgo hnot => ?_⟩
    · have hdone := hends ((locateStep_settle hp).trans (settleStep_done hsettled hnear))
      rw [surveyPositioned_done (u := publishLocate { l with settleRun := settleNext l s } s) rfl ho hq] at hdone
      have ht' : exec .locateUnitStep s = .next t := hdone.trans (congrArg _ ht.symm)
      exact ⟨ht', by rw [exec_locateSettled hh, if_pos ((settleFalls_iff hl).2 ⟨hp, hsettled⟩), ← exec_locateUnitStep hh, ht']⟩
    · obtain ⟨hfrozen, hend⟩ := surveyPositioned_surveyEnds hl ho hs htable (.inl rfl)
      exact ⟨_, hends ((locateStep_reapproaches (hagain.2 hmany)).trans (reapproach_missed hthree)), hfrozen, hend⟩
    · obtain ⟨hfrozen, hend⟩ := surveyPositioned_surveyEnds hl ho hs htable (.inr rfl)
      refine ⟨_, hends ?_, hfrozen, hend⟩
      obtain hb | ⟨ha, hfew, hf⟩ := hblocked
      · exact locateStep_stuck (hstuck.2 hb)
      · exact (locateStep_reapproaches (hagain.2 ha)).trans (reapproach_blocked hfew (by rw [← hd] at hf; exact hf))
    · obtain ⟨r, u, hstep, hr, haim, hu⟩ := locateStep_goesOn (mt hstuck.1 hfree) (fun h => by
        rw [hd]
        exact ⟨not_le.1 fun h3 => hgo ⟨hagain.1 h, .inl h3⟩, by simpa using fun hf => hgo ⟨hagain.1 h, .inr hf⟩⟩) hnot
      have honly : OnlyChanges [.planner, .locate, .monitor, .link] s u := by
        rcases hu with rfl | rfl
        · exact OnlyChanges.refl _ u
        · exact (monitorEvent_onlyChanges _ _ s).mono (by simp)
      have hplanner : u.planner = s.planner := by rcases hu with rfl | rfl <;> simp
      exact ⟨_, r, hexec.trans (congrArg _ (stepLocate_goesOn hstep)), honly.trans ((publishLocate_onlyChanges r u).mono
        (by simp)), rfl,
        hr.trans ho, haim, by simp [publishLocate_planner, hplanner], by simp [publishLocate_planner, hplanner]⟩
  case samples =>
    have hbarred : pathBarred s.zones q.dir s.tach.position q.finish = true ↔ barred := by rw [hbarred, pathBarred_iff]
    have hexec := exec_servoSample hh
    obtain ⟨hsettleRow, hstepRow⟩ := exec_surveyRows hh
    have hsample := servoSample_survey hen hbelow
    have honly := (sampledState_onlyChanges s).mono (m := [.sense, .servo, .monitor, .survey, .link]) (by simp)
    have hruns : surveyRuns (sampledState s).survey = true := by simp [SurveyState.runs, hs]
    refine ⟨fun hb table htable => ?barred, fun hb hp => ?ramp, fun hb hp => ?settle, fun hb done e hp htable he hk => ?count⟩
    case barred =>
      have hend := surveySample_barred (u := sampledState s) (by simpa using hs) (by simpa using hq) (by simpa using hbarred.2 hb)
      exact ⟨_, hexec, by
        rw [hsample, hend]
        exact surveyOwnEnd_ends hruns (sampledState_leads s) (closeStep_of_closed (by simpa using htable))⟩
    all_goals
      obtain ⟨hramp, hsettle, hcount⟩ := surveySample_phase (u := sampledState s) (by simpa using hs) (by simpa using hq)
        (by simpa using mt hbarred.1 hb)
    case ramp =>
      rw [hramp (by simpa using hp), rampSample, sampledState_goalEff] at hsample
      have hnot : ¬surveySettleFalls s = true := fun h => by simpa [hp] using ((surveySettleFalls_iff hen).1 h).1
      refine ⟨hsettleRow.trans (congrArg _ (if_neg hnot)), hstepRow.trans (by simp [surveyStepFalls, hp]), _, hexec, ?_,
        fun hne => ?_, fun heq htape T hT => ?_⟩
      · rw [hsample]
        split
        · exact honly.trans ((beginStep_onlyChanges q 0 _).mono (by simp))
        · exact honly
      · rw [hsample, if_neg (by simpa using hne)]; simp
      · rw [hsample, if_pos (by simpa using heq), beginStep_survey q 0 (by simpa using htape) (by simpa using hT)]
        simp
    case settle =>
      rw [hsettle (by simpa using hp)] at hsample
      have hsurvey := settleSample_survey (sampledState s)
      rw [← hsample] at hsurvey
      have honly : OnlyChanges [.sense, .servo, .monitor, .survey, .link] s (servoSample s) := by
        rw [hsample]; exact honly.trans ((settleSample_onlyChanges _).mono (by simp))
      have hmonitor : (servoSample s).monitor = (sampledState s).monitor := by rw [hsample]; rfl
      refine ⟨fun hfew => ?_, fun hat => ?_⟩
      · rw [if_pos (by simpa using hfew)] at hsurvey
        have hnot : ¬surveySettleFalls s = true := fun h => by simpa [hsurvey, hp] using ((surveySettleFalls_iff hen).1 h).2
        exact ⟨hsettleRow.trans (congrArg _ (if_neg hnot)), _, hexec, honly, by simpa using hsurvey⟩
      · rw [if_neg (by simp [hat])] at hsurvey
        refine ⟨_, hexec, hsettleRow.trans (by rw [if_pos ((surveySettleFalls_iff hen).2 ⟨hp, by rw [hsurvey]⟩)]), honly, ?_⟩
        rw [hsurvey, hmonitor]
        simp
    case count =>
      rw [hcount (by simpa using hp)] at hsample
      have hruns' : surveyRuns s.survey = true := by simp [SurveyState.runs, hs]
      refine ⟨servoSample s, countedEntry (sampledState s) e, q.limitReached (countedEntry (sampledState s) e),
        q.fastReached (countedEntry (sampledState s) e), hexec, countedEntry_after hruns' hsample, Iff.rfl, Iff.rfl,
        fun hlimit hfew => ?_, fun by_ g note hby hg hnote => ?_⟩
      · obtain ⟨hcounted, hnot⟩ := countSample_goesOn hen hsample hp htable he hk rfl hlimit hfew
        refine ⟨hstepRow.trans (congrArg _ (if_neg hnot)), ?_, ?_⟩ <;> rw [hcounted]
        · exact honly.trans ((countedInto_onlyChanges _ _ _).mono (by simp))
        · simp [countedInto, countedEntry]
      · obtain ⟨hfalls, hfast, hlast, hnext⟩ := countSample_ends hen hruns' hsample hp htable he hk rfl hg hby
        have hclosed : closeStep .abort (done ++ [g]) = done ++ [g] := closeStep_ended (by simp [hg])
        have hleads := stepEnded_leads done (countedEntry (sampledState s) e) g s
        have hstill : surveyRuns (stepEnded done (countedEntry (sampledState s) e) g s).survey = true := by
          simp [SurveyState.runs, hs]
        subst hnote
        refine ⟨hstepRow.trans (congrArg _ (if_pos hfalls)), fun h => ?_, fun h hk1 => ?_, fun h hk1 htape T hT => ?_⟩
        · rw [hfast h]; exact surveyOwnEnd_ends hstill hleads hclosed
        · rw [hlast h hk1]; exact surveyOwnEnd_ends hstill hleads hclosed
        · rw [hnext h hk1, beginStep_survey (u := stepEnded done (countedEntry (sampledState s) e) g s) q (s.survey.k + 1)
            (by simpa using htape) (by simpa using hT)]
          refine ⟨(stepEnded_onlyChanges _ _ _ s).trans ((beginStep_onlyChanges q _ _).mono (by simp)), by simp [hs], rfl, rfl,
            rfl, rfl,
            by simp, fun hfrozen => ?_⟩
          simpa using stepEnded_link (s := s) done (countedEntry (sampledState s) e) g (by simpa using hfrozen)
  case range =>
    subst hx0
    obtain rfl : x1 = edgeFrom d s.tach.position := by rw [hx1]; cases d <;> rfl
    obtain ⟨w, hedge, wsurvey, wmonitor, wpos, wonly⟩ := rollerEdge_plain hlow hhigh hzone hheading hcues
    have hreach : q.reached w.tach.position = true ↔ reached := by rw [hreached, wpos, SurveyRequest.reached_iff]
    have hruns : surveyRuns w.survey = true := by simp [SurveyState.runs, wsurvey, hs]
    have hends := surveyRange_reached (s := w) (by rw [wsurvey, hs]) (by rw [wsurvey, hq])
    have hstays := surveyRange_notReached (s := w) (by rw [wsurvey, hq])
    refine ⟨_, (exec_rollerEdge_running hh).trans (congrArg _ hedge), by simpa using wpos, ?_, fun hno => ?_,
      fun hyes table htable => ?_⟩
    · by_cases hr : reached
      · rw [hends (hreach.2 hr), (surveyOwnEnd_record hruns).2, ← wmonitor]; rfl
      · rw [hstays (mt hreach.1 hr), wmonitor]
    · rw [hstays (mt hreach.1 hno)]
      exact ⟨wsurvey, wonly⟩
    · rw [hends (hreach.2 hyes)]
      exact surveyOwnEnd_ends hruns (.of_onlyChanges wsurvey wonly (by simp)) (closeStep_of_closed (by rwa [wsurvey]))

end Sys2Proof.Machine

namespace Sys2Proof.Machine

/-! ## The master record and the trim (R138, R143) -/

section Record

variable {s : State} {position speed v e : Int}

theorem masterPosition_answered {tag : Byte} {code : ResultCode} {body : List Byte} {t : State} (hs : Ready s)
    (h : answerMasterPosition position speed (restartLinkTimer s) = { state := t, code := code, body := body }) :
    Answered (.masterPosition tag position speed) s 0xC2 tag code body t :=
  answered_of_ready hs rfl rfl rfl rfl h

theorem answerMasterPosition_wrongMode (h : s.planner.mode ≠ .chase) :
    answerMasterPosition position speed s = refuse s .wrongMode := if_pos h

theorem answerMasterPosition_bad (hm : s.planner.mode = .chase) (h : position < -1000000000 ∨ 1000000000 < position) :
    answerMasterPosition position speed s = refuse s .badValue := by
  have hbad : positionOk position = false := by rw [← Bool.not_eq_true, positionOk_iff]; omega
  simp [answerMasterPosition, hm, hbad]

/-- In CHASE a record in range is taken with its speed clamped, and the reply says the state and the error it leaves (R138). -/
theorem answerMasterPosition_taken (hm : s.planner.mode = .chase) (hlow : -1000000000 ≤ position) (hhigh : position ≤ 1000000000)
    (hv : v = max (-12000) (min 12000 speed)) :
    answerMasterPosition position speed s =
      { state := takeMaster position v s, code := if v = speed then .ok else .okClamped
        body := outCode (takeMaster position v s).chase.state.code ++ outError (takeMaster position v s).chase.e } := by
  have hpos : positionOk position = true := (positionOk_iff position).2 ⟨hlow, hhigh⟩
  rw [answerMasterPosition, if_neg (by simp [hm]), if_neg (by simp [hpos]), clampInt_eq (by decide), ← hv, accept, okOr_not_bne]

/-- The clamp keeps the direction of the master. -/
theorem masterRunning_iff (hv : v = max (-12000) (min 12000 speed)) (position : Int) (age : Nat) :
    ({ position := position, speed := v, age := age } : MasterRec).running = true ↔ 0 < speed := by
  simp only [MasterRec.running, decide_eq_true_eq]
  omega

/-- The record with its error, stored (R138). -/
def recordStored (position v e : Int) (s : State) : State :=
  s.onChase fun c => { c with master := some { position := position, speed := v, age := 0 }, silence := some 0, e := some e }

/-- What each chase state makes of the record (R138). -/
theorem takeMaster_seek (hst : s.chase.state = .seek) (he : e = position + s.chase.offset - s.tach.position) :
    takeMaster position v s =
      seekRecord { position := position, speed := v, age := 0 } (recordStored position v e s) := by
  subst he; simp only [takeMaster, hst]; rfl

theorem takeMaster_parked (hst : s.chase.state = .parked) (he : e = position + s.chase.offset - s.tach.position) :
    takeMaster position v s =
      parkedRecord { position := position, speed := v, age := 0 } (recordStored position v e s) := by
  subst he; simp only [takeMaster, hst]; rfl

theorem takeMaster_follows (hst : s.chase.state = .runup ∨ s.chase.state = .matching ∨ s.chase.state = .locked)
    (he : e = position + s.chase.offset - s.tach.position) :
    takeMaster position v s =
      followRecord { position := position, speed := v, age := 0 } e (recordStored position v e s) := by
  subst he; rcases hst with hst | hst | hst <;> simp only [takeMaster, hst] <;> rfl

theorem takeMaster_freewheel (hst : s.chase.state = .freewheel) (he : e = position + s.chase.offset - s.tach.position) :
    takeMaster position v s = followRecord { position := position, speed := v, age := 0 } e
      (setChaseState .matching .resumed (recordStored position v e s)) := by
  subst he; simp only [takeMaster, hst]; rfl

/-! ### A record of a running master within the reseek threshold -/

variable {m : MasterRec}

theorem followRecord_runup (hm : m.running = true) (he : mag e ≤ s.params.reseek) (hst : s.chase.state = .runup) :
    followRecord m e s = s := by
  simp [followRecord, hm, he.not_gt, hst]

theorem followRecord_trims (hm : m.running = true) (he : mag e ≤ s.params.reseek) (hst : s.chase.state ≠ .runup) :
    followRecord m e s = trimRecord e s := by
  simp [followRecord, hm, he.not_gt, hst]

/-- The trim that an error gives, set (R143). -/
def trimmed (e : Int) (s : State) : State :=
  s.onCapstan fun c => { c with trim := max (-200) (min 200 (divTrunc (e * s.params.gain) 256)) }

theorem trimOf_eq (e : Int) (gain : Nat) : trimOf e gain = max (-200) (min 200 (divTrunc (e * gain) 256)) := clampInt_eq (by decide) _

theorem trimmed_onlyChanges (e : Int) (s : State) : OnlyChanges [.capstan] s (trimmed e s) := by
  intro b; cases b <;> simp [sameBlock, trimmed]

theorem State.onChase_onlyChanges (s : State) (f : Chase → Chase) : OnlyChanges [.chase] s (s.onChase f) := by
  intro b; cases b <;> simp [sameBlock]

/-- The trim and the runs of a record that neither locks nor loses the lock. -/
theorem trimmed_onChase_onlyChanges (e : Int) (s : State) (f : Chase → Chase) :
    OnlyChanges [.chase, .capstan] s ((trimmed e s).onChase f) :=
  ((trimmed_onlyChanges e s).mono (by simp)).trans ((State.onChase_onlyChanges _ f).mono (by simp))

/-- The tenth record in a row within the window locks the chase (R143). -/
theorem trimRecord_locks (hst : s.chase.state = .matching) (hnear : mag e ≤ s.params.window) (hrun : 9 ≤ s.chase.inRun) :
    trimRecord e s = setChaseState .locked .acquire ((trimmed e s).onChase fun c => { c with inRun := 0, outRun := 0 }) := by
  simp [trimRecord, hst, matchRecord, trimmed, trimOf_eq, hnear, show 10 ≤ s.chase.inRun + 1 by omega]

theorem trimRecord_matches (hst : s.chase.state = .matching) (h : ¬(mag e ≤ s.params.window ∧ 9 ≤ s.chase.inRun)) :
    trimRecord e s =
      (trimmed e s).onChase fun c => { c with inRun := if mag e ≤ s.params.window then s.chase.inRun + 1 else 0 } := by
  have hfew : ¬10 ≤ (if mag e ≤ s.params.window then s.chase.inRun + 1 else 0) := by split <;> omega
  simp [trimRecord, hst, matchRecord, trimmed, trimOf_eq, hfew]

/-- The fourth record in a row beyond the window loses the lock (R143). -/
theorem trimRecord_loses (hst : s.chase.state = .locked) (hfar : s.params.window < mag e) (hrun : 3 ≤ s.chase.outRun) :
    trimRecord e s = monitorEvent .chaseLosses .whole
      (setChaseState .matching .loss ((trimmed e s).onChase fun c => { c with inRun := 0, outRun := 0 })) := by
  simp [trimRecord, hst, lockedRecord, trimmed, trimOf_eq, hfar.not_ge, show 4 ≤ s.chase.outRun + 1 by omega]

theorem trimRecord_stays (hst : s.chase.state = .locked) (h : ¬(s.params.window < mag e ∧ 3 ≤ s.chase.outRun)) :
    trimRecord e s =
      (trimmed e s).onChase fun c => { c with outRun := if mag e ≤ s.params.window then 0 else s.chase.outRun + 1 } := by
  have hfew : ¬4 ≤ (if mag e ≤ s.params.window then 0 else s.chase.outRun + 1) := by split <;> omega
  simp [trimRecord, hst, lockedRecord, trimmed, trimOf_eq, hfew]

theorem trimRecord_onlyChanges (e : Int) (s : State) : OnlyChanges [.chase, .capstan, .lines, .monitor, .link] s (trimRecord e s) := by
  intro b; cases b <;> simp [sameBlock]

theorem trimRecord_capstan (e : Int) (s : State) :
    (trimRecord e s).capstan = { s.capstan with trim := max (-200) (min 200 (divTrunc (e * s.params.gain) 256)) } := by
  unfold trimRecord
  split <;> simp [trimOf_eq]

theorem trimRecord_chase_matching (hst : s.chase.state = .matching) :
    (trimRecord e s).chase =
      { s.chase with
        state := if mag e ≤ s.params.window ∧ 10 ≤ s.chase.inRun + 1 then .locked else .matching
        inRun := if mag e ≤ s.params.window ∧ s.chase.inRun + 1 < 10 then s.chase.inRun + 1 else 0
        outRun := if mag e ≤ s.params.window ∧ 10 ≤ s.chase.inRun + 1 then 0 else s.chase.outRun } := by
  by_cases h : mag e ≤ s.params.window ∧ 9 ≤ s.chase.inRun
  · have hfull : 10 ≤ s.chase.inRun + 1 := by omega
    rw [trimRecord_locks hst h.1 h.2]
    simp [trimmed, h.1, hfull, hfull.not_gt]
  · rw [trimRecord_matches hst h]
    by_cases hnear : mag e ≤ s.params.window
    · have hfew : s.chase.inRun + 1 < 10 := by omega
      simp [trimmed, hst, hnear, hfew, hfew.not_ge]
    · simp [trimmed, hst, hnear]

theorem trimRecord_chase_locked (hst : s.chase.state = .locked) :
    (trimRecord e s).chase =
      { s.chase with
        state := if s.params.window < mag e ∧ 4 ≤ s.chase.outRun + 1 then .matching else .locked
        outRun := if s.params.window < mag e ∧ s.chase.outRun + 1 < 4 then s.chase.outRun + 1 else 0
        inRun := if s.params.window < mag e ∧ 4 ≤ s.chase.outRun + 1 then 0 else s.chase.inRun } := by
  by_cases h : s.params.window < mag e ∧ 3 ≤ s.chase.outRun
  · have hfull : 4 ≤ s.chase.outRun + 1 := by omega
    rw [trimRecord_loses hst h.1 h.2]
    simp [trimmed, h.1, hfull, hfull.not_gt]
  · rw [trimRecord_stays hst h]
    by_cases hfar : s.params.window < mag e
    · have hfew : s.chase.outRun + 1 < 4 := by omega
      simp [trimmed, hst, hfar, hfar.not_ge, hfew, hfew.not_ge]
    · simp [trimmed, hst, hfar, not_lt.1 hfar]

theorem recordStored_onlyChanges (position v e : Int) (s : State) : OnlyChanges [.chase] s (recordStored position v e s) :=
  s.onChase_onlyChanges _

@[simp] theorem recordStored_frame (position v e : Int) (s : State) :
    (recordStored position v e s).tach = s.tach ∧ (recordStored position v e s).capstan = s.capstan ∧
      (recordStored position v e s).planner = s.planner ∧ (recordStored position v e s).zones = s.zones ∧
      (recordStored position v e s).params = s.params ∧ (recordStored position v e s).locate = s.locate ∧
      (recordStored position v e s).monitor = s.monitor ∧ (recordStored position v e s).link = s.link ∧
      (recordStored position v e s).lines = s.lines ∧
      (recordStored position v e s).chase =
        { s.chase with master := some { position := position, speed := v, age := 0 }, silence := some 0, e := some e } := by
  simp [recordStored]

end Record

/-- Settles O33: the refusals, the record in RUNUP, and what MATCH and LOCKED make of a record within the reseek threshold. -/
theorem masterRecordsSetTheTrim : Obligations.MasterRecordsSetTheTrim := by
  intro tag position speed v e s hs hv he
  refine ⟨fun hm => masterPosition_answered hs (answerMasterPosition_wrongMode (by simpa using hm)), fun hm => ⟨fun hbad =>
    masterPosition_answered hs (answerMasterPosition_bad (by simpa using hm) hbad), fun hlow hhigh hspeed hnear => ?_⟩⟩
  have hanswer := answerMasterPosition_taken (s := restartLinkTimer s) (by simpa using hm) hlow hhigh hv
  have he' : e = position + (restartLinkTimer s).chase.offset - (restartLinkTimer s).tach.position := by simpa using he
  have hrunning := (masterRunning_iff hv position 0).2 hspeed
  refine ⟨fun hst => ?_, fun hst => ?_⟩
  · have htake := (takeMaster_follows (v := v) (.inl (by simpa using hst)) he').trans
      (followRecord_runup hrunning (by simpa using hnear) (by simpa using hst))
    rw [htake] at hanswer
    exact masterPosition_answered hs (by simpa [recordStored] using hanswer)
  · have htake := (takeMaster_follows (v := v) (.inr (by simpa using hst)) he').trans (followRecord_trims hrunning
      (by simpa using hnear) (by rcases hst with hst | hst <;> simp [hst]))
    rw [htake] at hanswer
    have hchase (hmatch : s.chase.state = .matching) :=
      trimRecord_chase_matching (e := e) (s := recordStored position v e (restartLinkTimer s)) (by simpa using hmatch)
    have hchase' (hlocked : s.chase.state = .locked) :=
      trimRecord_chase_locked (e := e) (s := recordStored position v e (restartLinkTimer s)) (by simpa using hlocked)
    refine ⟨_, _, masterPosition_answered hs hanswer,
      ((recordStored_onlyChanges _ _ _ _).mono (by simp)).trans (trimRecord_onlyChanges e _), ?_, ?_, ?_, ?_, ?_, ?_⟩
    · rcases hst with hst | hst <;> simp [hchase, hchase', hst]
    · rcases hst with hst | hst <;> simp [hchase, hchase', hst]
    · rcases hst with hst | hst <;> simp [hchase, hchase', hst]
    · simp [trimRecord_capstan]
    · intro hmatch; simp [hchase hmatch]
    · intro hlocked; simp [hchase' hlocked]

end Sys2Proof.Machine

namespace Sys2Proof.Machine

/-! ## How a chase ends itself (R146) -/

section ChaseEnd

variable {s u : State} {c : Instr} {cause : ChaseCause}

/-- With no chase running there is none to end. -/
theorem endChase_over (h : s.chase.state = .off) : endChase cause s = s := if_pos h

/-- An ending of the unit's own leaves its record OFF, then HOLD at rest, and otherwise a CONTROLLED stop. -/
theorem chaseOwnEnd_running (hc : u.chase.state ≠ .off) (hm : u.planner.mode = .chase) (hn : u.planner.stopInForce = none) :
    OnlyChanges [.planner, .zones, .cues, .locate, .chase, .capstan, .lines, .fault, .link] u (chaseOwnEnd cause u) ∧
      (chaseOwnEnd cause u).chase = { u.chase with state := .off, master := none, silence := none } ∧
      (chaseOwnEnd cause u).capstan = { u.capstan with trim := 0 } ∧
      (chaseOwnEnd cause u).locate = u.locate.filter (fun l => l.owner ≠ .chase) ∧
      (chaseOwnEnd cause u).planner.mode = (if u.planner.vRef = 0 then .hold else .stopping) ∧
      (chaseOwnEnd cause u).planner.stopInForce = (if u.planner.vRef = 0 then none else some .controlled) ∧
      (chaseOwnEnd cause u).planner.goal = 0 ∧ (chaseOwnEnd cause u).planner.vRef = u.planner.vRef ∧
      (chaseOwnEnd cause u).planner.pinch.commandedClosed = false ∧ (chaseOwnEnd cause u).fault.record = u.fault.record ∧
      (chaseOwnEnd cause u).link = u.link.posted
        [.chase .off u.chase.state cause u.chase.e 0 u.chase.lead u.chase.doublings,
         .mode (chaseOwnEnd cause u).planner.mode none .chase (chaseOwnEnd cause u).planner.stopInForce .chase] := by
  obtain ⟨hplanner, hchase, hcapstan, hlocate, hlink⟩ := endChase_running (s := u) cause hc
  have hunit : endUnit .chase (endChase cause u) = endChase cause u := by
    simp only [endUnit, hplanner, hm]
    exact endChase_over (by rw [hchase])
  have hmode : (endChase cause u).planner.mode = .chase := by rw [hplanner, hm]
  obtain ⟨honly, emode, estop, -, egoal, ev, epinch, elink⟩ := restOrStop_ended (cause := .chase) (s := endChase cause u)
    (by simp [hmode, Mode.startsStop]) (by simp [hmode]) (by simp [hmode]) (by rw [hplanner, hn]) hunit
  have hends : OnlyChanges [.planner, .locate, .chase, .capstan, .lines, .link] u (endChase cause u) := by
    intro b; cases b <;> simp [sameBlock]
  have hv : (endChase cause u).planner.vRef = u.planner.vRef := by rw [hplanner]
  rw [hv] at emode estop
  rw [hlink, hmode] at elink
  exact ⟨(hends.mono (by simp)).trans (honly.mono (by simp)), ((honly .chase).resolve_left (by decide)).trans hchase,
    ((honly .capstan).resolve_left (by decide)).trans hcapstan, ((honly .locate).resolve_left (by decide)).trans hlocate,
    emode, estop, egoal, ev.trans hv, epinch, by simp [chaseOwnEnd], elink⟩

/-- A command that ends the chase itself, after it has changed no more than the record, its locate and the goal. -/
theorem chaseEnds_of (he : exec c s = .next (chaseOwnEnd cause u)) (hu : OnlyChanges [.planner, .locate, .chase] s u)
    (hlocate : u.locate.filter (fun l => l.owner ≠ .chase) = s.locate.filter (fun l => l.owner ≠ .chase))
    (hstate : u.chase.state = s.chase.state) (hnotice : u.chase.e = s.chase.e ∧ u.chase.lead = s.chase.lead ∧
        u.chase.doublings = s.chase.doublings)
    (hplanner : u.planner.mode = s.planner.mode ∧ u.planner.stopInForce = s.planner.stopInForce ∧ u.planner.vRef = s.planner.vRef)
    (hc : s.chase.state ≠ .off) (hm : s.planner.mode = .chase) (hn : s.planner.stopInForce = none) : ChaseEnds c s cause := by
  obtain ⟨hmode, hstop, hv⟩ := hplanner
  obtain ⟨he', hlead, hdoublings⟩ := hnotice
  have hcapstan : u.capstan = s.capstan := (hu .capstan).resolve_left (by decide)
  have hfault : u.fault = s.fault := (hu .fault).resolve_left (by decide)
  have hlink : u.link = s.link := (hu .link).resolve_left (by decide)
  obtain ⟨honly, tchase, tcapstan, tlocate, tmode, tstop, tgoal, tv, tpinch, trecord, tlink⟩ :=
    chaseOwnEnd_running (u := u) (cause := cause) (by rwa [hstate]) (by rwa [hmode]) (by rwa [hstop])
  rw [hv] at tmode tstop tv
  refine ⟨_, he, (hu.mono (by simp)).trans honly, by rw [tchase], by rw [tchase], by rw [tchase], by rw [tcapstan, hcapstan],
    tlocate.trans hlocate, tmode, tstop, tgoal, tv, tpinch, by rw [trecord, hfault], ?_⟩
  rw [tlink, hstate, he', hlead, hdoublings, hlink]
  rfl

/-- A command that ends the chase after the record alone has stepped on. -/
theorem chaseEnds_aged (he : exec c s = .next (chaseOwnEnd cause u))
    (hu : OnlyChanges [.locate, .chase] s u) (hlocate : u.locate.filter (fun l => l.owner ≠ .chase) = s.locate.filter
        (fun l => l.owner ≠ .chase))
    (hchase : u.chase.state = s.chase.state ∧ u.chase.e = s.chase.e ∧ u.chase.lead = s.chase.lead ∧
        u.chase.doublings = s.chase.doublings)
    (hc : s.chase.state ≠ .off) (hm : s.planner.mode = .chase) (hn : s.planner.stopInForce = none) : ChaseEnds c s cause := by
  have hplanner : u.planner = s.planner := (hu .planner).resolve_left (by decide)
  exact chaseEnds_of he (hu.mono (by simp)) hlocate hchase.1 hchase.2 (by simp [hplanner]) hc hm hn

/-- With no locate and no chase running, the end of a unit's operation leaves it so. -/
theorem restOrStop_idle (cause : StopCause) (hl : s.locate = none) (hc : s.chase.state = .off) :
    (restOrStop cause s).locate = none ∧ (restOrStop cause s).chase.state = .off := by
  have hunit : (endUnit cause s).locate = none ∧ (endUnit cause s).chase.state = .off := by
    unfold endUnit
    split
    · rw [finishLocate_none _ hl]; exact ⟨hl, hc⟩
    · rw [endChase_over hc]; exact ⟨hl, hc⟩
    · refine ⟨?_, by simpa using hc⟩
      unfold endSurveyBy endSurvey
      split <;> split <;> simp [dropLocateOf, hl]
    · exact ⟨hl, hc⟩
  rcases restOrStop_cases cause s with ⟨-, hrest⟩ | ⟨-, hstop⟩
  · rw [hrest]; simp [hl, hc]
  · rw [hstop]
    rcases stopDemand_cases .controlled cause s with ⟨h, -⟩ | ⟨-, h⟩ | ⟨hsev, -⟩ | ⟨hsev, -⟩ | ⟨-, -, h⟩ | ⟨-, -, h⟩
    · rw [h]; exact ⟨hl, hc⟩
    · rw [h]; simp [hl, hc]
    · cases hsev
    · cases hsev
    · rw [h]; simp [hunit]
    · rw [h]; simp [hl, hc]

end ChaseEnd

end Sys2Proof.Machine

namespace Sys2Proof.Machine

/-! ## The plan of a chase (R139) -/

section Plan

variable {s : State} {m : MasterRec} {x : Int}

theorem MasterRec.plan_eq (m : MasterRec) : m.plan = if 0 < m.speed then .running else .stopped := by
  simp [plan, running]

theorem parkPosition_eq (c : Chase) (m : MasterRec) :
    parkPosition c m = m.predicted + c.offset + if 0 < m.speed then divTrunc (m.speed * 80 * c.lead) 1000 else 0 := by
  simp [parkPosition, MasterRec.running]

/-- The tape may stand at a place, and go there (R139). -/
def reachable (s : State) (x : Int) : Prop :=
  (attrsAt s.zones x).dirs ≠ .none ∧ ¬(s.tach.position < x ∧ forbidden s .forward = true) ∧
    ¬(x < s.tach.position ∧ forbidden s .reverse = true)

/-- The record with its plan, before the locate of the plan starts. -/
def planned (m : MasterRec) (x : Int) (s : State) : State :=
  s.onChase fun c => { c with plan := some m.plan, pPark := x, halting := false }

@[simp] theorem planned_frame (m : MasterRec) (x : Int) (s : State) :
    (planned m x s).tach = s.tach ∧ (planned m x s).planner = s.planner ∧ (planned m x s).zones = s.zones ∧
      (planned m x s).locate = s.locate ∧ (planned m x s).fault = s.fault ∧ (planned m x s).link = s.link ∧
      (planned m x s).lines = s.lines ∧ (planned m x s).capstan = s.capstan ∧
      (planned m x s).chase = { s.chase with plan := some m.plan, pPark := x, halting := false } := by
  simp [planned]

theorem planned_onlyChanges (m : MasterRec) (x : Int) (s : State) : OnlyChanges [.chase] s (planned m x s) :=
  s.onChase_onlyChanges _

theorem makePlan_failed (hx : parkPosition s.chase m = x) (h : x < -1000000000 ∨ 1000000000 < x) :
    makePlan m s = chaseOwnEnd .failed (planned m x s) := by
  subst hx
  have hbad : positionOk (parkPosition s.chase m) = false := by rw [← Bool.not_eq_true, positionOk_iff]; omega
  simp [makePlan, hbad, planned]

theorem blockedAt_iff :
    ((attrsAt s.zones x).dirs = .none ∨ wayForbidden s x = true) ↔ ¬reachable s x := by
  rw [wayForbidden_iff, reachable]
  tauto

theorem makePlan_blocked (hx : parkPosition s.chase m = x) (hlow : -1000000000 ≤ x) (hhigh : x ≤ 1000000000) (h : ¬reachable s x) :
    makePlan m s = chaseOwnEnd .blocked (planned m x s) := by
  subst hx
  have hok : positionOk (parkPosition s.chase m) = true := (positionOk_iff _).2 ⟨hlow, hhigh⟩
  unfold makePlan
  dsimp only
  rw [if_neg (by simp [hok]), if_pos (by simpa using blockedAt_iff.2 h)]
  rfl

/-- A plan whose place the tape may go to starts its locate, or retargets the one that runs. -/
theorem makePlan_begins (hx : parkPosition s.chase m = x) (hlow : -1000000000 ≤ x) (hhigh : x ≤ 1000000000) (h : reachable s x) :
    makePlan m s = beginLocate .chase x none false 0 x (planned m x s) := by
  subst hx
  have hok : positionOk (parkPosition s.chase m) = true := (positionOk_iff _).2 ⟨hlow, hhigh⟩
  unfold makePlan
  dsimp only
  rw [if_neg (by simp [hok]), if_neg (by simpa using mt blockedAt_iff.1 (not_not.2 h))]
  rfl

theorem beginLocate_plan (x : Int) (s : State) :
    OnlyChanges [.locate, .planner] s (beginLocate .chase x none false 0 x s) ∧
      (∃ l, (beginLocate .chase x none false 0 x s).locate = some l ∧ l.owner = .chase ∧ l.aim = x ∧ l.thenPlay = false ∧
        l.attempts = 0) ∧
      (beginLocate .chase x none false 0 x s).planner.mode = s.planner.mode ∧
      (beginLocate .chase x none false 0 x s).planner.vRef = s.planner.vRef :=
  ⟨(publishLocate_onlyChanges _ s).mono (by simp), ⟨_, rfl, rfl, rfl, rfl, rfl⟩, rfl, rfl⟩

theorem makePlan_plans (hx : parkPosition s.chase m = x) (hlow : -1000000000 ≤ x) (hhigh : x ≤ 1000000000) (h : reachable s x) :
    OnlyChanges [.chase, .locate, .planner] s (makePlan m s) ∧
      (makePlan m s).chase = { s.chase with plan := some m.plan, pPark := x, halting := false } ∧
      (∃ l, (makePlan m s).locate = some l ∧ l.owner = .chase ∧ l.aim = x ∧ l.thenPlay = false ∧ l.attempts = 0) ∧
      (makePlan m s).planner.mode = s.planner.mode ∧ (makePlan m s).planner.vRef = s.planner.vRef := by
  obtain ⟨honly, hlocate, hmode, hv⟩ := beginLocate_plan x (planned m x s)
  rw [makePlan_begins hx hlow hhigh h]
  refine ⟨((planned_onlyChanges m x s).mono (by simp)).trans (honly.mono (by simp)), ?_, hlocate, by rw [hmode]; simp,
    by rw [hv]; simp⟩
  rw [(honly .chase).resolve_left (by decide)]
  simp

end Plan

end Sys2Proof.Machine

namespace Sys2Proof.Machine

/-! ## What each chase state makes of a record (R139, R141, R143, R144) -/

section Records

variable {s : State} {m : MasterRec} {position speed v e : Int}

/-! ### Halting (R144) -/

theorem followRecord_halts (h : s.params.reseek < mag e ∨ ¬m.running = true) :
    followRecord m e s = haltChase (if s.params.reseek < mag e then .reseek else .masterStopped) s := by
  by_cases hfar : s.params.reseek < mag e
  · simp [followRecord, hfar]
  · simp [followRecord, hfar, h.resolve_left hfar]

theorem haltChase_equations (cause : ChaseCause) (s : State) :
    (haltChase cause s).chase = { s.chase with state := .seek, halting := true, plan := none, inRun := 0, outRun := 0 } ∧
      (haltChase cause s).capstan = { s.capstan with trim := 0 } ∧
      (haltChase cause s).planner =
        { s.planner with pinch := s.planner.pinch.toOpen, goal := 0, unitPoints := [], matchRun := 0, matchTimer := none } ∧
      (haltChase cause s).lines.pinch = false ∧
      (haltChase cause s).link = txTake (enqueueNotice
        (.chase .seek s.chase.state cause s.chase.e 0 s.chase.lead s.chase.doublings) s.link) := by
  simp [haltChase]

theorem haltChase_onlyChanges (cause : ChaseCause) (s : State) :
    OnlyChanges [.chase, .capstan, .planner, .lines, .link] s (haltChase cause s) := by
  intro b; cases b <;> simp [sameBlock]

/-! ### SEEK (R139) -/

theorem seekRecord_halting (h : s.chase.halting = true) : seekRecord m s = s := if_pos h

theorem seekRecord_first (h : s.chase.halting = false) (hp : s.chase.plan = none) : seekRecord m s = makePlan m s := by
  simp [seekRecord, h, hp]

theorem parkMoved_iff (place : Int) :
    parkMoved s m place = true ↔ s.params.window < mag (m.predicted + s.chase.offset - place) := by simp [parkMoved]

/-- The plan of a seek or of a park is kept by a record that agrees with it. -/
def planKept (m : MasterRec) (place : Int) (s : State) : Prop :=
  (s.chase.plan = some .running ∧ m.running = true) ∨
    (s.chase.plan = some .stopped ∧ ¬m.running = true ∧ mag (m.predicted + s.chase.offset - place) ≤ s.params.window)

/-- A record that changes between running and stopped, or moves a stopped master, asks for a new plan. -/
def planChanged (m : MasterRec) (place : Int) (s : State) : Prop :=
  (s.chase.plan = some .running ∧ ¬m.running = true) ∨
    (s.chase.plan = some .stopped ∧ (m.running = true ∨ s.params.window < mag (m.predicted + s.chase.offset - place)))

theorem seekRecord_kept {l : LocateRec} (h : s.chase.halting = false) (hl : s.locate = some l) (hk : planKept m l.aim s) :
    seekRecord m s = s := by
  obtain ⟨hp, hr⟩ | ⟨hp, hr, hnear⟩ := hk
  · simp [seekRecord, h, hl, hp, hr]
  · simp [seekRecord, h, hl, hp, hr, parkMoved, hnear.not_gt]

theorem seekRecord_changed {l : LocateRec} (h : s.chase.halting = false) (hl : s.locate = some l) (hk : planChanged m l.aim s) :
    seekRecord m s = makePlan m s := by
  obtain ⟨hp, hr⟩ | ⟨hp, hr | hfar⟩ := hk
  · simp [seekRecord, h, hl, hp, hr]
  · simp [seekRecord, h, hl, hp, hr]
  · simp [seekRecord, h, hl, hp, parkMoved, hfar]

/-! ### PARKED (R141) -/

theorem parkedRecord_kept (hk : planKept m s.chase.pPark s) : parkedRecord m s = s := by
  obtain ⟨hp, hr⟩ | ⟨hp, hr, hnear⟩ := hk
  · simp [parkedRecord, hp, hr]
  · simp [parkedRecord, hp, hr, parkMoved, hnear.not_gt]

theorem parkedRecord_changed (hk : planChanged m s.chase.pPark s) :
    parkedRecord m s = reseekFrom
      (if s.chase.plan = some .running then .masterStopped else if m.running = true then .masterStarted else .masterMoved) m s := by
  obtain ⟨hp, hr⟩ | ⟨hp, h⟩ := hk
  · simp [parkedRecord, hp, hr]
  · by_cases hr : m.running = true
    · simp [parkedRecord, hp, hr]
    · simp [parkedRecord, hp, hr, parkMoved, h.resolve_left hr]

/-! ### CHASE_LOCKED and CHASE_LOSS (R143) -/

theorem recordTaken_iff : recordTaken s = true ↔ Ready s := by
  simp [recordTaken, Link.free, Link.mayDispatch, Ready]

/-- The state that a record in range leaves of MATCH. -/
theorem takeMaster_state_matching (hst : s.chase.state = .matching) (he : e = position + s.chase.offset - s.tach.position)
    (hv : v = max (-12000) (min 12000 speed)) :
    (takeMaster position v s).chase.state = .locked ↔
      0 < speed ∧ mag e ≤ s.params.reseek ∧ mag e ≤ s.params.window ∧ 9 ≤ s.chase.inRun := by
  have hrunning := masterRunning_iff hv position 0
  rw [takeMaster_follows (.inr (.inl hst)) he]
  by_cases h : 0 < speed ∧ mag e ≤ s.params.reseek
  · rw [followRecord_trims (hrunning.2 h.1) (by simpa using h.2) (by simp [hst]), trimRecord_chase_matching (by simpa using hst)]
    simp [h]
  · rw [followRecord_halts (by rw [hrunning]; simp only [recordStored_frame]; omega), (haltChase_equations _ _).1]
    simp only [reduceCtorEq, false_iff]
    tauto

theorem takeMaster_state_locked (hst : s.chase.state = .locked) (he : e = position + s.chase.offset - s.tach.position)
    (hv : v = max (-12000) (min 12000 speed)) :
    (takeMaster position v s).chase.state = .matching ↔
      0 < speed ∧ mag e ≤ s.params.reseek ∧ s.params.window < mag e ∧ 3 ≤ s.chase.outRun := by
  have hrunning := masterRunning_iff hv position 0
  rw [takeMaster_follows (.inr (.inr hst)) he]
  by_cases h : 0 < speed ∧ mag e ≤ s.params.reseek
  · rw [followRecord_trims (hrunning.2 h.1) (by simpa using h.2) (by simp [hst]), trimRecord_chase_locked (by simpa using hst)]
    simp [h]
  · rw [followRecord_halts (by rw [hrunning]; simp only [recordStored_frame]; omega), (haltChase_equations _ _).1]
    simp only [reduceCtorEq, false_iff]
    tauto

theorem answerMasterPosition_refused (h : ¬(s.planner.mode = .chase ∧ -1000000000 ≤ position ∧ position ≤ 1000000000)) :
    (answerMasterPosition position speed s).state = s := by
  by_cases hm : s.planner.mode = .chase
  · rw [answerMasterPosition_bad hm (by by_contra hin; exact h ⟨hm, by omega, by omega⟩)]; rfl
  · rw [answerMasterPosition_wrongMode hm]; rfl

/-- The record that brings the in-run to 10. -/
theorem lockRecordFalls_iff (he : e = position + s.chase.offset - s.tach.position) :
    lockRecordFalls position speed s = true ↔
      s.planner.mode = .chase ∧ -1000000000 ≤ position ∧ position ≤ 1000000000 ∧ 0 < speed ∧ mag e ≤ s.params.reseek ∧
        s.chase.state = .matching ∧ mag e ≤ s.params.window ∧ 9 ≤ s.chase.inRun := by
  simp only [lockRecordFalls, Bool.and_eq_true, beq_iff_eq]
  by_cases h : s.planner.mode = .chase ∧ -1000000000 ≤ position ∧ position ≤ 1000000000
  · rw [answerMasterPosition_taken h.1 h.2.1 h.2.2 rfl]
    constructor
    · rintro ⟨hst, hlock⟩
      have := (takeMaster_state_matching hst he rfl).1 hlock
      tauto
    · rintro ⟨-, -, -, hspeed, hnear, hst, hin, hrun⟩
      exact ⟨hst, (takeMaster_state_matching hst he rfl).2 ⟨hspeed, hnear, hin, hrun⟩⟩
  · rw [answerMasterPosition_refused h]
    constructor
    · rintro ⟨hst, hlock⟩; simp [hst] at hlock
    · tauto

theorem lossRecordFalls_iff (he : e = position + s.chase.offset - s.tach.position) :
    lossRecordFalls position speed s = true ↔
      s.planner.mode = .chase ∧ -1000000000 ≤ position ∧ position ≤ 1000000000 ∧ 0 < speed ∧ mag e ≤ s.params.reseek ∧
        s.chase.state = .locked ∧ s.params.window < mag e ∧ 3 ≤ s.chase.outRun := by
  simp only [lossRecordFalls, Bool.and_eq_true, beq_iff_eq]
  by_cases h : s.planner.mode = .chase ∧ -1000000000 ≤ position ∧ position ≤ 1000000000
  · rw [answerMasterPosition_taken h.1 h.2.1 h.2.2 rfl]
    constructor
    · rintro ⟨hst, hlock⟩
      have := (takeMaster_state_locked hst he rfl).1 hlock
      tauto
    · rintro ⟨-, -, -, hspeed, hnear, hst, hin, hrun⟩
      exact ⟨hst, (takeMaster_state_locked hst he rfl).2 ⟨hspeed, hnear, hin, hrun⟩⟩
  · rw [answerMasterPosition_refused h]
    constructor
    · rintro ⟨hst, hlock⟩; simp [hst] at hlock
    · tauto

end Records

end Sys2Proof.Machine

namespace Sys2Proof.Machine

/-! ## Silence, and the unit steps of a chase (R139 to R142, R145) -/

section Silence

variable {s : State} {n : Nat}

theorem matched_iff (st : ChaseState) : st.matched = true ↔ st = .matching ∨ st = .locked := by cases st <;> simp [ChaseState.matched]

theorem exec_chaseSilence (h : s.held = none) :
    exec .chaseSilence s = .next
      (if s.chase.state.matched = true ∧ 200 < s.params.freewheel then
        freewheel (s.onChase fun c => { c with silence := some (max 800 (c.silence.getD 0)) })
      else s) :=
  whileRunning_of_running h

theorem exec_chaseMasterLost (h : s.held = none) :
    exec .chaseMasterLost s = .next (if s.chase.state = .off then s else chaseOwnEnd .masterLost s) :=
  whileRunning_of_running (f := fun s => if s.chase.state = .off then s else chaseOwnEnd .masterLost s) h

theorem freewheel_equations (s : State) :
    (freewheel s).chase = { s.chase with state := .freewheel, inRun := 0, outRun := 0 } ∧
      (freewheel s).lines.recordInhibit = inhibitLevel (freewheel s) ∧
      (freewheel s).link = txTake (enqueueNotice
        (.chase .freewheel s.chase.state .silence s.chase.e s.capstan.trim s.chase.lead s.chase.doublings) s.link) := by
  simp [freewheel, setChaseState_lines, inhibitLevel]

theorem freewheel_onlyChanges (s : State) : OnlyChanges [.chase, .lines, .link] s (freewheel s) :=
  ((s.onChase_onlyChanges _).mono (by simp)).trans (setChaseState_onlyChanges _ _ _)

/-- The chase record a unit step on: its record one step older, and the silence timer one step on (R138, R145). -/
def Chase.stepped (c : Chase) : Chase :=
  { c with master := c.master.map fun m => { m with age := m.age + 1 }, silence := c.silence.map (· + 1) }

/-- The state of a unit step once the record's age and the silence timer have counted it. -/
def agedState (s : State) : State := s.onChase Chase.stepped

@[simp] theorem agedState_frame (s : State) :
    (agedState s).tach = s.tach ∧ (agedState s).capstan = s.capstan ∧ (agedState s).planner = s.planner ∧
      (agedState s).zones = s.zones ∧ (agedState s).params = s.params ∧ (agedState s).locate = s.locate ∧
      (agedState s).packs = s.packs ∧ (agedState s).servo = s.servo ∧
      (agedState s).fault = s.fault ∧ (agedState s).link = s.link ∧ (agedState s).lines = s.lines ∧
      (agedState s).chase = s.chase.stepped := by
  simp [agedState]

@[simp] theorem stepped_frame (c : Chase) :
    c.stepped.state = c.state ∧ c.stepped.offset = c.offset ∧ c.stepped.plan = c.plan ∧ c.stepped.halting = c.halting ∧
      c.stepped.pPark = c.pPark ∧ c.stepped.lead = c.lead ∧ c.stepped.doublings = c.doublings ∧ c.stepped.e = c.e ∧
      c.stepped.master = c.master.map (fun m => { m with age := m.age + 1 }) :=
  ⟨rfl, rfl, rfl, rfl, rfl, rfl, rfl, rfl, rfl⟩

theorem agedState_onlyChanges (s : State) : OnlyChanges [.chase] s (agedState s) :=
  s.onChase_onlyChanges _

theorem agedState_eq {c : Chase} (hn : s.chase.silence = some n)
    (hc : c = { s.chase with silence := some (n + 1), master := s.chase.master.map fun m => { m with age := m.age + 1 } }) :
    s.chase.stepped = c := by
  simp [hc, Chase.stepped, hn]

/-- What the count of a unit step brings: the end at the limit, FREEWHEEL at 200 ms, and else nothing (R145). -/
theorem silenceStep_eq (hn : s.chase.silence = some n) :
    silenceStep s =
      if 4 * s.params.freewheel ≤ n + 1 then chaseOwnEnd .masterLost (agedState s)
      else if n + 1 = 800 ∧ s.chase.state.matched = true then freewheel (agedState s)
      else agedState s := by
  have hsilence : (agedState s).chase.silence = some (n + 1) := by simp [Chase.stepped, hn]
  show (match (agedState s).chase.silence with
    | some n =>
      if 4 * s.params.freewheel ≤ n then chaseOwnEnd .masterLost (agedState s)
      else if n = 800 ∧ s.chase.state.matched = true then freewheel (agedState s)
      else agedState s
    | none => agedState s) = _
  rw [hsilence]

/-- The end of a running chase leaves no record and no silence timer, whatever they had counted. -/
theorem endChase_aged (cause : ChaseCause) (hc : s.chase.state ≠ .off) : endChase cause (agedState s) = endChase cause s := by
  have hc' : (agedState s).chase.state ≠ .off := by simpa using hc
  rw [endChase, endChase, if_neg hc, if_neg hc']
  rfl

theorem unitStep_silent (hc : s.chase.state ≠ .off) (hn : s.chase.silence = some n) (hlimit : 4 * s.params.freewheel ≤ n + 1)
    (hl : s.locate = none) : unitStep s = chaseOwnEnd .masterLost s := by
  have hstep : silenceStep s = chaseOwnEnd .masterLost s := by
    rw [silenceStep_eq hn, if_pos hlimit, chaseOwnEnd, endChase_aged _ hc, chaseOwnEnd]
  have hnone : (endChase .masterLost s).locate = none := by rw [(endChase_running .masterLost hc).2.2.2.1, hl]; rfl
  obtain ⟨hl', hc'⟩ := restOrStop_idle .chase hnone (endChase_off .masterLost s)
  rw [unitStep, if_neg hc, hstep]
  simp only [chaseOwnEnd, hl', stepChase, hc']

theorem silenceStep_counts (hn : s.chase.silence = some n) (hlimit : n + 1 < 4 * s.params.freewheel)
    (h : ¬(n + 1 = 800 ∧ s.chase.state.matched = true)) : silenceStep s = agedState s := by
  rw [silenceStep_eq hn, if_neg hlimit.not_ge, if_neg h]

/-- Below the limit a chase's step is one of its locate, or else of its state (R130). -/
theorem unitStep_chaseLocate {l : LocateRec} (hc : s.chase.state ≠ .off) (hstep : silenceStep s = agedState s)
    (hl : s.locate = some l) :
    unitStep s = stepLocate l (agedState s) := by
  simp [unitStep, hc, hstep, hl]

theorem unitStep_chase (hc : s.chase.state ≠ .off) (hstep : silenceStep s = agedState s) (hl : s.locate = none) :
    unitStep s = stepChase (agedState s) := by
  simp [unitStep, hc, hstep, hl]

theorem unitStep_freewheels (hc : s.chase.state.matched = true) (hn : s.chase.silence = some n)
    (hlimit : n + 1 < 4 * s.params.freewheel) (h800 : n + 1 = 800) (hl : s.locate = none) :
    unitStep s = followStep (freewheel (agedState s)) := by
  have hoff : s.chase.state ≠ .off := by rcases (matched_iff _).1 hc with h | h <;> simp [h]
  have hstep : silenceStep s = freewheel (agedState s) := by
    rw [silenceStep_eq hn, if_neg hlimit.not_ge, if_pos ⟨h800, hc⟩]
  have hstate : (freewheel (agedState s)).chase.state = .freewheel := by rw [(freewheel_equations _).1]
  have hnone : (freewheel (agedState s)).locate = none := by simpa using hl
  rw [unitStep, if_neg hoff, hstep]
  simp only [hnone, stepChase, hstate]

theorem followStep_onlyChanges (s : State) : OnlyChanges [.planner] s (followStep s) := by
  intro b; cases b <;> simp [sameBlock]

end Silence

/-! ### SEEK and PARKED (R139, R141) -/

section SeekSteps

variable {s : State} {m : MasterRec}

theorem seekStep_plans (hm : s.chase.master = some m) (hh : s.chase.halting = true) (hv : s.planner.vRef = 0)
    (hp : s.planner.pinch = .opened) : seekStep s = makePlan m s := by
  simp [seekStep, hm, hh, hv, hp]

theorem seekStep_waits (h : ¬(s.chase.halting = true ∧ s.planner.vRef = 0 ∧ s.planner.pinch = .opened ∧ s.chase.master ≠ none)) :
    seekStep s = s.onPlanner fun p => { p with goal := 0 } := by
  unfold seekStep
  split
  next m hm => exact if_neg fun ⟨hh, hv, hp⟩ => h ⟨hh, hv, hp, by simp [hm]⟩
  next => rfl

theorem parkedStep_waits (h : s.chase.plan ≠ some .running) : parkedStep s = s := by
  unfold parkedStep
  split
  next hp _ => exact absurd hp h
  next => rfl

theorem parkedStep_running (hp : s.chase.plan = some .running) (hm : s.chase.master = some m) :
    parkedStep s = if remainingTo s.chase m ≤ runDistance s then startRunup s else s := by
  simp [parkedStep, hp, hm]

theorem startRunup_equations (s : State) :
    (startRunup s).chase = { s.chase with state := .runup } ∧
      (startRunup s).planner = { s.planner with goal := mmPerS s.capstan.vPlay, matchRun := 0, matchTimer := none } := by
  simp [startRunup, playGoal]

theorem startRunup_onlyChanges (s : State) : OnlyChanges [.chase, .planner, .lines, .link] s (startRunup s) := by
  intro b; cases b <;> simp [sameBlock]

/-- A limit of acceleration that a change of the goal leaves (R102). -/
theorem runDistance_congr {t : State} (hcapstan : t.capstan = s.capstan) (hpacks : t.packs = s.packs) (hservo : t.servo = s.servo)
    (hacc : t.planner.aAcc = s.planner.aAcc ∧ t.planner.torque = s.planner.torque) : runDistance t = runDistance s := by
  simp only [runDistance, aAccEff, hcapstan, hpacks, hservo, hacc]

/-! ### The ends of a seek locate (R140) -/

theorem chaseLocateEnds_parks (hm : s.chase.master = some m)
    (h : s.chase.plan ≠ some .running ∨ runDistance s ≤ remainingTo s.chase m) :
    chaseLocateEnds .done s = park (dropLocateOf .chase s) := by
  unfold chaseLocateEnds
  dsimp only
  split
  next hp hm' =>
    obtain rfl : m = _ := Option.some_inj.1 (hm.symm.trans hm')
    exact if_neg (h.resolve_left (not_not.2 hp)).not_gt
  all_goals simp_all

theorem chaseLocateEnds_doubles (hm : s.chase.master = some m) (hp : s.chase.plan = some .running)
    (h : remainingTo s.chase m < runDistance s) : chaseLocateEnds .done s = doubleLead m (dropLocateOf .chase s) := by
  unfold chaseLocateEnds
  rw [hp, hm]
  exact if_pos h

theorem chaseLocateEnds_missed (s : State) : chaseLocateEnds .missed s = chaseOwnEnd .failed (dropLocateOf .chase s) := rfl

theorem chaseLocateEnds_blocked (s : State) : chaseLocateEnds .blocked s = chaseOwnEnd .blocked (dropLocateOf .chase s) := rfl

theorem park_equations (s : State) :
    (park s).chase = { s.chase with state := .parked } ∧ (park s).planner = { s.planner with goal := 0, unitPoints := [] } ∧
      (park s).link = txTake (enqueueNotice
        (.chase .parked s.chase.state .acquire s.chase.e s.capstan.trim s.chase.lead s.chase.doublings) s.link) := by
  simp [park]

theorem park_onlyChanges (s : State) : OnlyChanges [.chase, .planner, .lines, .link] s (park s) := by
  intro b; cases b <;> simp [sameBlock]

/-- The chase with its lead doubled, back in SEEK (R140). -/
def leadDoubled (s : State) : State :=
  setChaseState .seek .leadDoubled (s.onChase fun c => { c with lead := c.lead * 2, doublings := c.doublings + 1 })

theorem doubleLead_eq (m : MasterRec) (s : State) :
    doubleLead m s = if s.chase.doublings < 4 then makePlan m (leadDoubled s) else chaseOwnEnd .failed s := rfl

@[simp] theorem leadDoubled_frame (s : State) :
    (leadDoubled s).tach = s.tach ∧ (leadDoubled s).planner = s.planner ∧ (leadDoubled s).zones = s.zones ∧
      (leadDoubled s).capstan = s.capstan ∧ (leadDoubled s).locate = s.locate ∧
      (leadDoubled s).chase = { s.chase with state := .seek, lead := s.chase.lead * 2, doublings := s.chase.doublings + 1 } ∧
      (leadDoubled s).link = txTake (enqueueNotice
        (.chase .seek s.chase.state .leadDoubled s.chase.e s.capstan.trim (s.chase.lead * 2) (s.chase.doublings + 1)) s.link) := by
  simp [leadDoubled]

theorem leadDoubled_onlyChanges (s : State) : OnlyChanges [.chase, .lines, .link] s (leadDoubled s) :=
  ((s.onChase_onlyChanges _).mono (by simp)).trans (setChaseState_onlyChanges _ _ _)

end SeekSteps

end Sys2Proof.Machine

namespace Sys2Proof.Machine

/-! ## A chase's records as rows (O34) -/

section RecordRows

variable {s : State} {position speed v e trim x : Int} {tag : Byte}

theorem exec_chaseLocked (tag : Byte) (position speed : Int) (s : State) :
    exec (.chaseLocked tag position speed) s =
      if recordTaken s && lockRecordFalls position speed s then exec (.masterPosition tag position speed) s else .next s := by
  show Host.Outcome.next (if _ then requestArrives _ s else s) = _
  split <;> rfl

theorem exec_chaseLoss (tag : Byte) (position speed : Int) (s : State) :
    exec (.chaseLoss tag position speed) s =
      if recordTaken s && lossRecordFalls position speed s then exec (.masterPosition tag position speed) s else .next s := by
  show Host.Outcome.next (if _ then requestArrives _ s else s) = _
  split <;> rfl

/-- R143: the record that locks, with its notice and the line that follows (R118). -/
theorem lockedBy_equations (e : Int) {s : State} (hm : s.planner.mode = .chase) :
    OnlyChanges [.chase, .capstan, .lines, .link] s
        (setChaseState .locked .acquire ((trimmed e s).onChase fun c => { c with inRun := 0, outRun := 0 })) ∧
      (setChaseState .locked .acquire ((trimmed e s).onChase fun c => { c with inRun := 0, outRun := 0 })).lines.recordInhibit =
        s.zones.current.inhibit := by
  exact ⟨((trimmed_onChase_onlyChanges e s _).mono (by simp)).trans ((setChaseState_onlyChanges _ _ _).mono (by simp)), by
    simp [setChaseState_lines, trimmed, hm]⟩

/-- R143: the record that loses the lock posts its notice, and then counts (R164, log entry 71). -/
theorem lostBy_equations (e : Int) {s : State} (hm : s.planner.mode = .chase) :
    OnlyChanges [.chase, .capstan, .lines, .monitor, .link] s (monitorEvent .chaseLosses .whole
        (setChaseState .matching .loss ((trimmed e s).onChase fun c => { c with inRun := 0, outRun := 0 }))) ∧
      (monitorEvent .chaseLosses .whole
        (setChaseState .matching .loss ((trimmed e s).onChase fun c => { c with inRun := 0, outRun := 0 }))).lines.recordInhibit =
        true ∧
      CountsOnce .chaseLosses s (monitorEvent .chaseLosses .whole
        (setChaseState .matching .loss ((trimmed e s).onChase fun c => { c with inRun := 0, outRun := 0 }))) := by
  exact ⟨(((trimmed_onChase_onlyChanges e s _).mono (by simp)).trans ((setChaseState_onlyChanges _ _ _).mono (by simp))).trans
    ((monitorEvent_onlyChanges _ _ _).mono (by simp)), by simp [setChaseState_lines, trimmed, hm],
    (monitorEvent_counts _ _ _).of_monitor (by simp [trimmed]) rfl⟩

@[simp] theorem recordStored_forbidden (d : Dir) : forbidden (recordStored position v e s) d = forbidden s d := by simp [forbidden]

theorem reachable_congr {t : State} (htach : t.tach = s.tach) (hzones : t.zones = s.zones)
    (hforbidden : ∀ d, forbidden t d = forbidden s d) : reachable t x ↔ reachable s x := by
  simp only [reachable, htach, hzones, hforbidden]

@[simp] theorem MasterRec.predicted_fresh (position v : Int) :
    ({ position := position, speed := v, age := 0 } : MasterRec).predicted = position := by
  simp [predicted, divTrunc]

/-- P_park of a plan made by the record itself, whose age is 0 (R139). -/
theorem parkPosition_fresh (c : Chase) (hv : v = max (-12000) (min 12000 speed))
    (hx : x = position + c.offset + (if 0 < speed then divTrunc (v * 80 * c.lead) 1000 else 0)) :
    parkPosition c { position := position, speed := v, age := 0 } = x := by
  have hsign : 0 < v ↔ 0 < speed := by omega
  simp [parkPosition_eq, hx, hsign]

/-- The plan of a chase seen from a record of age 0. -/
theorem planKept_fresh (place : Int) (hv : v = max (-12000) (min 12000 speed)) :
    planKept { position := position, speed := v, age := 0 } place s ↔
      (s.chase.plan = some .running ∧ 0 < speed) ∨
        (s.chase.plan = some .stopped ∧ speed ≤ 0 ∧ mag (position + s.chase.offset - place) ≤ s.params.window) := by
  simp only [planKept, masterRunning_iff hv, not_lt, MasterRec.predicted_fresh]

theorem planChanged_fresh (place : Int) (hv : v = max (-12000) (min 12000 speed)) :
    planChanged { position := position, speed := v, age := 0 } place s ↔
      (s.chase.plan = some .running ∧ speed ≤ 0) ∨
        (s.chase.plan = some .stopped ∧ (0 < speed ∨ s.params.window < mag (position + s.chase.offset - place))) := by
  simp only [planChanged, masterRunning_iff hv, not_lt, MasterRec.predicted_fresh]

/-- A record that finds the tape PARKED and asks for another place sends the chase back to SEEK with a new plan (R141). -/
theorem reseekFrom_plans {m : MasterRec} (cause : ChaseCause) (hx : parkPosition s.chase m = x) (hlow : -1000000000 ≤ x)
    (hhigh : x ≤ 1000000000) (h : reachable s x) :
    OnlyChanges [.chase, .locate, .planner, .lines, .link] s (reseekFrom cause m s) ∧
      (reseekFrom cause m s).chase = { s.chase with state := .seek, plan := some m.plan, pPark := x, halting := false } ∧
      (∃ l, (reseekFrom cause m s).locate = some l ∧ l.owner = .chase ∧ l.aim = x ∧ l.thenPlay = false) ∧
      (reseekFrom cause m s).link = txTake (enqueueNotice
        (.chase .seek s.chase.state cause s.chase.e s.capstan.trim s.chase.lead s.chase.doublings) s.link) := by
  obtain ⟨honly, hchase, ⟨l, hl, howner, haim, hthen, -⟩, -, -⟩ := makePlan_plans (s := setChaseState .seek cause s) (m := m) (x := x)
    (by simpa [parkPosition] using hx) hlow hhigh ((reachable_congr (by simp) (by simp) (by simp [forbidden])).2 h)
  refine ⟨((setChaseState_onlyChanges .seek cause s).mono (by simp)).trans (honly.mono (by simp)), ?_, ⟨l, hl, howner, haim,
    hthen⟩, ?_⟩
  · rw [reseekFrom, hchase]; simp
  · rw [reseekFrom, (honly .link).resolve_left (by decide)]; simp

/-- The state in which a record that halts the chase finds it: one in FREEWHEEL is back in MATCH before it (R144, R145). -/
theorem takeMaster_halting (hv : v = max (-12000) (min 12000 speed)) (he : e = position + s.chase.offset - s.tach.position)
    (hst : s.chase.state ∈ [ChaseState.runup, .matching, .locked, .freewheel]) (h : s.params.reseek < mag e ∨ speed ≤ 0) :
    ∃ u, takeMaster position v s = haltChase (if s.params.reseek < mag e then .reseek else .masterStopped) u ∧
      OnlyChanges [.chase, .lines, .link] (recordStored position v e s) u ∧
      { u.chase with state := .seek } = { (recordStored position v e s).chase with state := .seek } ∧
      (s.chase.state ≠ .freewheel → u = recordStored position v e s) := by
  have hhalts : s.params.reseek < mag e ∨ ¬({ position := position, speed := v, age := 0 } : MasterRec).running = true := by
    rwa [masterRunning_iff hv, not_lt]
  by_cases hfree : s.chase.state = .freewheel
  · refine ⟨setChaseState .matching .resumed (recordStored position v e s),
      (takeMaster_freewheel hfree he).trans ((followRecord_halts (by simpa using hhalts)).trans (by simp)),
      (setChaseState_onlyChanges _ _ _).mono (by simp), by simp, fun hne => absurd hfree hne⟩
  · exact ⟨_, (takeMaster_follows (by simpa [hfree] using hst) he).trans ((followRecord_halts (by simpa using hhalts)).trans
      (by simp)),
      OnlyChanges.refl _ _, rfl, fun _ => rfl⟩

/-- A record beyond the reseek threshold, or of a stopped master, halts a chase that follows (R144). -/
theorem takeMaster_halts (hv : v = max (-12000) (min 12000 speed)) (he : e = position + s.chase.offset - s.tach.position)
    (hst : s.chase.state ∈ [ChaseState.runup, .matching, .locked, .freewheel]) (h : s.params.reseek < mag e ∨ speed ≤ 0) :
    OnlyChanges [.chase, .capstan, .planner, .lines, .link] (recordStored position v e s) (takeMaster position v s) ∧
      (takeMaster position v s).chase =
        { (recordStored position v e s).chase with state := .seek, halting := true, plan := none, inRun := 0, outRun := 0 } ∧
      (takeMaster position v s).capstan = { s.capstan with trim := 0 } ∧
      (takeMaster position v s).planner =
        { s.planner with pinch := s.planner.pinch.toOpen, goal := 0, unitPoints := [], matchRun := 0, matchTimer := none } ∧
      (takeMaster position v s).lines.pinch = false ∧
      (s.chase.state ≠ .freewheel → (takeMaster position v s).link = txTake (enqueueNotice
        (.chase .seek s.chase.state (if s.params.reseek < mag e then .reseek else .masterStopped) (some e) 0 s.chase.lead
          s.chase.doublings) s.link)) := by
  obtain ⟨u, ht, huonly, huchase, husame⟩ := takeMaster_halting hv he hst h
  obtain ⟨hchase, hcapstan, hplanner, hline, hlink⟩ :=
    haltChase_equations (if s.params.reseek < mag e then .reseek else .masterStopped) u
  have huplanner : u.planner = s.planner := ((huonly .planner).resolve_left (by decide)).trans (by simp)
  have hucapstan : u.capstan = s.capstan := ((huonly .capstan).resolve_left (by decide)).trans (by simp)
  rw [ht]
  refine ⟨(huonly.mono (by simp)).trans (haltChase_onlyChanges _ u), ?_, by rw [hcapstan, hucapstan], by rw [hplanner,
    huplanner], hline,
    fun hne => ?_⟩
  · exact hchase.trans (congrArg (fun c => { c with halting := true, plan := none, inRun := 0, outRun := 0 }) huchase)
  · rw [hlink, husame hne]; simp

end RecordRows

end Sys2Proof.Machine

namespace Sys2Proof.Machine

/-! ## The ends of a seek locate, with the chase a step on (R140) -/

section SeekEnds

variable {s : State} {l : LocateRec}

theorem dropLocateOf_chase (hl : s.locate = some l) (ho : l.owner = .chase) : dropLocateOf .chase s = s.onLocate fun _ => none := by
  simp [dropLocateOf, State.onLocate, hl, ho, Option.filter]

/-- The state in which a seek locate hands over that it has settled: the chase a step on, the locate gone, its goal 0. -/
def seekSettled (s : State) : State :=
  ((agedState s).onPlanner fun p => { p with goal := 0, unitPoints := [] }).onLocate fun _ => none

@[simp] theorem seekSettled_frame (s : State) :
    (seekSettled s).tach = s.tach ∧ (seekSettled s).capstan = s.capstan ∧ (seekSettled s).zones = s.zones ∧
      (seekSettled s).packs = s.packs ∧ (seekSettled s).servo = s.servo ∧ (seekSettled s).link = s.link ∧
      (seekSettled s).planner = { s.planner with goal := 0, unitPoints := [] } ∧ (seekSettled s).locate = none ∧
      (seekSettled s).chase = s.chase.stepped := by
  simp [seekSettled]

theorem seekSettled_onlyChanges (s : State) : OnlyChanges [.chase, .locate, .planner] s (seekSettled s) := by
  intro b; cases b <;> simp [sameBlock, seekSettled, agedState]

@[simp] theorem seekSettled_forbidden (s : State) (d : Dir) : forbidden (seekSettled s) d = forbidden s d := by
  cases d <;> simp [forbidden, Planner.blocked]

/-- A settled seek locate is handed over within the tolerance, at the fortieth quiet step (R133, R140). -/
theorem unitStep_seekSettles (hc : s.chase.state ≠ .off) (hstep : silenceStep s = agedState s) (hl : s.locate = some l)
    (ho : l.owner = .chase) (hp : l.phase = .settle) (hrun : 39 ≤ l.settleRun) (hquiet : mag s.tach.vMeas < 2000)
    (hnear : mag (l.aim - s.tach.position) ≤ s.params.tolerance) :
    ∃ w, unitStep s = chaseLocateEnds .done w ∧ dropLocateOf .chase w = seekSettled s ∧ w.chase = s.chase.stepped ∧
      runDistance w = runDistance s := by
  have hsettled : 40 ≤ settleNext l (agedState s) := by
    simp [settleNext, hquiet]; omega
  have hnear' : l.distance (agedState s).tach.position ≤ (agedState s).params.tolerance := by simpa [LocateRec.distance] using hnear
  refine ⟨publishLocate { l with settleRun := settleNext l (agedState s) } (agedState s), ?_, ?_, by simp, rfl⟩
  · rw [unitStep_chaseLocate hc hstep hl, stepLocate_ends ((locateStep_settle hp).trans (settleStep_done hsettled hnear')), ho]
    rfl
  · rw [dropLocateOf_chase (l := { l with settleRun := settleNext l (agedState s) }) rfl ho, publishLocate]
    simp [locateGoal, locatePoints, hp, seekSettled]
    rfl

/-- Its chase is PARKED, unless the master runs and has left less than d_run (R140). -/
theorem unitStep_seekParks {m : MasterRec} (hc : s.chase.state ≠ .off) (hstep : silenceStep s = agedState s) (hl : s.locate = some l)
    (ho : l.owner = .chase) (hp : l.phase = .settle) (hrun : 39 ≤ l.settleRun) (hquiet : mag s.tach.vMeas < 2000)
    (hnear : mag (l.aim - s.tach.position) ≤ s.params.tolerance) (hm : s.chase.stepped.master = some m) :
    (s.chase.plan ≠ some .running ∨ runDistance s ≤ remainingTo s.chase.stepped m → unitStep s = park (seekSettled s)) ∧
      (s.chase.plan = some .running → remainingTo s.chase.stepped m < runDistance s → unitStep s = doubleLead m (seekSettled s)) := by
  obtain ⟨w, hsettles, hdrop, hchase, hd⟩ := unitStep_seekSettles hc hstep hl ho hp hrun hquiet hnear
  rw [hsettles, ← hdrop]
  exact ⟨fun h => chaseLocateEnds_parks (hchase ▸ hm) (by rwa [hd, hchase]),
    fun hplan h => chaseLocateEnds_doubles (hchase ▸ hm) (by rwa [hchase]) (by rwa [hd, hchase])⟩

@[simp] theorem leadDoubled_forbidden (s : State) (d : Dir) : forbidden (leadDoubled s) d = forbidden s d := by simp [forbidden]

/-- A doubled lead gives a new plan from SEEK (R140). -/
theorem doubleLead_plans {m : MasterRec} {x : Int} (hfew : s.chase.doublings < 4) (hx : parkPosition (leadDoubled s).chase m = x)
    (hlow : -1000000000 ≤ x) (hhigh : x ≤ 1000000000) (h : reachable s x) :
    OnlyChanges [.chase, .locate, .planner, .lines, .link] s (doubleLead m s) ∧
      (doubleLead m s).chase =
        { s.chase with
          state := .seek, plan := some m.plan, pPark := x, halting := false, lead := s.chase.lead * 2
          doublings := s.chase.doublings + 1 } ∧
      (∃ l, (doubleLead m s).locate = some l ∧ l.owner = .chase ∧ l.aim = x ∧ l.thenPlay = false ∧ l.attempts = 0) ∧
      (doubleLead m s).planner.mode = s.planner.mode ∧ (doubleLead m s).planner.vRef = s.planner.vRef ∧
      (doubleLead m s).link = txTake (enqueueNotice
        (.chase .seek s.chase.state .leadDoubled s.chase.e s.capstan.trim (s.chase.lead * 2) (s.chase.doublings + 1)) s.link) := by
  obtain ⟨honly, hchase, hlocate, hmode, hv⟩ :=
    makePlan_plans hx hlow hhigh ((reachable_congr (by simp) (by simp) (by simp)).2 h)
  rw [doubleLead_eq, if_pos hfew]
  refine ⟨((leadDoubled_onlyChanges s).mono (by simp)).trans (honly.mono (by simp)), by rw [hchase]; simp, hlocate,
    hmode.trans (by simp),
    hv.trans (by simp), ?_⟩
  rw [(honly .link).resolve_left (by decide)]
  simp

/-- A creep that has passed the aim re-approaches it, in motion, and so ends MISSED or BLOCKED or goes on (R131, R132). -/
theorem passed_reapproaches (hp : l.phase = .creep) (hv : s.planner.vRef ≠ 0) (hfar : s.params.tolerance < mag
    (l.aim - s.tach.position))
    (hpassed : (l.dir = .forward ∧ l.aim < s.tach.position) ∨ (l.dir = .reverse ∧ s.tach.position < l.aim)) :
    l.reapproaches s ∧ l.toward s.tach.position = if l.dir = .forward then .reverse else .forward := by
  have htoward : l.toward s.tach.position = if l.dir = .forward then .reverse else .forward := by
    rw [LocateRec.toward_eq]
    rcases hpassed with ⟨hd, h⟩ | ⟨hd, h⟩
    · simp [hd, h, h.not_gt]
    · simp [hd, h]
  refine ⟨⟨hfar, .inl ⟨hp, fun h => hv h.2.1, ?_⟩⟩, htoward⟩
  rw [htoward]
  rcases hpassed with ⟨hd, -⟩ | ⟨hd, -⟩ <;> simp [hd]

end SeekEnds

end Sys2Proof.Machine

namespace Sys2Proof.Machine

/-- Settles O34: what each chase state makes of a record, then silence and the unit steps of a chase. -/
theorem chaseLockAndSilence : Obligations.ChaseLockAndSilence := by
  refine ⟨?records, ?steps⟩
  case records =>
    intro tag position speed v e trim x s s' reply code plan hv he htrim hcode hreply hplan hx hs'
    obtain rfl : s' = recordStored position v e (restartLinkTimer s) := hs'
    have he' : e = position + (restartLinkTimer s).chase.offset - (restartLinkTimer s).tach.position := by simpa using he
    have hrunning := masterRunning_iff hv position 0
    refine ⟨fun h => ?notLocked, fun h => ?notLost, fun hs hm hlow hhigh => ?_⟩
    case notLocked =>
      rw [exec_chaseLocked, if_neg]
      rwa [Bool.and_eq_true, recordTaken_iff, lockRecordFalls_iff he]
    case notLost =>
      rw [exec_chaseLoss, if_neg]
      rwa [Bool.and_eq_true, recordTaken_iff, lossRecordFalls_iff he]
    have hanswered {t : State} (ht : takeMaster position v (restartLinkTimer s) = t) (hte : t.chase.e = some e)
        {st : ChaseState} (hst : t.chase.state = st) : Answered (.masterPosition tag position speed) s 0xC2 tag code (reply st) t := by
      subst hst
      have h := answerMasterPosition_taken (s := restartLinkTimer s) (by simpa using hm) hlow hhigh hv
      rw [ht, hte, ← hcode, ← hreply] at h
      exact masterPosition_answered hs h
    have hpark :
        parkPosition (recordStored position v e (restartLinkTimer s)).chase { position := position, speed := v, age := 0 } = x :=
      parkPosition_fresh _ hv (by simpa using hx)
    have hreach : reachable (recordStored position v e (restartLinkTimer s)) x ↔ reachable s x :=
      reachable_congr (by simp) (by simp) (by simp)
    have hplan' : ({ position := position, speed := v, age := 0 } : MasterRec).plan = plan := by
      rw [hplan]; simp only [MasterRec.plan, hrunning]
    refine ⟨fun hspeed hnear hst hin hrun => ?locks, fun hspeed hnear hst hout hrun => ?loses, fun hst hhalt => ?halting,
      fun hst hhalt hp => ⟨fun hxlow hxhigh hdirs hfwd hrev => ?plans, fun hbad hn => ?fails⟩,
      fun hst hhalt l hl howner => ⟨fun hkept => ?seekKept, fun hchanged hxlow hxhigh hdirs hfwd hrev => ?retargets⟩,
      fun hst => ⟨fun hkept => ?parkKept, fun hchanged hxlow hxhigh hdirs hfwd hrev => ?unparks⟩,
      fun hst hhalts => ?halts, fun hst hspeed hnear hrun => ?resumes⟩
    case locks =>
      have ht := ((takeMaster_follows (v := v) (.inr (.inl (by simpa using hst))) he').trans (followRecord_trims (hrunning.2 hspeed)
        (by simpa using hnear) (by simp [hst]))).trans (trimRecord_locks (by simpa using hst)
        (by simpa using hin) (by simpa using hrun))
      have hsame : exec (.chaseLocked tag position speed) s = exec (.masterPosition tag position speed) s := by
        rw [exec_chaseLocked, if_pos]
        rw [Bool.and_eq_true, recordTaken_iff, lockRecordFalls_iff he]
        exact ⟨hs, hm, hlow, hhigh, hspeed, hnear, hst, hin, hrun⟩
      obtain ⟨honly, hline⟩ := lockedBy_equations e (s := recordStored position v e (restartLinkTimer s)) (by simpa using hm)
      refine ⟨_, hsame.trans (hanswered ht rfl rfl), hsame, honly, rfl, ?_, by simpa using hline, ?_⟩
      · simp [trimmed, htrim]
      · simp [trimmed, htrim, hst]
    case loses =>
      have ht := ((takeMaster_follows (v := v) (.inr (.inr (by simpa using hst))) he').trans (followRecord_trims (hrunning.2 hspeed)
        (by simpa using hnear) (by simp [hst]))).trans (trimRecord_loses (by simpa using hst)
        (by simpa using hout) (by simpa using hrun))
      have hsame : exec (.chaseLoss tag position speed) s = exec (.masterPosition tag position speed) s := by
        rw [exec_chaseLoss, if_pos]
        rw [Bool.and_eq_true, recordTaken_iff, lossRecordFalls_iff he]
        exact ⟨hs, hm, hlow, hhigh, hspeed, hnear, hst, hout, hrun⟩
      obtain ⟨honly, hline, hcounts⟩ := lostBy_equations e (s := recordStored position v e (restartLinkTimer s)) (by simpa using hm)
      refine ⟨_, hsame.trans (hanswered ht (by simp [trimmed]) (by simp)), hsame, honly, by simp [trimmed], ?_, hline,
        hcounts.of_monitor (by simp) rfl, fun hfrozen => ?_⟩
      · simp [trimmed, htrim]
      · rw [monitorEvent_link (by rw [hfrozen]; simp [trimmed])]
        simp [trimmed, htrim, hst]
    case halting =>
      exact hanswered ((takeMaster_seek (by simpa using hst) he').trans (seekRecord_halting (by simpa using hhalt))) rfl
        (by simpa using hst)
    case plans =>
      have ht := (takeMaster_seek (v := v) (by simpa using hst) he').trans (seekRecord_first
        (by simpa using hhalt) (by simpa using hp))
      obtain ⟨honly, hchase, ⟨l, hl, howner, haim, hthen, hattempts⟩, hmode, hv'⟩ :=
        makePlan_plans hpark hxlow hxhigh (hreach.2 ⟨hdirs, hfwd, hrev⟩)
      refine ⟨_, l, hanswered ht (by rw [hchase]; rfl) (by rw [hchase]; simpa using hst), honly, ?_, hl, howner, haim, hthen,
        hattempts, hmode.trans (by simpa using hm), hv'.trans (by simp)⟩
      rw [hchase, hplan']
      simp [hhalt]
    case fails =>
      have ht := (takeMaster_seek (v := v) (by simpa using hst) he').trans (seekRecord_first
        (by simpa using hhalt) (by simpa using hp))
      obtain ⟨cause, hends⟩ : ∃ cause, takeMaster position v (restartLinkTimer s) =
          chaseOwnEnd cause (planned { position := position, speed := v, age := 0 } x
            (recordStored position v e (restartLinkTimer s))) := by
        by_cases hout : x < -1000000000 ∨ 1000000000 < x
        · exact ⟨_, ht.trans (makePlan_failed hpark hout)⟩
        · refine ⟨_, ht.trans (makePlan_blocked hpark (by omega) (by omega) (mt hreach.1 fun ⟨hdirs, hfwd, hrev⟩ => ?_))⟩
          rcases hbad with h | h | h | h | h
          exacts [hout (.inl h), hout (.inr h), hdirs h, hfwd h, hrev h]
      obtain ⟨-, hchase, hcapstan, -, hmode, -⟩ := chaseOwnEnd_running (cause := cause)
        (u := planned { position := position, speed := v, age := 0 } x (recordStored position v e (restartLinkTimer s)))
        (by simp [hst]) (by simpa using hm) (by simpa using hn)
      exact ⟨_, hanswered hends (by rw [hchase]; simp) (by rw [hchase]), by rw [hchase], by rw [hcapstan]; simp, by rw [hmode]; simp⟩
    case seekKept =>
      exact hanswered ((takeMaster_seek (by simpa using hst) he').trans (seekRecord_kept (by simpa using hhalt) (by simpa using hl)
        ((planKept_fresh l.aim hv).2 (by simpa using hkept)))) rfl (by simpa using hst)
    case retargets =>
      have ht := (takeMaster_seek (v := v) (by simpa using hst) he').trans (seekRecord_changed (by simpa using hhalt)
        (by simpa using hl) ((planChanged_fresh l.aim hv).2 (by simpa using hchanged)))
      obtain ⟨honly, hchase, ⟨l', hl', howner', haim, hthen, hattempts⟩, hmode, hv'⟩ :=
        makePlan_plans hpark hxlow hxhigh (hreach.2 ⟨hdirs, hfwd, hrev⟩)
      refine ⟨_, l', hanswered ht (by rw [hchase]; rfl) (by rw [hchase]; simpa using hst), honly, ?_, hl', howner', haim, hthen,
        hattempts, hmode.trans (by simpa using hm), hv'.trans (by simp)⟩
      rw [hchase, hplan']
      simp [hhalt]
    case parkKept =>
      exact hanswered ((takeMaster_parked (by simpa using hst) he').trans (parkedRecord_kept
        ((planKept_fresh _ hv).2 (by simpa using hkept)))) rfl (by simpa using hst)
    case unparks =>
      have ht := (takeMaster_parked (v := v) (by simpa using hst) he').trans (parkedRecord_changed
        ((planChanged_fresh _ hv).2 (by simpa using hchanged)))
      obtain ⟨honly, hchase, ⟨l, hl, howner, haim, hthen⟩, hlink⟩ :=
        reseekFrom_plans _ hpark hxlow hxhigh (hreach.2 ⟨hdirs, hfwd, hrev⟩)
      refine ⟨_, l, hanswered ht (by rw [hchase]; rfl) (by rw [hchase]), honly, ?_, hl, howner, haim, hthen, ?_⟩
      · rw [hchase, hplan']
      · rw [hlink]
        simp [hrunning, hst]
    case halts =>
      obtain ⟨honly, hchase, hcapstan, hplanner, hline, hlink⟩ := takeMaster_halts (s := restartLinkTimer s) hv he'
        (by simpa using hst) (by simpa using hhalts)
      refine ⟨_, hanswered rfl (by rw [hchase]; rfl) (by rw [hchase]), honly, hchase, by rw [hcapstan]; simp,
        by rw [hplanner]; simpa using hm, by rw [hplanner], by rw [hplanner]; simp, by rw [hplanner]; simp, by rw [hplanner]; simp, hline, fun hne => ?_⟩
      simpa using hlink (by simpa using hne)
    case resumes =>
      have ht := ((takeMaster_freewheel (v := v) (by simpa using hst) he').trans (followRecord_trims (hrunning.2 hspeed)
        (by simpa using hnear) (by simp))).trans (trimRecord_matches (by simp) (by simpa using fun _ => hrun))
      refine ⟨_, hanswered ht (by simp [trimmed]) (by simp [trimmed]), ?_, ?_, ?_, ?_⟩
      · exact ((setChaseState_onlyChanges _ _ _).mono (by simp)).trans ((trimmed_onChase_onlyChanges _ _ _).mono (by simp))
      · simp [trimmed]
      · simp [trimmed, htrim]
      · simp [trimmed, hst]
  case steps =>
    intro s hh
    have hexec := exec_locateUnitStep hh
    refine ⟨fun h => ?_, fun hst hlong => ?_, fun hoff => ?_, fun hc hm hn => ?_, fun n c hc hn hcount => ?_⟩
    · rw [exec_chaseSilence hh, if_neg (by rwa [matched_iff])]
    · obtain ⟨hchase, hline, hlink⟩ :=
        freewheel_equations (s.onChase fun c => { c with silence := some (max 800 (c.silence.getD 0)) })
      refine ⟨_, (exec_chaseSilence hh).trans (congrArg _ (if_pos ⟨(matched_iff _).2 hst, hlong⟩)), ?_, by rw [hchase], by rw [hchase],
        by rw [hchase], by rw [hchase]; rfl, hline, hlink⟩
      exact ((s.onChase_onlyChanges _).mono (by simp)).trans (freewheel_onlyChanges _)
    · rw [exec_chaseMasterLost hh, if_pos hoff]
    · exact chaseEnds_aged ((exec_chaseMasterLost hh).trans (congrArg _ (if_neg hc))) (OnlyChanges.refl _ s) rfl
        ⟨rfl, rfl, rfl, rfl⟩ hc hm hn
    obtain rfl : s.chase.stepped = c := agedState_eq hn hcount
    have haged : (s.onChase fun _ => s.chase.stepped) = agedState s := rfl
    have hcounts (hlimit : n + 1 < 4 * s.params.freewheel) (h : s.chase.state = .seek ∨ s.chase.state = .parked) :
        silenceStep s = agedState s :=
      silenceStep_counts hn hlimit fun h800 => by rcases h with h | h <;> simp [h, ChaseState.matched] at h800
    refine ⟨fun m x pred rest dRun lead reach hm hstop hst hlimit hmaster hpred hx hreach hrest hdRun => ?seeks,
      fun hl hlimit => ?limit, fun hl hlimit => ⟨fun hst h800 => ?freewheels, fun hst hwaits => ?waits, fun hst => ?parks⟩⟩
    case limit =>
      rw [hexec, exec_chaseMasterLost hh, if_neg hc, unitStep_silent hc hn hlimit hl]
    case freewheels =>
      have hstep := unitStep_freewheels ((matched_iff _).2 hst) hn hlimit h800 hl
      refine ⟨_, hexec.trans (congrArg _ hstep), ((agedState_onlyChanges s).mono (by simp)).trans
        (((freewheel_onlyChanges _).mono (by simp)).trans ((followStep_onlyChanges _).mono (by simp))), ?_⟩
      rw [(followStep_frame _).2.2.2.2.2.2.2.2.2.1, (freewheel_equations _).1]
      simp
    case waits =>
      have hstep := unitStep_chase hc (hcounts hlimit (.inl hst)) hl
      rw [hexec, hstep, haged]
      simp only [stepChase, agedState_frame, stepped_frame, hst]
      rw [seekStep_waits (by simpa using hwaits)]
    case parks =>
      have hstep : unitStep s = parkedStep (agedState s) := by
        rw [unitStep_chase hc (hcounts hlimit (.inr hst)) hl]
        simp only [stepChase, agedState_frame, stepped_frame, hst]
      refine ⟨fun hp => ?_, fun m rest dRun hp hmaster hrest hdRun => ?_⟩
      · rw [hexec, hstep, parkedStep_waits (by simpa using hp), haged]
      · have hrest' : remainingTo (agedState s).chase { m with age := m.age + 1 } = rest := by
          rw [hrest]; simp [remainingTo, MasterRec.predicted]
        have hdRun' : runDistance (agedState s) = dRun := hdRun.symm
        have hrun := parkedStep_running (s := agedState s) (m := { m with age := m.age + 1 }) (by simpa using hp) (by simp [hmaster])
        rw [hrest', hdRun'] at hrun
        refine ⟨fun hfar => ?_, fun hnear => ?_⟩
        · rw [hexec, hstep, hrun, if_neg hfar.not_ge, haged]
        · obtain ⟨hchase, hplanner⟩ := startRunup_equations (agedState s)
          refine ⟨_, hexec.trans (congrArg _ (hstep.trans (hrun.trans (if_pos hnear)))),
            ((agedState_onlyChanges s).mono (by simp)).trans (startRunup_onlyChanges _), by rw [hchase]; simp, by rw [hplanner]; simp⟩
    case seeks =>
      have hstep := hcounts hlimit (.inl hst)
      have hmaster' : (agedState s).chase.master = some { m with age := m.age + 1 } := by simp [hmaster]
      have hpred' : ({ m with age := m.age + 1 } : MasterRec).predicted = pred := hpred.symm
      have hplan : ({ m with age := m.age + 1 } : MasterRec).plan = if 0 < m.speed then .running else .stopped := MasterRec.plan_eq _
      have hpark (hlead : lead = s.chase.lead) : parkPosition (agedState s).chase { m with age := m.age + 1 } = x := by
        rw [parkPosition_eq, hpred', hx, hlead]; simp
      refine ⟨fun hl hhalt hv hp hlead => ?plans, fun l hl ho => ⟨fun hp hrun hquiet hnear => ⟨fun h => ?parked, fun hrunning hclose =>
        ⟨fun hfew hlead hlow hhigh hr => ?doubles, fun hmany => ?exhausted⟩⟩, fun hp hv hfar hpassed => ?passed⟩⟩
      case plans =>
        have hplans : unitStep s = makePlan { m with age := m.age + 1 } (agedState s) := by
          rw [unitStep_chase hc hstep hl, ← seekStep_plans hmaster' (by simpa using hhalt) (by simpa using hv) (by simpa using hp)]
          simp only [stepChase, agedState_frame, stepped_frame, hst]
        have hends (cause : ChaseCause) (h : unitStep s = chaseOwnEnd cause (planned { m with age := m.age + 1 } x (agedState s))) :
            ChaseEnds .locateUnitStep s cause :=
          chaseEnds_aged (hexec.trans (congrArg _ h))
            (((agedState_onlyChanges s).mono (by simp)).trans ((planned_onlyChanges _ x _).mono (by simp))) (by simp)
            (by simp) hc hm hstop
        have hfree : reachable (agedState s) x ↔ reach :=
          (reachable_congr (by simp) (by simp) (by simp [forbidden])).trans hreach.symm
        refine ⟨fun hlow hhigh hr => ?_, fun hout => hends _ (hplans.trans (makePlan_failed (hpark hlead) hout)),
          fun hlow hhigh hr => hends _ (hplans.trans (makePlan_blocked (hpark hlead) hlow hhigh (mt hfree.1 hr)))⟩
        obtain ⟨honly, hchase, ⟨l, hl', howner, haim, hthen, hattempts⟩, hmode, hv'⟩ :=
          makePlan_plans (hpark hlead) hlow hhigh (hfree.2 hr)
        refine ⟨_, l, hexec.trans (congrArg _ hplans), ((agedState_onlyChanges s).mono (by simp)).trans honly, ?_, hl', howner,
          haim, hthen, hattempts, hmode.trans (by simpa using hm), hv'.trans (by simpa using hv)⟩
        rw [hchase, hplan]; simp
      case passed =>
        obtain ⟨hagain, htoward⟩ := passed_reapproaches (s := agedState s) hp (by simpa using hv) (by simpa using hfar)
          (by simpa using hpassed)
        have hends {outcome : LocateOutcome} {cause : ChaseCause} (h : locateStep l (agedState s) = .ends outcome (agedState s))
            (ho' : chaseLocateEnds outcome (agedState s) = chaseOwnEnd cause (dropLocateOf .chase (agedState s))) :
            ChaseEnds .locateUnitStep s cause := by
          have hdrop := dropLocateOf_chase (s := agedState s) (by simpa using hl) ho
          rw [hdrop] at ho'
          refine chaseEnds_aged (u := (agedState s).onLocate fun _ => none) ?_ ?_ ?_ (by simp) hc hm hstop
          · rw [hexec, unitStep_chaseLocate hc hstep hl, stepLocate_ends h, ho, ← ho']; rfl
          · intro b; cases b <;> simp [sameBlock, agedState]
          · simp [hl, ho, Option.filter]
        have hagain' := locateStep_reapproaches hagain
        have hback (hf : forbidden s (if l.dir = .forward then .reverse else .forward) = true) :
            forbidden (agedState s) ((l.counted (agedState s)).toward (agedState s).tach.position) = true := by
          rw [show (l.counted (agedState s)).toward (agedState s).tach.position = _ from htoward]
          simpa [forbidden] using hf
        exact ⟨fun h => hends (hagain'.trans (reapproach_missed h)) (chaseLocateEnds_missed _),
          fun h hf => hends (hagain'.trans (reapproach_blocked h (hback hf))) (chaseLocateEnds_blocked _)⟩
      all_goals
        obtain ⟨hparks, hdoubles⟩ := unitStep_seekParks hc hstep hl ho hp hrun hquiet hnear hmaster'
        have hrest' : remainingTo s.chase.stepped { m with age := m.age + 1 } = rest := by
          rw [remainingTo, hpred', hrest]; rfl
        have hdRun' : runDistance s = dRun := hdRun.symm
        rw [hrest', hdRun'] at hparks hdoubles
      case parked =>
        obtain ⟨hchase, hplanner, hlink⟩ := park_equations (seekSettled s)
        refine ⟨_, hexec.trans (congrArg _ (hparks h)), ((seekSettled_onlyChanges s).mono (by simp)).trans
          ((park_onlyChanges _).mono (by simp)), by rw [hchase]; simp, by simp, by rw [hplanner]; simp, ?_⟩
        rw [hlink]; simp [hst]
      case doubles =>
        have hpark : parkPosition (leadDoubled (seekSettled s)).chase { m with age := m.age + 1 } = x := by
          rw [parkPosition_eq, hpred', hx, hlead]; simp [mul_comm]
        obtain ⟨honly, hchase, ⟨l', hl', howner, haim, hthen, hattempts⟩, hmode, hv, hlink⟩ := doubleLead_plans (s := seekSettled s)
          (by simpa using hfew) hpark hlow hhigh ((reachable_congr (by simp) (by simp) (by simp)).2 (hreach.1 hr))
        refine ⟨_, l', hexec.trans (congrArg _ (hdoubles hrunning hclose)), ((seekSettled_onlyChanges s).mono (by simp)).trans honly,
          ?_, hl', howner, haim, hthen, hattempts, hmode.trans (by simpa using hm), hv.trans (by simp), ?_⟩
        · rw [hchase, hplan, hlead]; simp [hst, mul_comm]
        · rw [hlink, hlead]; simp [hst, mul_comm]
      case exhausted =>
        have hends : unitStep s = chaseOwnEnd .failed (seekSettled s) := by
          rw [hdoubles hrunning hclose, doubleLead_eq, if_neg (by simpa using hmany)]
        exact chaseEnds_of (hexec.trans (congrArg _ hends)) ((seekSettled_onlyChanges s).mono (by simp))
          (by simp [hl, ho, Option.filter]) (by simp) (by simp) (by simp) hc hm hstop

end Sys2Proof.Machine
